-- ==== Sys2Proof/Word.lean ====
section
/-! DEFINITION. The word, byte, time and number types of the part, and how an endpoint's global
number, port and local index go together (spec/00_scope.md, section 4). -/

namespace Sys2Proof

/-- A register or payload word is 16 bits (section 4.1). -/
abbrev Word := BitVec 16

abbrev Byte := BitVec 8

/-- A point on the 32-bit microsecond count (R161). -/
abbrev Time := BitVec 32

/-- P0 to P3. -/
abbrev Port := Fin 4

/-- A local endpoint index, 0 to 7. -/
abbrev EpIndex := Fin 8

/-- A global endpoint number, 0 to 31. -/
abbrev EpId := Fin 32

abbrev ChanId := Fin 16

abbrev GroupId := Fin 8

/-- A message record, M0 to M63. -/
abbrev RecId := Fin 64

/-- A memory block, 0 to 127. -/
abbrev BlockId := Fin 128

/-- An attention item: 0 to 7 for a local endpoint, 8 for PORT. -/
abbrev Item := Fin 9

/-- One of the eight requesters of the memory arbiter (section 1.7). -/
abbrev Requester := Fin 8

/-- Endpoint p.e has the global number 8p+e (section 2.1). -/
def globalOf (p : Port) (e : EpIndex) : EpId :=
  ⟨8 * p.val + e.val, by omega⟩

/-- The port of a global endpoint number. -/
def portOf (e : EpId) : Port :=
  ⟨e.val / 8, by omega⟩

/-- The local index of a global endpoint number. -/
def localOf (e : EpId) : EpIndex :=
  ⟨e.val % 8, by omega⟩

/-- The attention item of a local endpoint. -/
def itemOf (e : EpIndex) : Item :=
  ⟨e.val, by omega⟩

/-- The PORT item. -/
def portItem : Item := 8

/-- The Send Unit of port p is requester 2p (R65). -/
def sendRequester (p : Port) : Requester :=
  ⟨2 * p.val, by omega⟩

/-- The Fetch Unit of port p is requester 2p+1 (R79). -/
def fetchRequester (p : Port) : Requester :=
  ⟨2 * p.val + 1, by omega⟩

end Sys2Proof
end

