-- ==== Sys2Proof/Syntax.lean ====
section
/-! DEFINITION. The commands of the part: one constructor for each row of spec/opcode_table.json, with
the row's operands. A host command carries the issuing port and the word written to its strobe; its
further arguments stand in ARG0 to ARG4 (R164). -/

namespace Sys2Proof

/-- The blocks whose share of a port reset is not bound to the entry event (R153). -/
inductive ShareBlock where
  | memoryManager
  | endpointTable
  | channelController
  | groupController
  | receiptUnit
  | attention
  deriving DecidableEq, Repr

/-- The commands and events. `atEntry`, on the four rows that can begin a port reset, names the shares
that are taken in the entry event itself and their order, a choice R153 leaves to the part (log 5). -/
inductive Instr where
  | listen (p : Port) (w : Word)
  | openChannel (p : Port) (w : Word)
  | accept (p : Port) (w : Word)
  | reject (p : Port) (w : Word)
  | close (p : Port) (w : Word)
  | send (p : Port) (w : Word)
  | fetch (p : Port) (w : Word)
  | create (p : Port) (w : Word)
  | policy (p : Port) (w : Word)
  | join (p : Port) (w : Word)
  | publish (p : Port) (w : Word)
  | ack (p : Port) (w : Word)
  | popReceipt (p : Port) (w : Word)
  | nudge (p : Port) (w : Word)
  | notifySet (p : Port) (w : Word)
  | mask (p : Port) (w : Word)
  | online (p : Port) (w : Word)
  | offline (p : Port) (w : Word) (atEntry : List ShareBlock)
  | enablePort (p : Port) (w : Word)
  | disablePort (p : Port) (w : Word) (atEntry : List ShareBlock)
  | resetPort (p : Port) (w : Word) (atEntry : List ShareBlock)
  | setQuota (p : Port) (w : Word)
  | setTiming (p : Port) (w : Word)
  | stageData (p : Port) (w : Word)
  | stagePtr (p : Port) (w : Word)
  | rbData (p : Port)
  | rbPtr (p : Port) (w : Word)
  | viewSel (p : Port) (w : Word)
  | timeLo (p : Port)
  | argWrite (p : Port) (n : Fin 5) (w : Word)
  | ignoredWrite (p : Port) (a : BitVec 7) (w : Word)
  | resetInputAssertion (p : Port) (atEntry : List ShareBlock)
  | resetInputRelease (p : Port)
  | chipResetAssertion
  | chipResetRelease
  | memoryFault (b : BlockId) (contents : List Byte)
  | blockTransferEnd
  | openTimeoutExpiry (c : ChanId)
  | drainExpiry (c : ChanId)
  | lifetimeExpiry (r : RecId)
  | holdoffExpiry (p : Port)
  | memoryManagerResetShare (p : Port)
  | endpointTableResetShare (p : Port)
  | channelControllerResetShare (p : Port)
  | groupControllerResetShare (p : Port)
  | receiptUnitResetShare (p : Port)
  | attentionResetShare (p : Port)
  deriving DecidableEq, Repr

end Sys2Proof
end

