-- ==== Sys2Proof/WellFormed.lean ====
section
/-! DEFINITION. Which terms of `Instr` stand for something the part can meet. Register words carry no
check here: every strobe write is a command, whatever the word (R164). -/

namespace Sys2Proof

/-- A block takes its share of one reset once (R153). -/
def sharesWellFormed (l : List ShareBlock) : Bool :=
  decide l.Nodup

/-- The addresses at which a write can be ignored: those the map of section 11.1 gives no write
register (R163), and STAGE_DATA, STAGE_PTR, RB_DATA, RB_PTR and VIEW_SEL, whose writes the port state
can make the window ignore (R76, R167). -/
def addressIgnorable (a : BitVec 7) : Bool :=
  let n := a.toNat
  (0x17 ≤ n && n ≤ 0x19) || 0x1F ≤ n

/-- A fault leaves 32 bytes in the block it strikes (section 1.1, R2). -/
def contentsWellFormed (l : List Byte) : Bool :=
  l.length == 32

/-- Well-formedness of a command. -/
def Instr.wellFormed : Instr → Bool
  | .offline _ _ l => sharesWellFormed l
  | .disablePort _ _ l => sharesWellFormed l
  | .resetPort _ _ l => sharesWellFormed l
  | .resetInputAssertion _ l => sharesWellFormed l
  | .ignoredWrite _ a _ => addressIgnorable a
  | .memoryFault _ l => contentsWellFormed l
  | .listen _ _ | .openChannel _ _ | .accept _ _ | .reject _ _ | .close _ _ | .send _ _ | .fetch _ _ => true
  | .create _ _ | .policy _ _ | .join _ _ | .publish _ _ | .ack _ _ | .popReceipt _ _ | .nudge _ _ => true
  | .notifySet _ _ | .mask _ _ | .online _ _ | .enablePort _ _ | .setQuota _ _ | .setTiming _ _ => true
  | .stageData _ _ | .stagePtr _ _ | .rbData _ | .rbPtr _ _ | .viewSel _ _ | .timeLo _ | .argWrite _ _ _ => true
  | .resetInputRelease _ | .chipResetAssertion | .chipResetRelease | .blockTransferEnd => true
  | .openTimeoutExpiry _ | .drainExpiry _ | .lifetimeExpiry _ | .holdoffExpiry _ => true
  | .memoryManagerResetShare _ | .endpointTableResetShare _ | .channelControllerResetShare _ => true
  | .groupControllerResetShare _ | .receiptUnitResetShare _ | .attentionResetShare _ => true

end Sys2Proof
end

