-- ==== Sys2Proof/Decode.lean ====
section
/-! DEFINITION. The address map of a window (section 11.1, R163) as a decoder of bus writes, the bus
write that issues each host command, and the host's `decodeTableWord`. -/

namespace Sys2Proof

/-- No row of spec/opcode_table.json gives bits, so no word of bits spells a command. -/
def decodeTableWord (_nbits _w : Nat) : Option Instr :=
  none

/-- The command that a write of `w` to word address `a` of port p's window is (section 11.1, R163,
R164). `atEntry` says which reset shares the part takes in the entry event, should the write begin a
port reset (R153, log 5); the other commands make no use of it. -/
def Instr.ofWrite (p : Port) (a : BitVec 7) (w : Word) (atEntry : List ShareBlock) : Instr :=
  match a.toNat with
  | 0x00 => .listen p w
  | 0x01 => .openChannel p w
  | 0x02 => .accept p w
  | 0x03 => .reject p w
  | 0x04 => .close p w
  | 0x05 => .send p w
  | 0x06 => .fetch p w
  | 0x07 => .create p w
  | 0x08 => .policy p w
  | 0x09 => .join p w
  | 0x0A => .publish p w
  | 0x0B => .ack p w
  | 0x0C => .popReceipt p w
  | 0x0D => .nudge p w
  | 0x0E => .notifySet p w
  | 0x0F => .mask p w
  | 0x10 => .online p w
  | 0x11 => .offline p w atEntry
  | 0x12 => .enablePort p w
  | 0x13 => .disablePort p w atEntry
  | 0x14 => .resetPort p w atEntry
  | 0x15 => .setQuota p w
  | 0x16 => .setTiming p w
  | 0x1A => .argWrite p 0 w
  | 0x1B => .argWrite p 1 w
  | 0x1C => .argWrite p 2 w
  | 0x1D => .argWrite p 3 w
  | 0x1E => .argWrite p 4 w
  | 0x22 => .stageData p w
  | 0x23 => .stagePtr p w
  | 0x2B => .rbPtr p w
  | 0x39 => .viewSel p w
  | _ => .ignoredWrite p a w

/-- The command that a read of word address `a` of port p's window is, for the two reads that change
state (R163): RB_DATA at 0x2A and TIME_LO at 0x09. Every other read is no command. -/
def Instr.ofRead? (p : Port) (a : BitVec 7) : Option Instr :=
  match a.toNat with
  | 0x09 => some (.timeLo p)
  | 0x2A => some (.rbData p)
  | _ => none

/-- The bus write that issues a command: port, word address and word (section 11.2). None for the two
reads and for what no host writes. -/
def Instr.busWrite? : Instr → Option (Port × BitVec 7 × Word)
  | .listen p w => some (p, 0x00#7, w)
  | .openChannel p w => some (p, 0x01#7, w)
  | .accept p w => some (p, 0x02#7, w)
  | .reject p w => some (p, 0x03#7, w)
  | .close p w => some (p, 0x04#7, w)
  | .send p w => some (p, 0x05#7, w)
  | .fetch p w => some (p, 0x06#7, w)
  | .create p w => some (p, 0x07#7, w)
  | .policy p w => some (p, 0x08#7, w)
  | .join p w => some (p, 0x09#7, w)
  | .publish p w => some (p, 0x0A#7, w)
  | .ack p w => some (p, 0x0B#7, w)
  | .popReceipt p w => some (p, 0x0C#7, w)
  | .nudge p w => some (p, 0x0D#7, w)
  | .notifySet p w => some (p, 0x0E#7, w)
  | .mask p w => some (p, 0x0F#7, w)
  | .online p w => some (p, 0x10#7, w)
  | .offline p w _ => some (p, 0x11#7, w)
  | .enablePort p w => some (p, 0x12#7, w)
  | .disablePort p w _ => some (p, 0x13#7, w)
  | .resetPort p w _ => some (p, 0x14#7, w)
  | .setQuota p w => some (p, 0x15#7, w)
  | .setTiming p w => some (p, 0x16#7, w)
  | .argWrite p n w => some (p, BitVec.ofNat 7 (0x1A + n.val), w)
  | .stageData p w => some (p, 0x22#7, w)
  | .stagePtr p w => some (p, 0x23#7, w)
  | .rbPtr p w => some (p, 0x2B#7, w)
  | .viewSel p w => some (p, 0x39#7, w)
  | .ignoredWrite p a w => some (p, a, w)
  | .rbData _ | .timeLo _ | .resetInputAssertion _ _ | .resetInputRelease _ => none
  | .chipResetAssertion | .chipResetRelease | .memoryFault _ _ | .blockTransferEnd => none
  | .openTimeoutExpiry _ | .drainExpiry _ | .lifetimeExpiry _ | .holdoffExpiry _ => none
  | .memoryManagerResetShare _ | .endpointTableResetShare _ | .channelControllerResetShare _ => none
  | .groupControllerResetShare _ | .receiptUnitResetShare _ | .attentionResetShare _ => none

/-- The shares a command carries for the entry event of the port reset it can begin. -/
def Instr.atEntry : Instr → List ShareBlock
  | .offline _ _ l => l
  | .disablePort _ _ l => l
  | .resetPort _ _ l => l
  | .resetInputAssertion _ l => l
  | .listen _ _ | .openChannel _ _ | .accept _ _ | .reject _ _ | .close _ _ | .send _ _ | .fetch _ _ => []
  | .create _ _ | .policy _ _ | .join _ _ | .publish _ _ | .ack _ _ | .popReceipt _ _ | .nudge _ _ => []
  | .notifySet _ _ | .mask _ _ | .online _ _ | .enablePort _ _ | .setQuota _ _ | .setTiming _ _ => []
  | .stageData _ _ | .stagePtr _ _ | .rbData _ | .rbPtr _ _ | .viewSel _ _ | .timeLo _ | .argWrite _ _ _ => []
  | .ignoredWrite _ _ _ | .memoryFault _ _ => []
  | .resetInputRelease _ | .chipResetAssertion | .chipResetRelease | .blockTransferEnd => []
  | .openTimeoutExpiry _ | .drainExpiry _ | .lifetimeExpiry _ | .holdoffExpiry _ => []
  | .memoryManagerResetShare _ | .endpointTableResetShare _ | .channelControllerResetShare _ => []
  | .groupControllerResetShare _ | .receiptUnitResetShare _ | .attentionResetShare _ => []

end Sys2Proof
end

