-- ==== Sys2Proof/Config.lean ====
section
/-! DEFINITION. What the part fixes (capacities of spec/00_scope.md, section 6) and the one free value
of the model. -/

namespace Sys2Proof.Config

/-- Bytes of one memory block (section 1.1). -/
def blockBytes : Nat := 32

/-- Payload words of one memory block (section 1.1). -/
def blockWords : Nat := 16

/-- Words of a staging buffer and of a read buffer (R56, R75). -/
def bufferWords : Nat := 128

/-- The longest message in bytes (section 4.1). -/
def maxMessage : Nat := 256

/-- The largest window and member depth (R39, R43, R122). -/
def maxWindow : Nat := 8

/-- Members of a group (R119). -/
def maxMembers : Nat := 12

/-- Receipts held plus reserved (R94). -/
def receiptPlaces : Nat := 16

/-- PART_ID and PART_REV (R169). -/
def partId : Word := 0x4128#16

def partRev : Word := 1#16

/-- FREE VALUE (log 3): which of several expiries due on one count is taken first. The manual says only
that each is an event of its own (R88, R161). Applied to the time count and to the number of expiries
still to be placed; the model takes it modulo that number. -/
opaque tieChoice : Nat → Nat → Nat

end Sys2Proof.Config
end

