-- ==== Sys2Proof/Machine/State.lean ====
section
/-! DEFINITION. The state of the part as plain data, its chip reset values, and the reasons a step can
stop. Each structure cites the rule of spec/ that names it. Where the manual gives a state of a record
exactly the fields it carries, the record is an inductive type whose constructors carry them. -/

namespace Sys2Proof.Machine

/-! ## Why a step can stop -/

/-- The part names nothing that stops it, and no meaning of the model faults (INVENTORY.md, Faults).
No constructor. -/
inductive Fault where
  deriving DecidableEq, Repr

/-- Why a command has no meaning. -/
inductive Refusal where
  /-- Raised by an arm of exec for a command not modelled yet (safe). No arm raises it now. -/
  | notModelled (mnemonic : String)
  deriving DecidableEq, Repr

/-! ## Endpoints (chapter 2) -/

/-- A listen filter (R19, R23). -/
inductive Filter where
  | any
  | port (p : Port)
  deriving DecidableEq, Repr

/-- A set of options (R168): RCPT and EXPIRE. -/
structure Options where
  rcpt : Bool
  expire : Bool
  deriving DecidableEq, Repr

/-- What a caller offers (R36, R39). -/
structure Offer where
  window : Nat
  maxLength : Nat
  options : Options
  deriving DecidableEq, Repr

/-- An endpoint's state with the fields that state carries (R19, R21). -/
inductive Role where
  | idle
  | listening (filter : Filter)
  | offered (chan : ChanId) (caller : EpId) (filter : Filter) (offer : Offer)
  | calling (chan : ChanId) (callee : EpId)
  | connected (chan : ChanId) (peer : EpId) (queue : List RecId) (depth : Nat)
  | closing (chan : ChanId) (peer : EpId) (queue : List RecId) (depth : Nat)
  | publisher (group : GroupId)
  | member (group : GroupId) (queue : List RecId) (depth : Nat)
  deriving DecidableEq, Repr

/-- How the last request of a caller ended without a channel (R33). -/
inductive OpenOutcome where
  | none
  | rejected (code : Word)
  | timeout
  | peerReset
  deriving DecidableEq, Repr

/-- How the last request held by a callee was withdrawn (R33). -/
inductive WithdrawOutcome where
  | none
  | callerClosed
  | timeout
  | callerReset
  deriving DecidableEq, Repr

/-- How the last channel of an endpoint ended (R33). -/
inductive CloseOutcome where
  | none
  | complete
  | abortedLocal
  | abortedByPeer
  | drainExpired
  | peerReset
  deriving DecidableEq, Repr

/-- An endpoint record (R19). Its conditions are held by the port's Attention Unit. -/
structure Endpoint where
  role : Role
  openOutcome : OpenOutcome
  withdrawOutcome : WithdrawOutcome
  closeOutcome : CloseOutcome
  discarded : Nat
  deriving DecidableEq, Repr

/-! ## Channels (chapters 3, 4 and 7) -/

/-- A direction of a channel, named by who sends to whom. -/
inductive Dirn where
  | callerToCallee
  | calleeToCaller
  deriving DecidableEq, Repr

/-- The account of one direction (R36). -/
structure Direction where
  window : Nat
  credits : Nat
  outstanding : Nat
  nextSequence : Word
  deriving DecidableEq, Repr

/-- What a channel carries in OPEN and DRAINING (R36). -/
structure LiveChannel where
  caller : EpId
  callee : EpId
  maxLength : Nat
  options : Options
  toCallee : Direction
  toCaller : Direction
  transfers : Nat
  deriving DecidableEq, Repr

/-- The sides that have issued a graceful CLOSE (R36, R107). -/
structure Closers where
  caller : Bool
  callee : Bool
  deriving DecidableEq, Repr

/-- A channel record with the fields its state carries (R36, R114). -/
inductive Channel where
  | free
  | requested (caller callee : EpId) (offer : Offer) (deadline : Time)
  | opened (live : LiveChannel)
  | draining (live : LiveChannel) (closers : Closers) (deadline : Option Time)
  | aborting (caller callee : EpId) (closers : Closers) (transfers : Nat)
  deriving DecidableEq, Repr

/-! ## Groups (chapter 8) -/

inductive GroupPolicy where
  | opened
  | closed
  deriving DecidableEq, Repr

/-- What a group carries in ACTIVE (R118). Members stand oldest join first. -/
structure ActiveGroup where
  publisher : EpId
  members : List EpId
  policy : GroupPolicy
  maxLength : Nat
  options : Options
  nextSequence : Word
  copyInFlight : Bool
  deriving DecidableEq, Repr

/-- A group record (R118). In DISSOLVING copy in flight is yes and every other field is gone (R124). -/
inductive Group where
  | free
  | active (g : ActiveGroup)
  | dissolving
  deriving DecidableEq, Repr

/-! ## Message records and memory (chapter 1) -/

/-- What a record belongs to: a channel and the direction its origin sends in, or a group (R5). -/
inductive RecLink where
  | channel (c : ChanId) (d : Dirn)
  | group (g : GroupId)
  deriving DecidableEq, Repr

/-- The tallies of a group message (R5, R10). -/
structure Tallies where
  fetched : Nat
  expired : Nat
  discarded : Nat
  skipped : Nat
  deriving DecidableEq, Repr

/-- The fields of a record that is not FREE (R5). The charge port is the origin's port. -/
structure Message where
  origin : EpId
  link : RecLink
  sequence : Word
  tag : BitVec 32
  length : Nat
  blocks : List BlockId
  badMarks : List BlockId
  receiptRequested : Bool
  count : Nat
  damaged : Bool
  tallies : Tallies
  deriving DecidableEq, Repr

/-- A message record (R4). Only a LIVE record can have a deadline (R88). -/
inductive MsgRecord where
  | free
  | filling (m : Message)
  | live (m : Message) (deadline : Option Time)
  deriving DecidableEq, Repr

/-- Where a block is (R3): in the free set, in the block list of a record, or in the retired set. -/
inductive BlockPlace where
  | free
  | held
  | retired
  deriving DecidableEq, Repr

/-- The memory arbiter (R15). -/
structure Arbiter where
  waiting : Vector Bool 8
  inProgress : Option Requester
  pointer : Requester
  deriving DecidableEq, Repr

/-! ## A port's window registers and buffers (chapters 4, 5 and 11) -/

/-- The result codes (R166). -/
inductive ResultCode where
  | ok
  | notOnline
  | busy
  | badEndpoint
  | badArg
  | wrongState
  | closing
  | notOffered
  | peerDown
  | notListening
  | filtered
  | tooLong
  | notAgreed
  | noCredit
  | noReceiptSpace
  | overQuota
  | noRecord
  | noBlocks
  | noChannel
  | noGroup
  | groupFull
  | groupClosed
  | empty
  | denied
  deriving DecidableEq, Repr

/-- The registers of a Host Port Interface (R34, R161, R164, R165). `readData` is the word driven at
the window's last read of RB_DATA or TIME_LO, the model's own (log 10). -/
structure HostInterface where
  args : Vector Word 5
  result : ResultCode
  resultValue : Word
  viewSel : EpIndex
  timeCapture : Time
  readData : Word
  deriving DecidableEq, Repr

/-- A staging buffer (R56). -/
structure Staging where
  words : Vector Word 128
  pointer : Nat
  locked : Bool
  deriving DecidableEq, Repr

/-- Kind and link as software reads them (R168): a channel or a group number. -/
inductive LinkId where
  | channel (c : ChanId)
  | group (g : GroupId)
  deriving DecidableEq, Repr

/-- The header of a fetched message (R75). -/
structure Header where
  endpoint : EpIndex
  link : LinkId
  sequence : Word
  tag : BitVec 32
  length : Nat
  origin : EpId
  deriving DecidableEq, Repr

inductive ReadBufferState where
  | empty
  | filling
  | full
  deriving DecidableEq, Repr

/-- A read buffer (R75). -/
structure ReadBuffer where
  words : Vector Word 128
  pointer : Nat
  state : ReadBufferState
  damaged : Bool
  header : Header
  deriving DecidableEq, Repr

inductive MsgKind where
  | channel
  | group
  deriving DecidableEq, Repr

/-- What a Send Unit holds while COPYING (R64, R72). -/
structure CopyIn where
  record : RecId
  kind : MsgKind
  next : Nat
  remaining : Nat
  lifetime : Nat
  cancelled : Bool
  deriving DecidableEq, Repr

/-- What a Fetch Unit holds while COPYING (R79). -/
structure CopyOut where
  record : RecId
  endpoint : EpIndex
  next : Nat
  remaining : Nat
  cancelled : Bool
  deriving DecidableEq, Repr

inductive SendEnd where
  | none
  | delivered
  | discarded
  deriving DecidableEq, Repr

/-- The send outcome of a port (R70). -/
structure SendOutcome where
  outcome : SendEnd
  endpoint : EpIndex
  link : LinkId
  sequence : Word
  count : Nat
  deriving DecidableEq, Repr

inductive FetchEnd where
  | none
  | ok
  | damaged
  deriving DecidableEq, Repr

/-- The fetch outcome of a port (R84). -/
structure FetchOutcome where
  outcome : FetchEnd
  endpoint : EpIndex
  link : LinkId
  sequence : Word
  deriving DecidableEq, Repr

/-! ## Receipts (chapter 6) -/

/-- The outcome of a receipt; only GROUP carries tallies (R93). -/
inductive ReceiptOutcome where
  | fetched
  | expired
  | discarded
  | group (t : Tallies)
  deriving DecidableEq, Repr

/-- A held receipt (R93). -/
structure Receipt where
  endpoint : EpIndex
  link : LinkId
  sequence : Word
  tag : BitVec 32
  outcome : ReceiptOutcome
  damaged : Bool
  deriving DecidableEq, Repr

/-- A Receipt Unit: held receipts, oldest first, and the reservation count (R93). -/
structure ReceiptUnit where
  queue : List Receipt
  reserved : Nat
  deriving DecidableEq, Repr

/-! ## Attention and notification (chapter 9) -/

/-- A set of conditions in the layout of R168. -/
abbrev CondSet := BitVec 16

/-- An Attention Unit (R135, R137, R138): the sets of items 0 to 7 and PORT, the nudger set with bit q
for port q, and the attention list, oldest first. -/
structure Attention where
  sets : Vector CondSet 9
  nudgers : BitVec 4
  list : List Item
  deriving DecidableEq, Repr

inductive NotifyState where
  | quiet
  | gathering
  | raised
  deriving DecidableEq, Repr

/-- A Notification Unit (R141). -/
structure Notification where
  state : NotifyState
  masked : Bool
  enables : CondSet
  holdoff : Nat
  threshold : Nat
  bulkCount : Nat
  deadline : Option Time
  deriving DecidableEq, Repr

/-! ## Ports (chapter 10) -/

/-- A report the Port Controller awaits before RESETTING ends (R153). -/
inductive Report where
  | share (b : ShareBlock)
  | sendStopped
  | fetchStopped
  deriving DecidableEq, Repr

/-- A port's state; disable pending and the awaited reports exist in RESETTING alone (R148). -/
inductive PortState where
  | disabled
  | offline
  | online
  | resetting (disablePending : Bool) (awaited : List Report)
  deriving DecidableEq, Repr

/-- A port's quotas and charges (R7). -/
structure Account where
  blockQuota : Nat
  recordQuota : Nat
  chargedBlocks : Nat
  chargedRecords : Nat
  deriving DecidableEq, Repr

/-- Everything the part holds once for each port. `resetInput` is the reset-input status of R148,
`resetPin` the level of PRSTn, asserted or not (R169). -/
structure PortRec where
  state : PortState
  resetInput : Bool
  resetPin : Bool
  host : HostInterface
  staging : Staging
  sendUnit : Option CopyIn
  sendOutcome : SendOutcome
  readBuffer : ReadBuffer
  fetchUnit : Option CopyOut
  fetchOutcome : FetchOutcome
  receipts : ReceiptUnit
  attention : Attention
  notification : Notification
  account : Account
  deriving DecidableEq, Repr

/-- The device configuration (R160). -/
structure DeviceConfig where
  divider : Nat
  openTimeout : Nat
  drainLimit : Nat
  maxLifetime : Nat
  deriving DecidableEq, Repr

/-! ## The whole part -/

/-- The state of the part. `memory` is the message memory in canonical form and `badChecks` tells for
each block whether its stored check code differs from its contents (R2); `periodsLeft` counts the
reference clock periods left in the running count of the time base (R161, log 13); `chipReset` is the
asserted chip reset input (R169); `pending` is the queue of commands not yet taken. -/
structure State where
  ports : Vector PortRec 4
  endpoints : Vector Endpoint 32
  channels : Vector Channel 16
  groups : Vector Group 8
  records : Vector MsgRecord 64
  blockPlaces : Vector BlockPlace 128
  badChecks : Vector Bool 128
  memory : List Host.Cell
  arbiter : Arbiter
  config : DeviceConfig
  now : Time
  periodsLeft : Nat
  chipReset : Bool
  pending : List Instr
  deriving DecidableEq, Repr

/-! ## Reset values -/

/-- R56. -/
def Staging.reset : Staging where
  words := Vector.replicate 128 0#16
  pointer := 0
  locked := false

def Header.reset : Header where
  endpoint := 0
  link := .channel 0
  sequence := 0#16
  tag := 0#32
  length := 0
  origin := 0

/-- R75. -/
def ReadBuffer.reset : ReadBuffer where
  words := Vector.replicate 128 0#16
  pointer := 0
  state := .empty
  damaged := false
  header := Header.reset

/-- R70. -/
def SendOutcome.reset : SendOutcome where
  outcome := .none
  endpoint := 0
  link := .channel 0
  sequence := 0#16
  count := 0

/-- R84. -/
def FetchOutcome.reset : FetchOutcome where
  outcome := .none
  endpoint := 0
  link := .channel 0
  sequence := 0#16

/-- R93. -/
def ReceiptUnit.reset : ReceiptUnit where
  queue := []
  reserved := 0

/-- R135, R137, R138. -/
def Attention.reset : Attention where
  sets := Vector.replicate 9 0#16
  nudgers := 0#4
  list := []

/-- R141: all fifteen kinds enabled. -/
def Notification.reset : Notification where
  state := .quiet
  masked := true
  enables := 0x7FFF#16
  holdoff := 0
  threshold := 1
  bulkCount := 0
  deadline := none

/-- R164, R165, R34, R161; `readData` is log 10. -/
def HostInterface.reset : HostInterface where
  args := Vector.replicate 5 0#16
  result := .ok
  resultValue := 0#16
  viewSel := 0
  timeCapture := 0#32
  readData := 0#16

/-- R17. -/
def Account.reset : Account where
  blockQuota := 32
  recordQuota := 16
  chargedBlocks := 0
  chargedRecords := 0

/-- A port after chip reset in the given state, its reset-input status taken from the pin (R148). -/
def PortRec.reset (state : PortState) (pin : Bool) : PortRec where
  state := state
  resetInput := pin
  resetPin := pin
  host := HostInterface.reset
  staging := Staging.reset
  sendUnit := none
  sendOutcome := SendOutcome.reset
  readBuffer := ReadBuffer.reset
  fetchUnit := none
  fetchOutcome := FetchOutcome.reset
  receipts := ReceiptUnit.reset
  attention := Attention.reset
  notification := Notification.reset
  account := Account.reset

/-- R19. -/
def Endpoint.reset : Endpoint where
  role := .idle
  openOutcome := .none
  withdrawOutcome := .none
  closeOutcome := .none
  discarded := 0

/-- R17. -/
def Arbiter.reset : Arbiter where
  waiting := Vector.replicate 8 false
  inProgress := none
  pointer := 0

/-- R160. -/
def DeviceConfig.reset : DeviceConfig where
  divider := 25
  openTimeout := 20
  drainLimit := 500
  maxLifetime := 0

/-- The part at the end of chip reset with the given pin levels of PRSTn (R17, R19, R36, R56, R70, R75,
R84, R93, R118, R135, R141, R148, R160, R161, R164, R165, R169). -/
def State.afterChipReset (pins : Vector Bool 4) (pending : List Instr) : State where
  ports := #v[PortRec.reset .offline pins[0], PortRec.reset .disabled pins[1],
    PortRec.reset .disabled pins[2], PortRec.reset .disabled pins[3]]
  endpoints := Vector.replicate 32 Endpoint.reset
  channels := Vector.replicate 16 Channel.free
  groups := Vector.replicate 8 Group.free
  records := Vector.replicate 64 MsgRecord.free
  blockPlaces := Vector.replicate 128 BlockPlace.free
  badChecks := Vector.replicate 128 false
  memory := []
  arbiter := Arbiter.reset
  config := DeviceConfig.reset
  now := 0#32
  periodsLeft := 25
  chipReset := false
  pending := pending

/-- The machine right after chip reset, every port reset input released (log 9), nothing pending. -/
def State.reset : State :=
  State.afterChipReset (Vector.replicate 4 false) []

end Sys2Proof.Machine
end

