-- ==== Sys2Proof/Machine/Flags.lean ====
section
/-! DEFINITION. The fifteen conditions, their layout and classes, and what a setting does to a
Notification Unit (chapter 9, R168). -/

namespace Sys2Proof.Machine

/-- The fifteen condition kinds, in the order of their bits (R168). -/
inductive Cond where
  | arrival
  | request
  | withdrawn
  | opened
  | openFailed
  | peerClosing
  | closed
  | members
  | groupGone
  | sendDone
  | fetchDone
  | receipt
  | peerState
  | nudge
  | fault
  deriving DecidableEq, Repr

/-- The bit of a condition in the condition layout (R168). -/
def Cond.bit : Cond → Nat
  | .arrival => 0
  | .request => 1
  | .withdrawn => 2
  | .opened => 3
  | .openFailed => 4
  | .peerClosing => 5
  | .closed => 6
  | .members => 7
  | .groupGone => 8
  | .sendDone => 9
  | .fetchDone => 10
  | .receipt => 11
  | .peerState => 12
  | .nudge => 13
  | .fault => 14

/-- The set that holds one condition. -/
def Cond.only (c : Cond) : CondSet :=
  1#16 <<< c.bit

/-- ARRIVAL, SEND_DONE, FETCH_DONE and RECEIPT are bulk, the other eleven prompt (R135). -/
def Cond.isBulk : Cond → Bool
  | .arrival | .sendDone | .fetchDone | .receipt => true
  | .request | .withdrawn | .opened | .openFailed | .peerClosing | .closed | .members | .groupGone => false
  | .peerState | .nudge | .fault => false

/-- The nine endpoint conditions, bits 0 to 8 (R168). -/
def endpointConds : CondSet := 0x01FF#16

/-- The six port conditions, bits 9 to 14 (R168). -/
def portConds : CondSet := 0x7E00#16

/-- All fifteen kinds (R168). -/
def allConds : CondSet := 0x7FFF#16

/-- The eleven prompt kinds (R135). -/
def promptConds : CondSet := 0x71FE#16

/-- The kinds an item can hold (R139). -/
def condsOfItem (it : Item) : CondSet :=
  if it = portItem then portConds else endpointConds

/-- E of R141, for any enable set: some enabled condition is set in some item on the attention list. -/
def Attention.anyEnabled (a : Attention) (enables : CondSet) : Bool :=
  a.list.any fun it => a.sets[it] &&& enables != 0#16

/-- Put a condition into an item's set; an item whose set was empty joins the list at the tail
(R135, R137). -/
def Attention.add (a : Attention) (it : Item) (c : Cond) : Attention :=
  { a with
    sets := a.sets.set it (a.sets[it] ||| c.only)
    list := if a.sets[it] = 0#16 then a.list ++ [it] else a.list }

/-- Take conditions out of an item's set; an item whose set becomes empty leaves the list, and the
nudger set empties with NUDGE (R137, R138, R139). -/
def Attention.remove (a : Attention) (it : Item) (conds : CondSet) : Attention :=
  let left := a.sets[it] &&& ~~~conds
  { a with
    sets := a.sets.set it left
    list := if left = 0#16 then a.list.filter (· ≠ it) else a.list
    nudgers := if it = portItem ∧ conds &&& Cond.nudge.only ≠ 0#16 then 0#4 else a.nudgers }

/-- The unit becomes RAISED, with no deadline and no bulk count (R142, R143, R145). -/
def Notification.raise (n : Notification) : Notification :=
  { n with state := .raised, bulkCount := 0, deadline := none }

/-- The unit becomes QUIET, with no deadline and no bulk count (R144, R145). -/
def Notification.quieten (n : Notification) : Notification :=
  { n with state := .quiet, bulkCount := 0, deadline := none }

/-- A bulk event (R142, R143). -/
def Notification.bulkEvent (n : Notification) (now : Time) : Notification :=
  match n.state with
  | .quiet =>
    if n.holdoff = 0 ∨ n.threshold = 1 then n.raise
    else { n with state := .gathering, bulkCount := 1, deadline := some (now + BitVec.ofNat 32 n.holdoff) }
  | .gathering =>
    if n.threshold ≤ n.bulkCount + 1 then n.raise else { n with bulkCount := n.bulkCount + 1 }
  | .raised => n

/-- A prompt setting (R142). -/
def Notification.promptSetting (n : Notification) : Notification :=
  match n.state with
  | .quiet => n.raise
  | .gathering => n.raise
  | .raised => n

/-- What a setting of a condition does to the unit; a disabled kind does nothing (R141, R142). -/
def Notification.setting (n : Notification) (now : Time) (c : Cond) : Notification :=
  if n.enables &&& c.only = 0#16 then n
  else if c.isBulk then n.bulkEvent now
  else n.promptSetting

/-- The re-evaluation at the end of an event that removes conditions (R144). -/
def Notification.reevaluate (n : Notification) (a : Attention) : Notification :=
  if a.anyEnabled n.enables then n else n.quieten

/-- The re-evaluation of NOTIFY_SET against new settings (R145). -/
def Notification.replaceSettings (n : Notification) (a : Attention) (enables : CondSet) (holdoff threshold : Nat) :
    Notification :=
  let n' := { n with enables := enables, holdoff := holdoff, threshold := threshold }
  if a.anyEnabled enables then
    match n.state with
    | .quiet => n'.raise
    | .gathering =>
      if a.anyEnabled (enables &&& promptConds) ∨ threshold ≤ n.bulkCount ∨ holdoff = 0 then n'.raise else n'
    | .raised => n'
  else n'.quieten

end Sys2Proof.Machine
end

