-- ==== Sys2Proof/Machine/Operands.lean ====
section
/-! DEFINITION. How a command reads its arguments and how registers encode fields: local endpoints
(R20), argument registers (R164), options, flags and links (R168), lengths and lifetimes. -/

namespace Sys2Proof.Machine

/-- The record of a port. -/
def State.port (s : State) (p : Port) : PortRec :=
  s.ports[p]

/-- Argument register ARGn of a port (R164). -/
def State.arg (s : State) (p : Port) (n : Fin 5) : Word :=
  (s.port p).host.args[n]

/-- The endpoint a strobe word names at port p; meaningful for words 0 to 7 (R20). -/
def endpointOf (p : Port) (w : Word) : EpId :=
  globalOf p ⟨w.toNat % 8, Nat.mod_lt _ (by decide)⟩

/-- The global endpoint a word names; meaningful for words 0 to 31 (R39). -/
def globalEndpointOf (w : Word) : EpId :=
  ⟨w.toNat % 32, Nat.mod_lt _ (by decide)⟩

/-- The port a word names; meaningful for words 0 to 3. -/
def portOfWord (w : Word) : Port :=
  ⟨w.toNat % 4, Nat.mod_lt _ (by decide)⟩

/-- The group a word names; meaningful for words 0 to 7. -/
def groupOfWord (w : Word) : GroupId :=
  ⟨w.toNat % 8, Nat.mod_lt _ (by decide)⟩

/-- The attention item a word names; meaningful for words 0 to 8. -/
def itemOfWord (w : Word) : Item :=
  ⟨w.toNat % 9, Nat.mod_lt _ (by decide)⟩

/-- The filter a word names: 0 to 3 a port, 4 ANY (R23). -/
def filterOfWord (w : Word) : Filter :=
  if w.toNat = 4 then .any else .port (portOfWord w)

/-- Options: bit 0 RCPT, bit 1 EXPIRE (R168). -/
def optionsOfWord (w : Word) : Options where
  rcpt := w.getLsbD 0
  expire := w.getLsbD 1

/-- The word of a set of options (R168). -/
def Options.toWord (o : Options) : Word :=
  (if o.rcpt then 1#16 else 0#16) ||| (if o.expire then 2#16 else 0#16)

/-- The options both sides named (R44). -/
def Options.inter (a b : Options) : Options where
  rcpt := a.rcpt && b.rcpt
  expire := a.expire && b.expire

/-- A word naming a member outside `members` (section 11.5). -/
def namesOutside (w members : Word) : Bool :=
  w &&& ~~~members != 0#16

/-- The tag of SEND and PUBLISH: low half ARG1, high half ARG2 (section 4.2). -/
def State.tagArg (s : State) (p : Port) : BitVec 32 :=
  s.arg p 2 ++ s.arg p 1

/-- Blocks of a message of this length: ceil(length / 32) (section 4.1). -/
def blocksFor (length : Nat) : Nat :=
  (length + 31) / 32

/-- The effective lifetime in milliseconds: `asked` is the requested lifetime, `cap` the maximum
lifetime of the configuration (R62). -/
def effectiveLifetime (expireAgreed : Bool) (cap asked : Nat) : Nat :=
  if !expireAgreed then 0
  else if cap = 0 then asked
  else if asked = 0 then cap
  else min asked cap

/-- A time this many milliseconds later, at 1000 microseconds each (R42, R88, R112). -/
def afterMs (t : Time) (ms : Nat) : Time :=
  t + BitVec.ofNat 32 (1000 * ms)

/-- Has the count reached this deadline? Every deadline lies at most 65,535,000 ahead of the event that
sets it (R161), so the distance on the wrapping count tells past from future (log 2). -/
def reached (now deadline : Time) : Bool :=
  (now - deadline).toNat < 2 ^ 31

/-- Kind and link as software reads them, without the direction (R168). -/
def RecLink.toLinkId : RecLink → LinkId
  | .channel c _ => .channel c
  | .group g => .group g

/-- A link register: bits 0 to 3 the number, bit 15 set for GROUP (R168). -/
def LinkId.toWord : LinkId → Word
  | .channel c => BitVec.ofNat 16 c.val
  | .group g => 0x8000#16 ||| BitVec.ofNat 16 g.val

/-- Is the message a GROUP message? (R5) -/
def Message.isGroup (m : Message) : Bool :=
  match m.link with
  | .channel _ _ => false
  | .group _ => true

/-- The code of a result (R166). -/
def ResultCode.toWord : ResultCode → Word
  | .ok => 0#16
  | .notOnline => 1#16
  | .busy => 2#16
  | .badEndpoint => 3#16
  | .badArg => 4#16
  | .wrongState => 5#16
  | .closing => 6#16
  | .notOffered => 7#16
  | .peerDown => 8#16
  | .notListening => 9#16
  | .filtered => 10#16
  | .tooLong => 11#16
  | .notAgreed => 12#16
  | .noCredit => 13#16
  | .noReceiptSpace => 14#16
  | .overQuota => 15#16
  | .noRecord => 16#16
  | .noBlocks => 17#16
  | .noChannel => 18#16
  | .noGroup => 19#16
  | .groupFull => 20#16
  | .groupClosed => 21#16
  | .empty => 22#16
  | .denied => 23#16

/-- The code of the first check that fails, in the order of the list (R166). -/
def firstFailing : List (Bool × ResultCode) → Option ResultCode
  | [] => none
  | (fails, code) :: rest => if fails then some code else firstFailing rest

end Sys2Proof.Machine
end

