-- ==== Sys2Proof/Machine/Ops.lean ====
section
/-! DEFINITION. The named operations over the state: its records, the message memory, conditions,
endpoint roles, the arbiter, results, and reports to the Port Controller. -/

namespace Sys2Proof.Machine

/-! ## Records of the state -/

/-- Change every element of a vector. Over the list, so that the kernel can evaluate it. -/
def mapVector {α β : Type} {n : Nat} (f : α → β) (v : Vector α n) : Vector β n :=
  ⟨⟨v.toList.map f⟩, by simp⟩

def State.modPort (s : State) (p : Port) (f : PortRec → PortRec) : State :=
  { s with ports := s.ports.set p (f s.ports[p]) }

def State.endpoint (s : State) (e : EpId) : Endpoint :=
  s.endpoints[e]

def State.modEndpoint (s : State) (e : EpId) (f : Endpoint → Endpoint) : State :=
  { s with endpoints := s.endpoints.set e (f s.endpoints[e]) }

def State.setRole (s : State) (e : EpId) (r : Role) : State :=
  s.modEndpoint e fun x => { x with role := r }

def State.role (s : State) (e : EpId) : Role :=
  (s.endpoint e).role

def State.channel (s : State) (c : ChanId) : Channel :=
  s.channels[c]

def State.setChannel (s : State) (c : ChanId) (x : Channel) : State :=
  { s with channels := s.channels.set c x }

def State.group (s : State) (g : GroupId) : Group :=
  s.groups[g]

def State.setGroup (s : State) (g : GroupId) (x : Group) : State :=
  { s with groups := s.groups.set g x }

def State.record (s : State) (r : RecId) : MsgRecord :=
  s.records[r]

def State.setRecord (s : State) (r : RecId) (x : MsgRecord) : State :=
  { s with records := s.records.set r x }

/-- Is the port ONLINE? (R148) -/
def State.online (s : State) (p : Port) : Bool :=
  decide ((s.port p).state = .online)

/-- Is the port RESETTING? (R148) -/
def PortState.isResetting : PortState → Bool
  | .resetting _ _ => true
  | .disabled | .offline | .online => false

/-- Does the port's window substitute a port out of service, as in DISABLED and RESETTING? (R167) -/
def PortState.hidesWindow : PortState → Bool
  | .disabled => true
  | .resetting _ _ => true
  | .offline | .online => false

/-! ## Results -/

/-- Write RESULT and RESULT_VALUE of a port (R165). -/
def State.setResult (s : State) (p : Port) (code : ResultCode) (value : Word) : State :=
  s.modPort p fun x => { x with host := { x.host with result := code, resultValue := value } }

/-- An event; while chip reset is asserted no write is taken and the inside of the part stands still
(R169, log 8). -/
def taken (s after : State) : Host.Outcome State Fault Refusal :=
  .next (if s.chipReset then s else after)

/-- A command: refused with a code and the value 0, changing nothing else, or accepted (R165, R166). -/
def answer (s : State) (p : Port) (refusal : Option ResultCode) (accepted : State × Word) :
    Host.Outcome State Fault Refusal :=
  taken s (match refusal with
    | some code => s.setResult p code 0#16
    | none => accepted.1.setResult p .ok accepted.2)

/-! ## The message memory (section 1.1) -/

/-- One byte; an unlisted address reads 0, the chip reset contents (R17). -/
def Memory.readByte : List Host.Cell → Nat → Byte
  | [], _ => 0#8
  | (b, v) :: rest, a => if b = a then v else Memory.readByte rest a

/-- Write one byte, keeping the canonical form. -/
def Memory.writeByte : List Host.Cell → Nat → Byte → List Host.Cell
  | [], a, v => if v = 0#8 then [] else [(a, v)]
  | (b, u) :: rest, a, v =>
    if a < b then (if v = 0#8 then (b, u) :: rest else (a, v) :: (b, u) :: rest)
    else if a = b then (if v = 0#8 then rest else (a, v) :: rest)
    else (b, u) :: Memory.writeByte rest a v

/-- Write bytes at rising addresses. -/
def Memory.writeBytes : List Host.Cell → Nat → List Byte → List Host.Cell
  | m, _, [] => m
  | m, a, v :: vs => Memory.writeBytes (Memory.writeByte m a v) (a + 1) vs

/-- The canonical form: addresses of the 4096 bytes, strictly rising, none listed with the value 0. -/
def Memory.wf (m : List Host.Cell) : Bool :=
  decide (m.Pairwise fun x y => x.1 < y.1) && m.all fun c => c.2 != 0#8 && decide (c.1 < 4096)

/-- The first byte address of a block. -/
def blockBase (b : BlockId) : Nat :=
  32 * b.val

/-- Byte j of a message as the Send Unit writes it: from the staging words, and zero at or beyond the
length (R1). Byte 2k is the low half of word k (R56). -/
def Staging.messageByte (st : Staging) (length j : Nat) : Byte :=
  if j < length then
    let w := (st.words[j / 2]?).getD 0#16
    if j % 2 = 0 then w.extractLsb' 0 8 else w.extractLsb' 8 8
  else 0#8

/-- The 32 bytes of position k of a message (R1). -/
def Staging.blockImage (st : Staging) (length k : Nat) : List Byte :=
  (List.range 32).map fun i => st.messageByte length (32 * k + i)

/-- A block write: 32 bytes and a fresh check code (R1). -/
def State.writeBlock (s : State) (b : BlockId) (bytes : List Byte) : State :=
  { s with memory := Memory.writeBytes s.memory (blockBase b) bytes, badChecks := s.badChecks.set b false }

/-- Payload word i of a block: its byte 2i is the low half (R76). -/
def State.blockWord (s : State) (b : BlockId) (i : Nat) : Word :=
  Memory.readByte s.memory (blockBase b + 2 * i + 1) ++ Memory.readByte s.memory (blockBase b + 2 * i)

/-- The sixteen words of a block, delivered as read (R2). -/
def State.blockWords (s : State) (b : BlockId) : List Word :=
  (List.range 16).map (s.blockWord b)

/-- Does a read of the block report FAIL? (R2) -/
def State.readFails (s : State) (b : BlockId) : Bool :=
  s.badChecks[b]

/-- Put words into a buffer from a position on. -/
def writeWords (v : Vector Word 128) (base : Nat) : List Word → Vector Word 128
  | [] => v
  | w :: ws => writeWords (v.setIfInBounds base w) (base + 1) ws

/-! ## Conditions (R135) -/

/-- Set a condition at an item of a port; dropped at a port that is not ONLINE (R135, R137, R142). -/
def State.setCond (s : State) (p : Port) (it : Item) (c : Cond) : State :=
  if s.online p then
    s.modPort p fun x =>
      { x with attention := x.attention.add it c, notification := x.notification.setting s.now c }
  else s

/-- Set a condition at an endpoint. -/
def State.setEndpointCond (s : State) (e : EpId) (c : Cond) : State :=
  s.setCond (portOf e) (itemOf (localOf e)) c

/-- Set a condition on a port's PORT item. -/
def State.setPortCond (s : State) (p : Port) (c : Cond) : State :=
  s.setCond p portItem c

/-- Remove conditions from an item; the Notification Unit re-evaluates at the end of the event, by
`reevaluate` (R144). -/
def State.removeConds (s : State) (p : Port) (it : Item) (conds : CondSet) : State :=
  s.modPort p fun x => { x with attention := x.attention.remove it conds }

/-- The re-evaluation of one port's Notification Unit (R144). -/
def State.reevaluate (s : State) (p : Port) : State :=
  s.modPort p fun x => { x with notification := x.notification.reevaluate x.attention }

/-- The re-evaluation at every port, for an event that may remove conditions at several (R144). -/
def State.reevaluateAll (s : State) : State :=
  (List.finRange 4).foldl State.reevaluate s

/-- Set a condition on the PORT item of every port but p; it is dropped at those not ONLINE (R150,
R153). -/
def State.tellPeers (s : State) (p : Port) : State :=
  ((List.finRange 4).filter (· ≠ p)).foldl (fun t q => t.setPortCond q .peerState) s

/-! ## Endpoint roles (R21) -/

/-- The inbound queue, empty in every state that has none (R19). -/
def Role.queue : Role → List RecId
  | .connected _ _ q _ => q
  | .closing _ _ q _ => q
  | .member _ q _ => q
  | .idle | .listening _ | .offered _ _ _ _ | .calling _ _ | .publisher _ => []

/-- The depth, 0 in every state that holds no messages (R19). -/
def Role.depth : Role → Nat
  | .connected _ _ _ d => d
  | .closing _ _ _ d => d
  | .member _ _ d => d
  | .idle | .listening _ | .offered _ _ _ _ | .calling _ _ | .publisher _ => 0

/-- Replace the queue of a state that holds messages. -/
def Role.withQueue (r : Role) (q : List RecId) : Role :=
  match r with
  | .connected c e _ d => .connected c e q d
  | .closing c e _ d => .closing c e q d
  | .member g _ d => .member g q d
  | .idle => .idle
  | .listening f => .listening f
  | .offered c e f o => .offered c e f o
  | .calling c e => .calling c e
  | .publisher g => .publisher g

/-- CONNECTED becomes CLOSING with link, peer, queue and depth kept; any other state stays (R21, R106,
R115). -/
def Role.startClosing : Role → Role
  | .connected c e q d => .closing c e q d
  | .closing c e q d => .closing c e q d
  | .member g q d => .member g q d
  | .idle => .idle
  | .listening f => .listening f
  | .offered c e f o => .offered c e f o
  | .calling c e => .calling c e
  | .publisher g => .publisher g

/-- The states in which FETCH is taken (R77). -/
def Role.canFetch : Role → Bool
  | .connected _ _ _ _ | .closing _ _ _ _ | .member _ _ _ => true
  | .idle | .listening _ | .offered _ _ _ _ | .calling _ _ | .publisher _ => false

def Role.isIdle (r : Role) : Bool :=
  decide (r = .idle)

def Role.isClosing : Role → Bool
  | .closing _ _ _ _ => true
  | .idle | .listening _ | .offered _ _ _ _ | .calling _ _ | .connected _ _ _ _ | .publisher _ | .member _ _ _ => false

def Role.isConnected : Role → Bool
  | .connected _ _ _ _ => true
  | .idle | .listening _ | .offered _ _ _ _ | .calling _ _ | .closing _ _ _ _ | .publisher _ | .member _ _ _ => false

/-- The group an endpoint publishes, in PUBLISHER. -/
def Role.published? : Role → Option GroupId
  | .publisher g => some g
  | .idle | .listening _ | .offered _ _ _ _ | .calling _ _ | .connected _ _ _ _ | .closing _ _ _ _
  | .member _ _ _ => none

/-- The listen filter of a LISTENING endpoint. -/
def Role.listening? : Role → Option Filter
  | .listening f => some f
  | .idle | .offered _ _ _ _ | .calling _ _ | .connected _ _ _ _ | .closing _ _ _ _ | .publisher _
  | .member _ _ _ => none

/-- The channel and the caller of the request an OFFERED endpoint holds. -/
def Role.offered? : Role → Option (ChanId × EpId)
  | .offered c e _ _ => some (c, e)
  | .idle | .listening _ | .calling _ _ | .connected _ _ _ _ | .closing _ _ _ _ | .publisher _
  | .member _ _ _ => none

/-- A filter admits callers of this port (R24). -/
def Filter.admits (f : Filter) (p : Port) : Bool :=
  match f with
  | .any => true
  | .port q => decide (q = p)

/-- Empty an endpoint's queue, keeping the rest of its state. -/
def State.emptyQueue (s : State) (e : EpId) : State :=
  s.modEndpoint e fun x => { x with role := x.role.withQueue [] }

/-- An append at the tail of a queue, with ARRIVAL (R29). -/
def State.append (s : State) (e : EpId) (r : RecId) : State :=
  (s.modEndpoint e fun x => { x with role := x.role.withQueue (x.role.queue ++ [r]) }).setEndpointCond e .arrival

/-- Return an OFFERED endpoint to LISTENING with its filter kept (R21); any other state stays. -/
def Role.backToListening : Role → Role
  | .offered _ _ f _ => .listening f
  | .idle => .idle
  | .listening f => .listening f
  | .calling c e => .calling c e
  | .connected c e q d => .connected c e q d
  | .closing c e q d => .closing c e q d
  | .publisher g => .publisher g
  | .member g q d => .member g q d

/-! ## The arbiter (R15, R16) -/

/-- The first waiting requester from the rotation pointer on, wrapping from 7 to 0. -/
def Arbiter.first? (a : Arbiter) : Option Requester :=
  ((List.finRange 8).map (a.pointer + ·)).find? fun q => a.waiting[q]

/-- A grant, made when the memory port is free and a requester waits. -/
def Arbiter.grant (a : Arbiter) : Arbiter :=
  match a.inProgress with
  | some _ => a
  | none =>
    match a.first? with
    | none => a
    | some q => { waiting := a.waiting.set q false, inProgress := some q, pointer := q + 1 }

/-- A requester joins the waiting set. -/
def State.placeRequest (s : State) (q : Requester) : State :=
  { s with arbiter := { s.arbiter with waiting := s.arbiter.waiting.set q true } }

/-- A requester leaves the waiting set (R16, a cancellation). -/
def State.dropRequest (s : State) (q : Requester) : State :=
  { s with arbiter := { s.arbiter with waiting := s.arbiter.waiting.set q false } }

/-- Let the arbiter grant if it can. -/
def State.grant (s : State) : State :=
  { s with arbiter := s.arbiter.grant }

/-! ## Reports to the Port Controller (R153, R154) -/

/-- The port state after a report: the last one due ends RESETTING in DISABLED when disable pending is
yes and in OFFLINE otherwise (R154). -/
def PortState.afterReport (st : PortState) (r : Report) : PortState :=
  match st with
  | .resetting d awaited =>
    let left := awaited.filter (· ≠ r)
    if left = [] then (if d then .disabled else .offline) else .resetting d left
  | .disabled => .disabled
  | .offline => .offline
  | .online => .online

/-- A block or a unit reports in the event of its share. -/
def State.report (s : State) (p : Port) (r : Report) : State :=
  s.modPort p fun x => { x with state := x.state.afterReport r }

/-- Is this report of the port still due? -/
def State.awaits (s : State) (p : Port) (r : Report) : Bool :=
  match (s.port p).state with
  | .resetting _ awaited => awaited.contains r
  | .disabled | .offline | .online => false

end Sys2Proof.Machine
end

