-- ==== Sys2Proof/Machine/Records.lean ====
section
/-! DEFINITION. The Memory Manager and the Receipt Unit: allocation, claims, release, receipt hand-off
and bulk discard (chapters 1 and 6, R32). -/

namespace Sys2Proof.Machine

/-! ## Message records -/

/-- The fields of a record that is not FREE. -/
def MsgRecord.message? : MsgRecord → Option Message
  | .free => none
  | .filling m => some m
  | .live m _ => some m

def MsgRecord.isFree : MsgRecord → Bool
  | .free => true
  | .filling _ => false
  | .live _ _ => false

/-- Change the fields of a record that is not FREE. -/
def MsgRecord.mapMessage (f : Message → Message) : MsgRecord → MsgRecord
  | .free => .free
  | .filling m => .filling (f m)
  | .live m d => .live (f m) d

/-- Change the fields of a record that is not FREE. -/
def State.modMessage (s : State) (r : RecId) (f : Message → Message) : State :=
  s.setRecord r ((s.record r).mapMessage f)

/-- Change a port's quotas or charges. -/
def State.modAccount (s : State) (p : Port) (f : Account → Account) : State :=
  s.modPort p fun x => { x with account := f x.account }

/-! ## Allocation (R8) -/

/-- The FREE record an allocation takes. Any may be chosen (R4); the model takes the lowest (log 6). -/
def State.freeRecord? (s : State) : Option RecId :=
  (List.finRange 64).find? fun r => (s.record r).isFree

def State.freeBlocks (s : State) : List BlockId :=
  (List.finRange 128).filter fun b => s.blockPlaces[b] = .free

def State.placeBlock (s : State) (b : BlockId) (x : BlockPlace) : State :=
  { s with blockPlaces := s.blockPlaces.set b x }

/-- The allocation tests, in order (R8). -/
def State.allocationRefusal (s : State) (p : Port) (n : Nat) : Option ResultCode :=
  let a := (s.port p).account
  firstFailing [
    (decide (a.recordQuota < a.chargedRecords + 1), .overQuota),
    (decide (a.blockQuota < a.chargedBlocks + n), .overQuota),
    (s.freeRecord?.isNone, .noRecord),
    (decide (s.freeBlocks.length < n), .noBlocks)]

/-- The allocation: the blocks move to the record, the record is FILLING, and the origin's port is
charged (R5, R8). -/
def State.allocate (s : State) (r : RecId) (m : Message) : State :=
  let s1 := m.blocks.foldl (fun t b => t.placeBlock b .held) s
  (s1.setRecord r (.filling m)).modAccount (portOf m.origin) fun a =>
    { a with chargedBlocks := a.chargedBlocks + m.blocks.length, chargedRecords := a.chargedRecords + 1 }

/-- The message record of an accepted SEND or PUBLISH (R5, R63, R127). The blocks are free ones, any
of them (R3); the model takes the lowest (log 6). -/
def State.newMessage (s : State) (p : Port) (origin : EpId) (link : RecLink) (sequence : Word) : Message where
  origin := origin
  link := link
  sequence := sequence
  tag := s.tagArg p
  length := (s.arg p 0).toNat
  blocks := s.freeBlocks.take (blocksFor (s.arg p 0).toNat)
  badMarks := []
  receiptRequested := (s.arg p 3).getLsbD 0
  count := 1
  damaged := false
  tallies := { fetched := 0, expired := 0, discarded := 0, skipped := 0 }

/-! ## Receipts -/

/-- The cause a release carries (R10). -/
inductive Cause where
  | fetched
  | expired
  | discarded
  | undelivered
  | cancelled
  deriving DecidableEq, Repr

/-- The outcome of a receipt: R98 for a CHANNEL record, R99 for a GROUP record. A CHANNEL record is never
posted with cause UNDELIVERED or CANCELLED (R10, R13); the function answers DISCARDED there (log 15). -/
def receiptOutcome (m : Message) (cause : Cause) : ReceiptOutcome :=
  match m.link with
  | .channel _ _ =>
    match cause with
    | .fetched => .fetched
    | .expired => .expired
    | .discarded => .discarded
    | .undelivered => .discarded
    | .cancelled => .discarded
  | .group _ =>
    if cause = .discarded ∧ m.tallies = { fetched := 0, expired := 0, discarded := 0, skipped := 0 } then .discarded
    else .group m.tallies

/-- The receipt of a message (R97). -/
def receiptOf (m : Message) (cause : Cause) : Receipt where
  endpoint := localOf m.origin
  link := m.link.toLinkId
  sequence := m.sequence
  tag := m.tag
  outcome := receiptOutcome m cause
  damaged := m.damaged

/-- The receipt space test: receipts held and reserved add up to 16 (R61, R94). -/
def State.receiptSpaceFull (s : State) (p : Port) : Bool :=
  decide (Config.receiptPlaces ≤ (s.port p).receipts.queue.length + (s.port p).receipts.reserved)

/-- A reservation (R95). -/
def State.reserveReceipt (s : State) (p : Port) : State :=
  s.modPort p fun x => { x with receipts := { x.receipts with reserved := x.receipts.reserved + 1 } }

/-- The hand-off of a receipt to port p: a posting with RECEIPT when p is ONLINE and holds a reservation,
else a drop, which lowers the count when it can (R13, R96). -/
def State.handOff (s : State) (p : Port) (rc : Receipt) : State :=
  if s.online p ∧ 0 < (s.port p).receipts.reserved then
    (s.modPort p fun x =>
      { x with receipts := { queue := x.receipts.queue ++ [rc], reserved := x.receipts.reserved - 1 } }).setPortCond p
      .receipt
  else
    s.modPort p fun x => { x with receipts := { x.receipts with reserved := x.receipts.reserved - 1 } }

/-! ## Release and claims -/

/-- Where a block goes at release (R12). -/
def releasedTo (m : Message) (b : BlockId) : BlockPlace :=
  if m.badMarks.contains b then .retired else .free

/-- The release of record r, which holds m (R12): blocks, charges, receipt hand-off, record. -/
def State.release (s : State) (r : RecId) (m : Message) (cause : Cause) : State :=
  let s1 := m.blocks.foldl (fun t b => t.placeBlock b (releasedTo m b)) s
  let s2 := s1.modAccount (portOf m.origin) fun a =>
    { a with chargedBlocks := a.chargedBlocks - m.blocks.length, chargedRecords := a.chargedRecords - 1 }
  let s3 := if m.receiptRequested then s2.handOff (portOf m.origin) (receiptOf m cause) else s2
  s3.setRecord r .free

/-- The tally a claim raises (R10). -/
inductive TallyKind where
  | fetched
  | expired
  | discarded
  deriving DecidableEq, Repr

def Tallies.raise (t : Tallies) (k : TallyKind) (n : Nat) : Tallies :=
  match k with
  | .fetched => { t with fetched := t.fetched + n }
  | .expired => { t with expired := t.expired + n }
  | .discarded => { t with discarded := t.discarded + n }

/-- What a claim leaves in the record's fields: the count lowered and, for a GROUP record, one tally
raised (R10). -/
def Message.afterClaim (m : Message) (amount : Nat) (tally : Option TallyKind) : Message :=
  { m with
    count := m.count - amount
    tallies :=
      match tally with
      | none => m.tallies
      | some k => if m.isGroup then m.tallies.raise k amount else m.tallies }

/-- A decrement claim, with the release when the count reaches 0 (R10, R12). -/
def State.claim (s : State) (r : RecId) (amount : Nat) (tally : Option TallyKind) (cause : Cause) : State :=
  match (s.record r).message? with
  | none => s
  | some m =>
    let m' := m.afterClaim amount tally
    if m'.count = 0 then s.release r m' cause else s.modMessage r fun _ => m'

/-- A bad-mark claim (R11). -/
def State.badMark (s : State) (r : RecId) (b : BlockId) : State :=
  s.modMessage r fun m =>
    { m with badMarks := if m.badMarks.contains b then m.badMarks else m.badMarks ++ [b], damaged := true }

/-! ## Bulk discard (R32) -/

/-- The distinct members of a list in the order of their first appearance. -/
def firstAppearances : List RecId → List RecId
  | [] => []
  | r :: rest => r :: (firstAppearances rest).filter (· ≠ r)

/-- The entries of some queues, queue by queue, each from head to tail. -/
def State.entriesOf (s : State) (eps : List EpId) : List RecId :=
  eps.flatMap fun e => (s.role e).queue

/-- A bulk discard of the queues of `eps`, in that order: one discard claim for each distinct record, at
its first appearance, with the number of its entries (R32). -/
def State.bulkDiscard (s : State) (eps : List EpId) : State :=
  let entries := s.entriesOf eps
  (firstAppearances entries).foldl (fun t r => t.claim r (entries.count r) (some .discarded) .discarded)
    (eps.foldl State.emptyQueue s)

/-- A copy-in completion that put the record into d queues: LIVE with count d, and a deadline when the
effective lifetime is nonzero (R4, R6, R66, R88, R128). -/
def State.makeLive (s : State) (r : RecId) (d lifetime : Nat) : State :=
  match (s.record r).message? with
  | none => s
  | some m =>
    s.setRecord r (.live { m with count := d } (if lifetime = 0 then none else some (afterMs s.now lifetime)))

end Sys2Proof.Machine
end

