-- ==== Sys2Proof/Machine/Links.lean ====
section
/-! DEFINITION. The Channel Controller's and the Group Controller's shared operations: credits, transfers
in flight, the drain completion test, teardown, endings of a request, and dissolve (chapters 3, 4, 7
and 8). -/

namespace Sys2Proof.Machine

/-! ## Channel records -/

def Channel.isFree : Channel → Bool
  | .free => true
  | .requested _ _ _ _ | .opened _ | .draining _ _ _ | .aborting _ _ _ _ => false

/-- What an OPEN or DRAINING channel carries. -/
def Channel.live? : Channel → Option LiveChannel
  | .opened l => some l
  | .draining l _ _ => some l
  | .free | .requested _ _ _ _ | .aborting _ _ _ _ => none

/-- Change what an OPEN or DRAINING channel carries; the other states have no directions (R114). -/
def Channel.mapLive (f : LiveChannel → LiveChannel) : Channel → Channel
  | .opened l => .opened (f l)
  | .draining l cl d => .draining (f l) cl d
  | .free => .free
  | .requested a b o d => .requested a b o d
  | .aborting a b cl t => .aborting a b cl t

def LiveChannel.direction (l : LiveChannel) : Dirn → Direction
  | .callerToCallee => l.toCallee
  | .calleeToCaller => l.toCaller

def LiveChannel.modDirection (l : LiveChannel) (d : Dirn) (f : Direction → Direction) : LiveChannel :=
  match d with
  | .callerToCallee => { l with toCallee := f l.toCallee }
  | .calleeToCaller => { l with toCaller := f l.toCaller }

/-- The direction in which an end sends (R59). -/
def LiveChannel.sendingFrom (l : LiveChannel) (e : EpId) : Dirn :=
  if e = l.caller then .callerToCallee else .calleeToCaller

/-- The end that receives on a direction. -/
def LiveChannel.receiver (l : LiveChannel) : Dirn → EpId
  | .callerToCallee => l.callee
  | .calleeToCaller => l.caller

/-- The other end. -/
def LiveChannel.other (l : LiveChannel) (e : EpId) : EpId :=
  if e = l.caller then l.callee else l.caller

/-- The channel whose end is the endpoint, OPEN, with its record. -/
def State.openChannelOf (s : State) (e : EpId) : Option (ChanId × LiveChannel) :=
  match s.role e with
  | .connected c _ _ _ =>
    match s.channel c with
    | .opened l => some (c, l)
    | .free | .requested _ _ _ _ | .draining _ _ _ | .aborting _ _ _ _ => none
  | .idle | .listening _ | .offered _ _ _ _ | .calling _ _ | .closing _ _ _ _ | .publisher _
  | .member _ _ _ => none

def State.modLive (s : State) (c : ChanId) (f : LiveChannel → LiveChannel) : State :=
  s.setChannel c ((s.channel c).mapLive f)

/-- SEND acceptance: one credit spent, one message outstanding, one sequence number used (R63). -/
def Direction.spend (x : Direction) : Direction :=
  { x with credits := x.credits - 1, outstanding := x.outstanding + 1, nextSequence := x.nextSequence + 1#16 }

/-- A message of the direction is no longer outstanding: its credit returns (R68, R72, R83, R86, R90). -/
def Direction.refund (x : Direction) : Direction :=
  { x with credits := x.credits + 1, outstanding := x.outstanding - 1 }

/-- Return a credit while the channel is OPEN or DRAINING; an ABORTING channel keeps no directions. -/
def State.returnCredit (s : State) (c : ChanId) (d : Dirn) : State :=
  s.modLive c fun l => l.modDirection d Direction.refund

/-- Transfers in flight rise by one (R63, R78). -/
def State.beginTransfer (s : State) (c : ChanId) : State :=
  s.modLive c fun l => { l with transfers := l.transfers + 1 }

/-- Transfers in flight fall by one; an ABORTING channel whose last transfer ends becomes FREE (R114). -/
def Channel.endTransfer : Channel → Channel
  | .opened l => .opened { l with transfers := l.transfers - 1 }
  | .draining l cl d => .draining { l with transfers := l.transfers - 1 } cl d
  | .aborting a b cl t => if t ≤ 1 then .free else .aborting a b cl (t - 1)
  | .free => .free
  | .requested a b o d => .requested a b o d

def State.endTransfer (s : State) (c : ChanId) : State :=
  s.setChannel c (s.channel c).endTransfer

/-- Write a close outcome with its discarded count and set CLOSED, at an end whose port is ONLINE (R33,
R115). -/
def State.closeAt (s : State) (e : EpId) (o : CloseOutcome) (discarded : Nat) : State :=
  if s.online (portOf e) then
    (s.modEndpoint e fun x => { x with closeOutcome := o, discarded := discarded }).setEndpointCond e .closed
  else s

/-- The drain completion test and the completion it gives (R109). -/
def State.drainTest (s : State) (c : ChanId) : State :=
  match s.channel c with
  | .draining l _ _ =>
    if s.online (portOf l.caller) ∧ s.online (portOf l.callee) ∧ (s.role l.caller).queue = [] ∧
        (s.role l.callee).queue = [] ∧ l.transfers = 0 then
      let s1 := ((s.setChannel c .free).setRole l.caller .idle).setRole l.callee .idle
      (s1.closeAt l.caller .complete 0).closeAt l.callee .complete 0
    else s
  | .free | .requested _ _ _ _ | .opened _ | .aborting _ _ _ _ => s

/-- The Channel Controller's part when a message of direction d of channel c ends with its transfer, other
than by delivery: the credit returns and the transfer count falls while the channel keeps them, then
the drain completion test (R67, R68, R72, R83, R86). `counted` is no for a message of length 0, whose
transfer was never counted (R69, R85). -/
def State.endMessageTransfer (s : State) (c : ChanId) (d : Dirn) (counted : Bool) : State :=
  let s1 := s.returnCredit c d
  (if counted then s1.endTransfer c else s1).drainTest c

/-- The record after a teardown: ABORTING while transfers are in flight, else FREE (R110). -/
def Channel.tornDown (l : LiveChannel) (closers : Closers) : Channel :=
  if l.transfers = 0 then .free else .aborting l.caller l.callee closers l.transfers

/-- The steps of a teardown for a channel that carries l (R110): discard of the caller's queue and then
the callee's, both ends IDLE, outcomes and CLOSED at the caller and then at the callee, and the channel
ABORTING or FREE. -/
def State.teardownLive (s : State) (c : ChanId) (l : LiveChannel) (closers : Closers)
    (atCaller atCallee : CloseOutcome) : State :=
  let nCaller := (s.role l.caller).queue.length
  let nCallee := (s.role l.callee).queue.length
  let s1 := s.bulkDiscard [l.caller, l.callee]
  let s2 := (s1.setRole l.caller .idle).setRole l.callee .idle
  let s3 := (s2.closeAt l.caller atCaller nCaller).closeAt l.callee atCallee nCallee
  s3.setChannel c (Channel.tornDown l closers)

/-- The teardown of a channel in OPEN or DRAINING (R110); it leaves the other states. -/
def State.teardown (s : State) (c : ChanId) (atCaller atCallee : CloseOutcome) : State :=
  match s.channel c with
  | .opened l => s.teardownLive c l { caller := false, callee := false } atCaller atCallee
  | .draining l cl _ => s.teardownLive c l cl atCaller atCallee
  | .free | .requested _ _ _ _ | .aborting _ _ _ _ => s

/-! ## Endings of a request (sections 3.4 to 3.7) -/

/-- The caller's end of a request that fails: IDLE, and its open outcome and OPEN_FAILED when its port is
ONLINE (R46, R47, R49, R50, R53). -/
def State.failCaller (s : State) (a : EpId) (o : OpenOutcome) : State :=
  let s1 := s.setRole a .idle
  if s.online (portOf a) then (s1.modEndpoint a fun x => { x with openOutcome := o }).setEndpointCond a .openFailed
  else s1

/-- The callee's end of a request that is withdrawn: LISTENING with its filter, its withdraw outcome and
WITHDRAWN set, REQUEST cleared, when its port is ONLINE; else IDLE with nothing written (R48, R49, R50,
R53). -/
def State.withdrawCallee (s : State) (b : EpId) (o : WithdrawOutcome) : State :=
  if s.online (portOf b) then
    ((s.modEndpoint b fun x => { x with role := x.role.backToListening, withdrawOutcome := o }).setEndpointCond b
      .withdrawn).removeConds (portOf b) (itemOf (localOf b)) Cond.request.only
  else s.setRole b .idle

/-! ## Groups -/

def Group.isFree : Group → Bool
  | .free => true
  | .active _ | .dissolving => false

def Group.active? : Group → Option ActiveGroup
  | .active g => some g
  | .free | .dissolving => none

def State.modActive (s : State) (g : GroupId) (f : ActiveGroup → ActiveGroup) : State :=
  match s.group g with
  | .active x => s.setGroup g (.active (f x))
  | .free => s
  | .dissolving => s

/-- The copy-in of a group ends: copy in flight no, and a DISSOLVING group FREE (R128, R129). -/
def State.endGroupCopy (s : State) (g : GroupId) : State :=
  match s.group g with
  | .active x => s.setGroup g (.active { x with copyInFlight := false })
  | .dissolving => s.setGroup g .free
  | .free => s

/-- The steps of a dissolve (R124, R125): discard in member-list order, members IDLE with GROUP_GONE, the
publisher IDLE, the group DISSOLVING while its copy-in is in flight and else FREE. -/
def State.dissolve (s : State) (g : GroupId) (x : ActiveGroup) : State :=
  let s1 := s.bulkDiscard x.members
  let s2 := x.members.foldl (fun t m => t.setRole m .idle) s1
  let s3 := x.members.foldl (fun t m => t.setEndpointCond m .groupGone) s2
  (s3.setRole x.publisher .idle).setGroup g (if x.copyInFlight then .dissolving else .free)

/-- Members leave an ACTIVE group: their queues discarded together in member-list order, the list without
them, each IDLE, and MEMBERS once at the publisher (R123, R125, R133). -/
def State.removeMembers (s : State) (g : GroupId) (x : ActiveGroup) (leaving : List EpId) : State :=
  let s1 := s.bulkDiscard leaving
  let s2 := s1.setGroup g (.active { x with members := x.members.filter fun m => !leaving.contains m })
  let s3 := leaving.foldl (fun t m => t.setRole m .idle) s2
  s3.setEndpointCond x.publisher .members

end Sys2Proof.Machine
end

