-- ==== Sys2Proof/Machine/Transfers.lean ====
section
/-! DEFINITION. The transfer units: copy-in and copy-out, their completions and cancellations, the end
of a block transfer, and a fault in the message memory (chapters 1, 4, 5 and 8). -/

namespace Sys2Proof.Machine

/-! ## The copy-in -/

/-- The staging buffer at a completion: unlocked, pointer 0, words kept (R56, R58). -/
def Staging.released (st : Staging) : Staging :=
  { st with locked := false, pointer := 0 }

/-- The Send Unit's share of every completion (R65). -/
def State.sendUnitDone (s : State) (p : Port) : State :=
  s.modPort p fun x => { x with sendUnit := none, staging := x.staging.released }

/-- Write the send outcome and set SEND_DONE (R70). -/
def State.writeSendOutcome (s : State) (p : Port) (m : Message) (e : SendEnd) (count : Nat) : State :=
  (s.modPort p fun x =>
    { x with
      sendOutcome :=
        { outcome := e, endpoint := localOf m.origin, link := m.link.toLinkId, sequence := m.sequence, count := count }
    }).setPortCond p .sendDone

/-- A completion that delivers onto the receiving endpoint e of channel c (R66). -/
def State.deliver (s : State) (p : Port) (r : RecId) (m : Message) (c : ChanId) (e : EpId) (lifetime : Nat)
    (counted : Bool) : State :=
  let s1 := (s.append e r).makeLive r 1 lifetime
  let s2 := if counted then s1.endTransfer c else s1
  s2.writeSendOutcome p m .delivered 1

/-- A completion of a CHANNEL copy-in that discards (R67, R68). -/
def State.discardCopyIn (s : State) (p : Port) (r : RecId) (m : Message) (c : ChanId) (d : Dirn) (counted : Bool) :
    State :=
  ((s.claim r 1 none .discarded).endMessageTransfer c d counted).writeSendOutcome p m .discarded 0

/-- A completion of a CHANNEL copy-in, by the state of the channel and of the receiving port (R66, R67,
R68). -/
def State.completeChannelCopy (s : State) (p : Port) (r : RecId) (m : Message) (c : ChanId) (d : Dirn)
    (lifetime : Nat) (counted : Bool) : State :=
  match (s.channel c).live? with
  | some l =>
    if s.online (portOf (l.receiver d)) then s.deliver p r m c (l.receiver d) lifetime counted
    else s.discardCopyIn p r m c d counted
  | none => s.discardCopyIn p r m c d counted

/-- Does a member receive the message at the fan-out? (R128) -/
def State.hasRoom (s : State) (e : EpId) : Bool :=
  s.online (portOf e) && decide ((s.role e).queue.length < (s.role e).depth)

/-- A completion of a GROUP copy-in into an ACTIVE group (R128). -/
def State.fanOut (s : State) (p : Port) (r : RecId) (m : Message) (g : GroupId) (x : ActiveGroup) (lifetime : Nat) :
    State :=
  let receivers := x.members.filter s.hasRoom
  let d := receivers.length
  let skipped := x.members.length - d
  let s1 := receivers.foldl (fun t e => t.append e r) s
  let s2 := s1.modMessage r fun m' => { m' with tallies := { m'.tallies with skipped := skipped } }
  let s3 := if d = 0 then s2.claim r 1 none .undelivered else s2.makeLive r d lifetime
  (s3.endGroupCopy g).writeSendOutcome p m .delivered d

/-- A completion of a GROUP copy-in, by the state of the group (R128, R129). -/
def State.completeGroupCopy (s : State) (p : Port) (r : RecId) (m : Message) (g : GroupId) (lifetime : Nat) : State :=
  match (s.group g).active? with
  | some x => s.fanOut p r m g x lifetime
  | none => ((s.claim r 1 none .discarded).endGroupCopy g).writeSendOutcome p m .discarded 0

/-- A copy-in completion (R65): the owner of the link takes it, then the Send Unit's share. -/
def State.completeCopyIn (s : State) (p : Port) (r : RecId) (lifetime : Nat) (counted : Bool) : State :=
  match (s.record r).message? with
  | none => s.sendUnitDone p
  | some m =>
    match m.link with
    | .channel c d => (s.completeChannelCopy p r m c d lifetime counted).sendUnitDone p
    | .group g => (s.completeGroupCopy p r m g lifetime).sendUnitDone p

/-- The start of a copy-in of n blocks: staging LOCKED, Send Unit COPYING, first request (R63, R64,
R65). -/
def State.startCopyIn (s : State) (p : Port) (r : RecId) (kind : MsgKind) (n lifetime : Nat) : State :=
  ((s.modPort p fun x =>
    { x with
      staging := { x.staging with locked := true }
      sendUnit :=
        some { record := r, kind := kind, next := 0, remaining := n, lifetime := lifetime, cancelled := false }
    }).placeRequest (sendRequester p)).grant

/-- The end of a cancelled copy-in: the claim with cause CANCELLED, the channel's or the group's part, the
report, and the unit IDLE (R72, R129). -/
def State.cancelCopyIn (s : State) (p : Port) (r : RecId) : State :=
  let s1 :=
    match (s.record r).message? with
    | none => s
    | some m =>
      match m.link with
      | .channel c d => (s.claim r 1 none .cancelled).endMessageTransfer c d true
      | .group g => (s.claim r 1 none .cancelled).endGroupCopy g
  (s1.modPort p fun x => { x with sendUnit := none }).report p .sendStopped

/-- The block write of position k of a record (R1). -/
def State.writePosition (s : State) (p : Port) (r : RecId) (k : Nat) : State :=
  match (s.record r).message? with
  | none => s
  | some m =>
    match m.blocks[k]? with
    | none => s
    | some b => s.writeBlock b ((s.port p).staging.blockImage m.length k)

/-- The end of a block transfer of the Send Unit of port p (R65, R72). -/
def State.sendTransferEnd (s : State) (p : Port) (u : CopyIn) : State :=
  let s1 := s.writePosition p u.record u.next
  if u.cancelled then s1.cancelCopyIn p u.record
  else if u.remaining ≤ 1 then s1.completeCopyIn p u.record u.lifetime true
  else
    (s1.modPort p fun x =>
      { x with sendUnit := some { u with next := u.next + 1, remaining := u.remaining - 1 } }).placeRequest
      (sendRequester p)

/-! ## The copy-out -/

/-- Write the fetch outcome and set FETCH_DONE (R84). -/
def State.writeFetchOutcome (s : State) (p : Port) (e : EpIndex) (m : Message) : State :=
  (s.modPort p fun x =>
    { x with
      fetchOutcome :=
        { outcome := if x.readBuffer.damaged then .damaged else .ok, endpoint := e, link := m.link.toLinkId,
          sequence := m.sequence } }).setPortCond p .fetchDone

/-- The Channel Controller's part of the end of a fetch of a CHANNEL record (R83, R86). -/
def State.endFetchOn (s : State) (link : RecLink) (counted : Bool) : State :=
  match link with
  | .channel c d => s.endMessageTransfer c d counted
  | .group _ => s

/-- A fetch completion (R82): buffer FULL, outcome and FETCH_DONE, the claim, the channel, the unit
IDLE. -/
def State.completeFetch (s : State) (p : Port) (e : EpIndex) (r : RecId) (counted : Bool) : State :=
  match (s.record r).message? with
  | none => s.modPort p fun x => { x with fetchUnit := none }
  | some m =>
    let s1 := s.modPort p fun x => { x with readBuffer := { x.readBuffer with state := .full } }
    let s2 := s1.writeFetchOutcome p e m
    let s3 := s2.claim r 1 (some .fetched) .fetched
    let s4 := s3.endFetchOn m.link counted
    s4.modPort p fun x => { x with fetchUnit := none }

/-- The end of a cancelled copy-out: the cancellation hand-offs, the report, and the unit IDLE (R86). -/
def State.cancelFetch (s : State) (p : Port) (r : RecId) : State :=
  let s1 :=
    match (s.record r).message? with
    | none => s
    | some m => (s.claim r 1 (some .discarded) .discarded).endFetchOn m.link true
  (s1.modPort p fun x => { x with fetchUnit := none }).report p .fetchStopped

/-- The block a copy-out reads at position k. -/
def State.blockAt? (s : State) (r : RecId) (k : Nat) : Option BlockId :=
  match (s.record r).message? with
  | none => none
  | some m => m.blocks[k]?

/-- The words of a block read go into the read buffer, as read (R80). -/
def State.storeRead (s : State) (p : Port) (k : Nat) (b : BlockId) : State :=
  s.modPort p fun x =>
    { x with readBuffer := { x.readBuffer with words := writeWords x.readBuffer.words (16 * k) (s.blockWords b) } }

/-- The FAIL actions: bad-mark claim, DAMAGED, FAULT (R81). -/
def State.failActions (s : State) (p : Port) (r : RecId) (b : BlockId) : State :=
  ((s.badMark r b).modPort p fun x => { x with readBuffer := { x.readBuffer with damaged := true } }).setPortCond p
    .fault

/-- A block read of a fetch that was not cancelled (R80, R81), with the bytes and the check result as they stand at
the end of the block transfer (log 22). -/
def State.takeRead (s : State) (p : Port) (u : CopyOut) : State :=
  match s.blockAt? u.record u.next with
  | none => s
  | some b =>
    if s.readFails b then (s.storeRead p u.next b).failActions p u.record b else s.storeRead p u.next b

/-- A block read of a cancelled fetch: nothing reaches the read buffer, and a FAIL still marks the block
(R86). -/
def State.takeCancelledRead (s : State) (u : CopyOut) : State :=
  match s.blockAt? u.record u.next with
  | none => s
  | some b => if s.readFails b then s.badMark u.record b else s

/-- The end of a block transfer of the Fetch Unit of port p (R80, R86). -/
def State.fetchTransferEnd (s : State) (p : Port) (u : CopyOut) : State :=
  if u.cancelled then (s.takeCancelledRead u).cancelFetch p u.record
  else
    let s1 := s.takeRead p u
    if u.remaining ≤ 1 then s1.completeFetch p u.endpoint u.record true
    else
      (s1.modPort p fun x =>
        { x with fetchUnit := some { u with next := u.next + 1, remaining := u.remaining - 1 } }).placeRequest
        (fetchRequester p)

/-! ## The events -/

/-- The port whose unit a requester is (section 1.7). -/
def requesterPort (q : Requester) : Port :=
  ⟨q.val / 2, by omega⟩

/-- The transfer's unit is told that its block is done (R15). -/
def State.unitTransferEnd (s : State) (q : Requester) : State :=
  let p := requesterPort q
  if q.val % 2 = 0 then
    match (s.port p).sendUnit with
    | none => s
    | some u => s.sendTransferEnd p u
  else
    match (s.port p).fetchUnit with
    | none => s
    | some u => s.fetchTransferEnd p u

/-- The end of the block transfer in progress: the port is free, the unit acts, and only then the next
grant (R15). -/
def State.blockTransferEnd (s : State) : State :=
  match s.arbiter.inProgress with
  | none => s
  | some q => (({ s with arbiter := { s.arbiter with inProgress := none } } : State).unitTransferEnd q).grant

/-- BLOCK_TRANSFER_END (R15, R65, R66, R67, R68, R72, R80 to R83, R86, R128, R129, R154). With no transfer in
progress there is none to end (log 4). -/
def execBlockTransferEnd (s : State) : Host.Outcome State Fault Refusal :=
  taken s s.blockTransferEnd

/-- MEMORY_FAULT (R2): the stored contents of the block become what the fault leaves, and from then on a
read of it reports FAIL (log 7). DESIGN CHOICE (log 22): R2 lets the fault strike a held block at any time, also
between two fetches of one GROUP record, of which then only the later one is DAMAGED; R132 says that they never differ. -/
def execMemoryFault (b : BlockId) (contents : List Byte) (s : State) : Host.Outcome State Fault Refusal :=
  taken s
    { s with
      memory := Memory.writeBytes s.memory (blockBase b) (contents.take 32)
      badChecks := s.badChecks.set b true }

end Sys2Proof.Machine
end

