-- ==== Sys2Proof/Machine/PortReset.lean ====
section
/-! DEFINITION. The port reset: entry into RESETTING, the shares of the blocks, the reset inputs and chip
reset (chapters 2, 3, 6 to 10, R169). -/

namespace Sys2Proof.Machine

/-! ## The shares (R153) -/

/-- The Memory Manager's share: receipt requested cleared on the records that originate at p (R14). -/
def Message.withoutReceiptAt (p : Port) (m : Message) : Message :=
  if portOf m.origin = p then { m with receiptRequested := false } else m

def State.memoryManagerShare (s : State) (p : Port) : State :=
  { s with records := mapVector (MsgRecord.mapMessage (Message.withoutReceiptAt p)) s.records }

/-- The eight endpoints of a port, endpoint 0 to endpoint 7. -/
def endpointsOf (p : Port) : List EpId :=
  (List.finRange 8).map (globalOf p)

/-- The credit of one discarded entry whose channel stays OPEN or DRAINING (R32). -/
def State.refundEntry (s : State) (r : RecId) : State :=
  match (s.record r).message? with
  | none => s
  | some m =>
    match m.link with
    | .channel c d => s.returnCredit c d
    | .group _ => s

/-- An endpoint as a port reset leaves it (R35). -/
def Endpoint.clear (_ : Endpoint) : Endpoint :=
  Endpoint.reset

/-- The Endpoint Table's share, with the view selector: the queues discarded in endpoint order, with the
credits of R32, every endpoint IDLE with its outcomes none, the selector 0 (R34, R35). -/
def State.endpointTableShare (s : State) (p : Port) : State :=
  let eps := endpointsOf p
  let s1 := (s.entriesOf eps).foldl State.refundEntry s
  let s2 := s1.bulkDiscard eps
  let s3 := eps.foldl (fun t e => t.modEndpoint e Endpoint.clear) s2
  s3.modPort p fun x => { x with host := { x.host with viewSel := 0 } }

/-- The end of one request in the Channel Controller's share: the ends at other ONLINE ports are told, and
each end at a port that is not ONLINE goes to IDLE (R50, R53). -/
def State.resetRequest (s : State) (c : ChanId) (caller callee : EpId) (p : Port) : State :=
  let s1 := s.setChannel c .free
  let s2 := if portOf caller = p then s1.setRole caller .idle else s1.failCaller caller .peerReset
  if portOf callee = p then s2.setRole callee .idle else s2.withdrawCallee callee .callerReset

/-- The Channel Controller's share for one channel (R53, R116). -/
def State.resetChannel (p : Port) (s : State) (c : ChanId) : State :=
  match s.channel c with
  | .requested a b _ _ => if portOf a = p ∨ portOf b = p then s.resetRequest c a b p else s
  | .opened l => if portOf l.caller = p ∨ portOf l.callee = p then s.teardown c .peerReset .peerReset else s
  | .draining l _ _ => if portOf l.caller = p ∨ portOf l.callee = p then s.teardown c .peerReset .peerReset else s
  | .free => s
  | .aborting _ _ _ _ => s

/-- The Channel Controller's share: the channels in increasing number (R116). -/
def State.channelControllerShare (s : State) (p : Port) : State :=
  (List.finRange 16).foldl (State.resetChannel p) s

/-- The Group Controller's share for one group (R133). -/
def State.resetGroup (p : Port) (s : State) (g : GroupId) : State :=
  match s.group g with
  | .active x =>
    if portOf x.publisher = p then s.dissolve g x
    else
      let leaving := x.members.filter fun m => portOf m = p
      if leaving = [] then s else s.removeMembers g x leaving
  | .free => s
  | .dissolving => s

/-- The Group Controller's share: the groups in increasing number (R133). -/
def State.groupControllerShare (s : State) (p : Port) : State :=
  (List.finRange 8).foldl (State.resetGroup p) s

/-- The Receipt Unit's share (R103). -/
def State.receiptUnitShare (s : State) (p : Port) : State :=
  s.modPort p fun x => { x with receipts := ReceiptUnit.reset }

/-- The Notification Unit after a port reset: QUIET, mask set, enables, holdoff and threshold kept (R141,
R147). -/
def Notification.afterPortReset (n : Notification) : Notification :=
  { n with state := .quiet, masked := true, bulkCount := 0, deadline := none }

/-- The share of the Attention Unit and the Notification Unit (R147). -/
def State.attentionShare (s : State) (p : Port) : State :=
  s.modPort p fun x =>
    { x with attention := Attention.reset, notification := x.notification.afterPortReset }

/-- The share of one block. -/
def State.shareOf (s : State) (p : Port) (b : ShareBlock) : State :=
  match b with
  | .memoryManager => s.memoryManagerShare p
  | .endpointTable => s.endpointTableShare p
  | .channelController => s.channelControllerShare p
  | .groupController => s.groupControllerShare p
  | .receiptUnit => s.receiptUnitShare p
  | .attention => s.attentionShare p

/-- A block takes its share and reports, when its report is still due (R153, log 5). -/
def State.takeShare (p : Port) (s : State) (b : ShareBlock) : State :=
  if s.awaits p (.share b) then (s.shareOf p b).report p (.share b) else s

/-! ## Entry into RESETTING (R153) -/

/-- The reports due from a port that enters RESETTING (R153). -/
def allReports : List Report :=
  [.share .memoryManager, .share .endpointTable, .share .channelController, .share .groupController,
    .share .receiptUnit, .share .attention, .sendStopped, .fetchStopped]

/-- The buffers and the outcomes take the reset in the entry event (R56, R70, R75, R84). -/
def PortRec.clearBuffers (x : PortRec) : PortRec :=
  { x with
    staging := Staging.reset
    readBuffer := ReadBuffer.reset
    sendOutcome := SendOutcome.reset
    fetchOutcome := FetchOutcome.reset }

/-- The Send Unit takes the reset: stopped at once, or cancelled at the end of its block transfer in
progress (R72). -/
def State.stopSendUnit (s : State) (p : Port) : State :=
  match (s.port p).sendUnit with
  | none => s.report p .sendStopped
  | some u =>
    if s.arbiter.inProgress = some (sendRequester p) then
      s.modPort p fun x => { x with sendUnit := some { u with cancelled := true } }
    else (s.dropRequest (sendRequester p)).cancelCopyIn p u.record

/-- The Fetch Unit takes the reset in the same way (R86). -/
def State.stopFetchUnit (s : State) (p : Port) : State :=
  match (s.port p).fetchUnit with
  | none => s.report p .fetchStopped
  | some u =>
    if s.arbiter.inProgress = some (fetchRequester p) then
      s.modPort p fun x => { x with fetchUnit := some { u with cancelled := true } }
    else (s.dropRequest (fetchRequester p)).cancelFetch p u.record

/-- Entry of port p into RESETTING, one event: the state with all reports due, PEER_STATE elsewhere when p
was ONLINE, the buffers, outcomes and transfer units, then the shares taken in this event, and the
re-evaluation that ends it (R144, R153, R154). -/
def State.enterReset (s : State) (p : Port) (disable : Bool) (atEntry : List ShareBlock) : State :=
  let s1 := s.modPort p fun x => { x with state := .resetting disable allReports }
  let s2 := if s.online p then s1.tellPeers p else s1
  let s3 := s2.modPort p PortRec.clearBuffers
  let s4 := (s3.stopSendUnit p).stopFetchUnit p
  (atEntry.foldl (State.takeShare p) s4).reevaluateAll

/-! ## The share events -/

/-- MEMORY_MANAGER_RESET_SHARE (R14). -/
def execMemoryManagerResetShare (p : Port) (s : State) : Host.Outcome State Fault Refusal :=
  taken s (s.takeShare p .memoryManager)

/-- ENDPOINT_TABLE_RESET_SHARE (R35). -/
def execEndpointTableResetShare (p : Port) (s : State) : Host.Outcome State Fault Refusal :=
  taken s (s.takeShare p .endpointTable)

/-- CHANNEL_CONTROLLER_RESET_SHARE (R53, R116), with the re-evaluation after the clearing of REQUEST
(R144). -/
def execChannelControllerResetShare (p : Port) (s : State) : Host.Outcome State Fault Refusal :=
  taken s
    (if s.awaits p (.share .channelController) then (s.takeShare p .channelController).reevaluateAll else s)

/-- GROUP_CONTROLLER_RESET_SHARE (R133). -/
def execGroupControllerResetShare (p : Port) (s : State) : Host.Outcome State Fault Refusal :=
  taken s (s.takeShare p .groupController)

/-- RECEIPT_UNIT_RESET_SHARE (R103). -/
def execReceiptUnitResetShare (p : Port) (s : State) : Host.Outcome State Fault Refusal :=
  taken s (s.takeShare p .receiptUnit)

/-- ATTENTION_RESET_SHARE (R147). -/
def execAttentionResetShare (p : Port) (s : State) : Host.Outcome State Fault Refusal :=
  taken s (s.takeShare p .attention)

/-! ## The reset inputs -/

/-- RESET_INPUT_ASSERTION (R152): ASSERTED, and a port reset of an ONLINE or OFFLINE port. While chip reset
is asserted only the pin's level changes, and no event is taken (R169). -/
def execResetInputAssertion (p : Port) (atEntry : List ShareBlock) (s : State) : Host.Outcome State Fault Refusal :=
  if s.chipReset then .next (s.modPort p fun x => { x with resetPin := true })
  else
    let s1 := s.modPort p fun x => { x with resetPin := true, resetInput := true }
    .next
      (match (s.port p).state with
      | .online => s1.enterReset p false atEntry
      | .offline => s1.enterReset p false atEntry
      | .disabled => s1
      | .resetting _ _ => s1)

/-- RESET_INPUT_RELEASE (R152): RELEASED, no port state changes. While chip reset is asserted only the
pin's level changes (R169). -/
def execResetInputRelease (p : Port) (s : State) : Host.Outcome State Fault Refusal :=
  .next
    (s.modPort p fun x =>
      { x with resetPin := false, resetInput := if s.chipReset then x.resetInput else false })

/-- CHIP_RESET_ASSERTION (R169): from here every window reads 0 and ignores every write, and every line is
inactive. -/
def execChipResetAssertion (s : State) : Host.Outcome State Fault Refusal :=
  .next { s with chipReset := true }

/-- CHIP_RESET_RELEASE (R17, R169): every block takes its chip reset state, and the reset-input status of
each port is taken from the level of its pin. -/
def execChipResetRelease (s : State) : Host.Outcome State Fault Refusal :=
  .next (State.afterChipReset (mapVector PortRec.resetPin s.ports) s.pending)

end Sys2Proof.Machine
end

