-- ==== Sys2Proof/Machine/Endpoints.lean ====
section
/-! DEFINITION. LISTEN, OPEN, ACCEPT, REJECT and CLOSE (chapters 2, 3, 7 and 8). -/

namespace Sys2Proof.Machine

/-! ## LISTEN (R23) -/

def listenRefusal (s : State) (p : Port) (w : Word) : Option ResultCode :=
  let r := s.role (endpointOf p w)
  firstFailing [
    (!s.online p, .notOnline),
    (decide (7 < w.toNat), .badEndpoint),
    (decide (4 < (s.arg p 0).toNat), .badArg),
    (!(r.isIdle || r.listening?.isSome), .wrongState)]

/-- LISTEN (R23). -/
def execListen (p : Port) (w : Word) (s : State) : Host.Outcome State Fault Refusal :=
  answer s p (listenRefusal s p w)
    (s.setRole (endpointOf p w) (.listening (filterOfWord (s.arg p 0))), 0#16)

/-! ## OPEN (R39 to R42) -/

/-- The lowest-numbered FREE channel (R38). -/
def State.freeChannel? (s : State) : Option ChanId :=
  (List.finRange 16).find? fun c => (s.channel c).isFree

/-- The target's filter does not admit callers of this port (R24, R40). -/
def filteredOut (r : Role) (p : Port) : Bool :=
  match r.listening? with
  | some f => !f.admits p
  | none => false

def openRefusal (s : State) (p : Port) (w : Word) : Option ResultCode :=
  let target := globalEndpointOf (s.arg p 0)
  firstFailing [
    (!s.online p, .notOnline),
    (decide (7 < w.toNat), .badEndpoint),
    (decide (31 < (s.arg p 0).toNat) || decide (target = endpointOf p w), .badEndpoint),
    (decide ((s.arg p 1).toNat = 0) || decide (Config.maxWindow < (s.arg p 1).toNat), .badArg),
    (decide (Config.maxMessage < (s.arg p 2).toNat), .badArg),
    (namesOutside (s.arg p 3) 3#16, .badArg),
    (!(s.role (endpointOf p w)).isIdle, .wrongState),
    (!s.online (portOf target), .peerDown),
    ((s.role target).listening?.isNone, .notListening),
    (filteredOut (s.role target) p, .filtered),
    (s.freeChannel?.isNone, .noChannel)]

/-- The offer an OPEN makes (R39, R41). -/
def State.offerArgs (s : State) (p : Port) : Offer where
  window := (s.arg p 1).toNat
  maxLength := (s.arg p 2).toNat
  options := optionsOfWord (s.arg p 3)

/-- LISTENING becomes OFFERED with the filter kept (R21, R41); any other state stays. -/
def Role.takeOffer (r : Role) (c : ChanId) (caller : EpId) (o : Offer) : Role :=
  match r with
  | .listening f => .offered c caller f o
  | .idle => .idle
  | .offered c' e f o' => .offered c' e f o'
  | .calling c' e => .calling c' e
  | .connected c' e q d => .connected c' e q d
  | .closing c' e q d => .closing c' e q d
  | .publisher g => .publisher g
  | .member g q d => .member g q d

/-- The effect of an accepted OPEN from a to b on channel c (R41, R42). -/
def State.placeRequestOn (s : State) (c : ChanId) (a b : EpId) (o : Offer) : State :=
  let s1 := s.setChannel c (.requested a b o (afterMs s.now s.config.openTimeout))
  let s2 := s1.setRole a (.calling c b)
  (s2.modEndpoint b fun x => { x with role := x.role.takeOffer c a o }).setEndpointCond b .request

def acceptOpen (s : State) (p : Port) (w : Word) : State × Word :=
  match s.freeChannel? with
  | none => (s, 0#16)
  | some c =>
    (s.placeRequestOn c (endpointOf p w) (globalEndpointOf (s.arg p 0)) (s.offerArgs p), BitVec.ofNat 16 c.val)

/-- OPEN (R39, R41). -/
def execOpenChannel (p : Port) (w : Word) (s : State) : Host.Outcome State Fault Refusal :=
  answer s p (openRefusal s p w) (acceptOpen s p w)

/-! ## ACCEPT and REJECT (R43, R44, R46) -/

/-- No live request: the endpoint is not OFFERED, or its caller's port is not ONLINE (R43). -/
def State.noLiveRequest (s : State) (e : EpId) : Bool :=
  match (s.role e).offered? with
  | some (_, caller) => !s.online (portOf caller)
  | none => true

def acceptRefusal (s : State) (p : Port) (w : Word) : Option ResultCode :=
  firstFailing [
    (!s.online p, .notOnline),
    (decide (7 < w.toNat), .badEndpoint),
    (decide ((s.arg p 0).toNat = 0) || decide (Config.maxWindow < (s.arg p 0).toNat), .badArg),
    (decide (Config.maxMessage < (s.arg p 1).toNat), .badArg),
    (namesOutside (s.arg p 2) 3#16, .badArg),
    (s.noLiveRequest (endpointOf p w), .notOffered)]

/-- A direction as ACCEPT opens it (R44). -/
def Direction.fresh (window : Nat) : Direction where
  window := window
  credits := window
  outstanding := 0
  nextSequence := 0#16

/-- The terms ACCEPT settles (R44): granted window, smaller maximum, common options. -/
def settledTerms (a b : EpId) (o : Offer) (window maxLength : Nat) (options : Options) : LiveChannel where
  caller := a
  callee := b
  maxLength := min o.maxLength maxLength
  options := o.options.inter options
  toCallee := Direction.fresh window
  toCaller := Direction.fresh o.window
  transfers := 0

/-- The effect of an accepted ACCEPT of channel c (R44). -/
def State.openAgreed (s : State) (c : ChanId) (l : LiveChannel) : State :=
  let s1 := s.setChannel c (.opened l)
  let s2 := s1.setRole l.caller (.connected c l.callee [] l.toCaller.window)
  let s3 := s2.setRole l.callee (.connected c l.caller [] l.toCallee.window)
  s3.setEndpointCond l.caller .opened

def acceptAccept (s : State) (p : Port) (w : Word) : State × Word :=
  match (s.role (endpointOf p w)).offered? with
  | none => (s, 0#16)
  | some (c, _) =>
    match s.channel c with
    | .requested a b o _ =>
      (s.openAgreed c
        (settledTerms a b o (s.arg p 0).toNat (s.arg p 1).toNat (optionsOfWord (s.arg p 2))),
        BitVec.ofNat 16 c.val)
    | .free | .opened _ | .draining _ _ _ | .aborting _ _ _ _ => (s, BitVec.ofNat 16 c.val)

/-- ACCEPT (R43, R44). -/
def execAccept (p : Port) (w : Word) (s : State) : Host.Outcome State Fault Refusal :=
  answer s p (acceptRefusal s p w) (acceptAccept s p w)

def rejectRefusal (s : State) (p : Port) (w : Word) : Option ResultCode :=
  firstFailing [
    (!s.online p, .notOnline),
    (decide (7 < w.toNat), .badEndpoint),
    (s.noLiveRequest (endpointOf p w), .notOffered)]

/-- The effect of an accepted REJECT at endpoint e (R46). -/
def State.rejectAt (s : State) (e : EpId) (code : Word) : State :=
  match (s.role e).offered? with
  | none => s
  | some (c, caller) =>
    let s1 := s.setChannel c .free
    let s2 := s1.modEndpoint e fun x => { x with role := x.role.backToListening }
    s2.failCaller caller (.rejected code)

/-- REJECT (R46). -/
def execReject (p : Port) (w : Word) (s : State) : Host.Outcome State Fault Refusal :=
  answer s p (rejectRefusal s p w) (s.rejectAt (endpointOf p w) (s.arg p 0), 0#16)

/-! ## CLOSE (R25, R26, R47, R48, R105 to R107, R111, R123, R124) -/

def closeRefusal (s : State) (p : Port) (w : Word) : Option ResultCode :=
  firstFailing [
    (!s.online p, .notOnline),
    (decide (7 < w.toNat), .badEndpoint),
    (decide (1 < (s.arg p 0).toNat), .badArg),
    ((s.role (endpointOf p w)).isIdle, .wrongState)]

/-- CLOSE on an OFFERED endpoint (R47): the channel FREE, the callee IDLE, the caller told REJECTED with code 0. -/
def State.closeOffered (s : State) (e : EpId) (c : ChanId) (caller : EpId) : State :=
  ((s.setChannel c .free).setRole e .idle).failCaller caller (.rejected 0#16)

/-- CLOSE on a CALLING endpoint (R48): the request withdrawn, with the re-evaluation at the callee's port
after the clearing of REQUEST (R144). -/
def State.closeCalling (s : State) (e : EpId) (c : ChanId) (callee : EpId) : State :=
  let s1 := ((s.setChannel c .free).setRole e .idle).withdrawCallee callee .callerClosed
  if s.online (portOf callee) then s1.reevaluate (portOf callee) else s1

/-- An abortive CLOSE at endpoint e of a channel that carries l (R111). -/
def State.abortAt (s : State) (e : EpId) (c : ChanId) (l : LiveChannel) : State :=
  if e = l.caller then s.teardown c .abortedLocal .abortedByPeer else s.teardown c .abortedByPeer .abortedLocal

/-- The drain deadline of a drain begun now (R112). -/
def State.drainDeadline (s : State) : Option Time :=
  if s.config.drainLimit = 0 then none else some (afterMs s.now s.config.drainLimit)

/-- Is the channel still DRAINING? -/
def Channel.isDraining : Channel → Bool
  | .draining _ _ _ => true
  | .free | .requested _ _ _ _ | .opened _ | .aborting _ _ _ _ => false

/-- The first graceful CLOSE, at endpoint e of an OPEN channel (R106). -/
def State.beginDrain (s : State) (e : EpId) (c : ChanId) (l : LiveChannel) : State :=
  let closers : Closers := { caller := decide (e = l.caller), callee := decide (e ≠ l.caller) }
  let s1 := s.setChannel c (.draining l closers s.drainDeadline)
  let s2 := s1.modEndpoint l.caller fun x => { x with role := x.role.startClosing }
  let s3 := s2.modEndpoint l.callee fun x => { x with role := x.role.startClosing }
  let s4 := s3.drainTest c
  if (s4.channel c).isDraining then s4.setEndpointCond (l.other e) .peerClosing else s4

/-- A graceful CLOSE at endpoint e of a DRAINING channel (R107). -/
def State.joinDrain (s : State) (e : EpId) (c : ChanId) (l : LiveChannel) (cl : Closers) (d : Option Time) : State :=
  if e = l.caller then
    if cl.caller then s
    else (s.setChannel c (.draining l { cl with caller := true } d)).setEndpointCond l.callee .peerClosing
  else
    if cl.callee then s
    else (s.setChannel c (.draining l { cl with callee := true } d)).setEndpointCond l.caller .peerClosing

/-- CLOSE on a CONNECTED or CLOSING endpoint, by mode and channel state (R105). -/
def State.closeChannelEnd (s : State) (e : EpId) (c : ChanId) (abort : Bool) : State :=
  match s.channel c with
  | .opened l => if abort then s.abortAt e c l else s.beginDrain e c l
  | .draining l cl d => if abort then s.abortAt e c l else s.joinDrain e c l cl d
  | .free => s
  | .requested _ _ _ _ => s
  | .aborting _ _ _ _ => s

/-- CLOSE on a PUBLISHER endpoint (R124). -/
def State.closePublisher (s : State) (g : GroupId) : State :=
  match s.group g with
  | .active x => s.dissolve g x
  | .free => s
  | .dissolving => s

/-- CLOSE on a MEMBER endpoint (R123). -/
def State.closeMember (s : State) (e : EpId) (g : GroupId) : State :=
  match s.group g with
  | .active x => s.removeMembers g x [e]
  | .free => s
  | .dissolving => s

/-- The effect of an accepted CLOSE, taken by the block that owns the endpoint's role (R25). -/
def State.closeAtRole (s : State) (e : EpId) (abort : Bool) : State :=
  match s.role e with
  | .idle => s
  | .listening _ => s.setRole e .idle
  | .offered c caller _ _ => s.closeOffered e c caller
  | .calling c callee => s.closeCalling e c callee
  | .connected c _ _ _ => s.closeChannelEnd e c abort
  | .closing c _ _ _ => s.closeChannelEnd e c abort
  | .publisher g => s.closePublisher g
  | .member g _ _ => s.closeMember e g

/-- CLOSE (R25): mode 0 GRACEFUL, 1 ABORT. -/
def execClose (p : Port) (w : Word) (s : State) : Host.Outcome State Fault Refusal :=
  answer s p (closeRefusal s p w)
    (s.closeAtRole (endpointOf p w) (decide ((s.arg p 0).toNat = 1)), 0#16)

end Sys2Proof.Machine
end

