-- ==== Sys2Proof/Machine/Groups.lean ====
section
/-! DEFINITION. CREATE, POLICY and JOIN (chapter 8). -/

namespace Sys2Proof.Machine

/-! ## CREATE (R120) -/

/-- The lowest-numbered FREE group (R120). -/
def State.freeGroup? (s : State) : Option GroupId :=
  (List.finRange 8).find? fun g => (s.group g).isFree

def createRefusal (s : State) (p : Port) (w : Word) : Option ResultCode :=
  firstFailing [
    (!s.online p, .notOnline),
    (decide (7 < w.toNat), .badEndpoint),
    (decide (Config.maxMessage < (s.arg p 0).toNat), .badArg),
    (namesOutside (s.arg p 1) 3#16, .badArg),
    (!(s.role (endpointOf p w)).isIdle, .wrongState),
    (s.freeGroup?.isNone, .noGroup)]

/-- A group as CREATE makes it (R120). -/
def newGroup (publisher : EpId) (maxLength : Nat) (options : Options) : ActiveGroup where
  publisher := publisher
  members := []
  policy := .opened
  maxLength := maxLength
  options := options
  nextSequence := 0#16
  copyInFlight := false

def acceptCreate (s : State) (p : Port) (w : Word) : State × Word :=
  match s.freeGroup? with
  | none => (s, 0#16)
  | some g =>
    let e := endpointOf p w
    ((s.setGroup g (.active (newGroup e (s.arg p 0).toNat (optionsOfWord (s.arg p 1))))).setRole e (.publisher g),
      BitVec.ofNat 16 g.val)

/-- CREATE (R120). -/
def execCreate (p : Port) (w : Word) (s : State) : Host.Outcome State Fault Refusal :=
  answer s p (createRefusal s p w) (acceptCreate s p w)

/-! ## POLICY (R121) -/

def policyRefusal (s : State) (p : Port) (w : Word) : Option ResultCode :=
  firstFailing [
    (!s.online p, .notOnline),
    (decide (7 < w.toNat), .badEndpoint),
    (decide (1 < (s.arg p 0).toNat), .badArg),
    ((s.role (endpointOf p w)).published?.isNone, .wrongState)]

def policyOfWord (w : Word) : GroupPolicy :=
  if w.toNat = 0 then .opened else .closed

def State.setPolicy (s : State) (e : EpId) (x : GroupPolicy) : State :=
  match (s.role e).published? with
  | none => s
  | some g => s.modActive g fun y => { y with policy := x }

/-- POLICY (R121). -/
def execPolicy (p : Port) (w : Word) (s : State) : Host.Outcome State Fault Refusal :=
  answer s p (policyRefusal s p w) (s.setPolicy (endpointOf p w) (policyOfWord (s.arg p 0)), 0#16)

/-! ## JOIN (R122) -/

/-- The group is not ACTIVE, or its publisher's port is not ONLINE (R122). -/
def State.groupGone (s : State) (g : GroupId) : Bool :=
  match (s.group g).active? with
  | some x => !s.online (portOf x.publisher)
  | none => true

def State.groupFull (s : State) (g : GroupId) : Bool :=
  match (s.group g).active? with
  | some x => decide (Config.maxMembers ≤ x.members.length)
  | none => false

def State.groupClosed (s : State) (g : GroupId) : Bool :=
  match (s.group g).active? with
  | some x => decide (x.policy = .closed)
  | none => false

def joinRefusal (s : State) (p : Port) (w : Word) : Option ResultCode :=
  let g := groupOfWord (s.arg p 0)
  firstFailing [
    (!s.online p, .notOnline),
    (decide (7 < w.toNat), .badEndpoint),
    (decide (7 < (s.arg p 0).toNat), .badArg),
    (decide ((s.arg p 1).toNat = 0) || decide (Config.maxWindow < (s.arg p 1).toNat), .badArg),
    (!(s.role (endpointOf p w)).isIdle, .wrongState),
    (s.groupGone g, .noGroup),
    (s.groupFull g, .groupFull),
    (s.groupClosed g, .groupClosed)]

def acceptJoin (s : State) (p : Port) (w : Word) : State × Word :=
  let g := groupOfWord (s.arg p 0)
  let e := endpointOf p w
  match (s.group g).active? with
  | none => (s, 0#16)
  | some x =>
    let members := x.members ++ [e]
    let s1 := s.setGroup g (.active { x with members := members })
    let s2 := s1.setRole e (.member g [] (s.arg p 1).toNat)
    (s2.setEndpointCond x.publisher .members, BitVec.ofNat 16 members.length)

/-- JOIN (R122). -/
def execJoin (p : Port) (w : Word) (s : State) : Host.Outcome State Fault Refusal :=
  answer s p (joinRefusal s p w) (acceptJoin s p w)

end Sys2Proof.Machine
end

