-- ==== Sys2Proof/Machine/Manage.lean ====
section
/-! DEFINITION. ONLINE, OFFLINE and the five management commands (chapter 10). -/

namespace Sys2Proof.Machine

/-! ## ONLINE and OFFLINE (R150, R151) -/

/-- DISABLED or RESETTING (R149, R150). -/
def State.outOfReach (s : State) (p : Port) : Bool :=
  (s.port p).state.hidesWindow

def onlineRefusal (s : State) (p : Port) : Option ResultCode :=
  firstFailing [
    (s.outOfReach p, .notOnline),
    (s.online p, .wrongState),
    ((s.port p).resetInput, .wrongState)]

/-- ONLINE (R150). Its strobe word is not used. -/
def execOnline (p : Port) (_w : Word) (s : State) : Host.Outcome State Fault Refusal :=
  answer s p (onlineRefusal s p) ((s.modPort p fun x => { x with state := .online }).tellPeers p, 0#16)

def offlineRefusal (s : State) (p : Port) : Option ResultCode :=
  firstFailing [(s.outOfReach p, .notOnline)]

/-- OFFLINE (R151). Its strobe word is not used. -/
def execOffline (p : Port) (_w : Word) (atEntry : List ShareBlock) (s : State) :
    Host.Outcome State Fault Refusal :=
  answer s p (offlineRefusal s p) (s.enterReset p false atEntry, 0#16)

/-! ## The management commands (R155 to R160) -/

/-- The checks every management command makes first (R155): DENIED at a port other than P0, NOT_ONLINE
while P0 is RESETTING. R149 takes no command of a DISABLED port, and P0 is never DISABLED (R148). -/
def managementChecks (s : State) (p : Port) : List (Bool × ResultCode) :=
  [(decide (p ≠ 0), .denied), (s.outOfReach 0, .notOnline)]

def State.isDisabled (s : State) (p : Port) : Bool :=
  decide ((s.port p).state = .disabled)

def enablePortRefusal (s : State) (p : Port) (w : Word) : Option ResultCode :=
  firstFailing (managementChecks s p ++ [
    (decide (3 < w.toNat), .badArg),
    (!s.isDisabled (portOfWord w), .wrongState)])

/-- ENABLE_PORT (R156). -/
def execEnablePort (p : Port) (w : Word) (s : State) : Host.Outcome State Fault Refusal :=
  answer s p (enablePortRefusal s p w)
    (s.modPort (portOfWord w) fun x => { x with state := .offline }, 0#16)

def disablePortRefusal (s : State) (p : Port) (w : Word) : Option ResultCode :=
  firstFailing (managementChecks s p ++ [
    (decide (w.toNat = 0) || decide (3 < w.toNat), .badArg),
    (s.isDisabled (portOfWord w), .wrongState)])

/-- Disable pending becomes yes in RESETTING (R157). -/
def PortState.pendDisable : PortState → PortState
  | .resetting _ awaited => .resetting true awaited
  | .disabled => .disabled
  | .offline => .offline
  | .online => .online

/-- The effect of DISABLE_PORT by the target's state (R157). -/
def State.disableTarget (s : State) (t : Port) (atEntry : List ShareBlock) : State :=
  if (s.port t).state.isResetting then s.modPort t fun x => { x with state := x.state.pendDisable }
  else s.enterReset t true atEntry

/-- DISABLE_PORT (R157). -/
def execDisablePort (p : Port) (w : Word) (atEntry : List ShareBlock) (s : State) :
    Host.Outcome State Fault Refusal :=
  answer s p (disablePortRefusal s p w) (s.disableTarget (portOfWord w) atEntry, 0#16)

def resetPortRefusal (s : State) (p : Port) (w : Word) : Option ResultCode :=
  firstFailing (managementChecks s p ++ [
    (decide (3 < w.toNat), .badArg),
    (s.outOfReach (portOfWord w), .wrongState)])

/-- RESET_PORT (R158). -/
def execResetPort (p : Port) (w : Word) (atEntry : List ShareBlock) (s : State) :
    Host.Outcome State Fault Refusal :=
  answer s p (resetPortRefusal s p w) (s.enterReset (portOfWord w) false atEntry, 0#16)

def setQuotaRefusal (s : State) (p : Port) (w : Word) : Option ResultCode :=
  firstFailing (managementChecks s p ++ [
    (decide (3 < w.toNat), .badArg),
    (decide (128 < (s.arg p 0).toNat), .badArg),
    (decide (64 < (s.arg p 1).toNat), .badArg)])

/-- SET_QUOTA (R159). -/
def execSetQuota (p : Port) (w : Word) (s : State) : Host.Outcome State Fault Refusal :=
  answer s p (setQuotaRefusal s p w)
    (s.modPort (portOfWord w) fun x =>
      { x with account := { x.account with blockQuota := (s.arg p 0).toNat, recordQuota := (s.arg p 1).toNat } }, 0#16)

/-- A port stands in the way of a divider change: P1, P2 or P3 not DISABLED, or P0 ONLINE (R160). -/
def State.dividerHeld (s : State) : Bool :=
  !s.isDisabled 1 || !s.isDisabled 2 || !s.isDisabled 3 || s.online 0

def setTimingRefusal (s : State) (p : Port) (w : Word) : Option ResultCode :=
  firstFailing (managementChecks s p ++ [
    (decide (w.toNat < 8) || decide (50 < w.toNat), .badArg),
    (decide ((s.arg p 0).toNat = 0) || decide (255 < (s.arg p 0).toNat), .badArg),
    (decide (w.toNat ≠ s.config.divider) && s.dividerHeld, .wrongState)])

/-- SET_TIMING (R160). A new divider sets the length of the counts that follow the running one (R161). -/
def execSetTiming (p : Port) (w : Word) (s : State) : Host.Outcome State Fault Refusal :=
  answer s p (setTimingRefusal s p w)
    ({ s with
        config :=
          { divider := w.toNat, openTimeout := (s.arg p 0).toNat, drainLimit := (s.arg p 1).toNat,
            maxLifetime := (s.arg p 2).toNat } }, 0#16)

end Sys2Proof.Machine
end

