-- ==== Sys2Proof/Machine/Messages.lean ====
section
/-! DEFINITION. SEND, FETCH and PUBLISH (chapters 4, 5 and 8). -/

namespace Sys2Proof.Machine

/-! ## SEND (R59 to R63, R69) -/

/-- Checks 1 to 5 of SEND, in order (R59). -/
def sendHostRefusal (s : State) (p : Port) (w : Word) : Option ResultCode :=
  let r := s.role (endpointOf p w)
  firstFailing [
    (!s.online p, .notOnline),
    ((s.port p).sendUnit.isSome, .busy),
    (decide (7 < w.toNat), .badEndpoint),
    (decide (Config.maxMessage < (s.arg p 0).toNat) || namesOutside (s.arg p 3) 1#16, .badArg),
    (r.isClosing, .closing),
    (!r.isConnected, .wrongState)]

/-- RCPT or a lifetime asked for without the option (R60, R126). -/
def notAgreed (s : State) (p : Port) (o : Options) : Bool :=
  ((s.arg p 3).getLsbD 0 && !o.rcpt) || (decide ((s.arg p 4).toNat ≠ 0) && !o.expire)

/-- Checks 6 to 9 of SEND on a channel that carries l, from endpoint e (R59, R60, R61). -/
def sendChannelRefusal (s : State) (p : Port) (e : EpId) (l : LiveChannel) : Option ResultCode :=
  firstFailing [
    (decide (l.maxLength < (s.arg p 0).toNat), .tooLong),
    (notAgreed s p l.options, .notAgreed),
    (decide ((l.direction (l.sendingFrom e)).credits = 0), .noCredit),
    ((s.arg p 3).getLsbD 0 && s.receiptSpaceFull p, .noReceiptSpace)]

/-- The checks of SEND (R59). A CONNECTED endpoint names an OPEN channel (R37); one that does not is
refused WRONG_STATE (log 15). -/
def sendRefusal (s : State) (p : Port) (w : Word) : Option ResultCode :=
  match sendHostRefusal s p w with
  | some code => some code
  | none =>
    match s.openChannelOf (endpointOf p w) with
    | none => some .wrongState
    | some (_, l) =>
      match sendChannelRefusal s p (endpointOf p w) l with
      | some code => some code
      | none => s.allocationRefusal p (blocksFor (s.arg p 0).toNat)

/-- Items 1 to 4 of acceptance: record, sequence number, credit, reservation (R63). -/
def State.acceptChannelMessage (s : State) (p : Port) (r : RecId) (e : EpId) (c : ChanId) (l : LiveChannel) : State :=
  let d := l.sendingFrom e
  let m := s.newMessage p e (.channel c d) (l.direction d).nextSequence
  let s1 := (s.allocate r m).modLive c fun x => x.modDirection d Direction.spend
  if m.receiptRequested then s1.reserveReceipt p else s1

/-- The copy-in of an accepted SEND: at once for length 0, else begun (R63, R69). -/
def State.beginChannelCopy (s : State) (p : Port) (r : RecId) (c : ChanId) (length lifetime : Nat) : State :=
  if blocksFor length = 0 then s.completeCopyIn p r lifetime false
  else (s.beginTransfer c).startCopyIn p r .channel (blocksFor length) lifetime

def acceptSend (s : State) (p : Port) (w : Word) : State × Word :=
  let e := endpointOf p w
  match s.openChannelOf e, s.freeRecord? with
  | some (c, l), some r =>
    let life := effectiveLifetime l.options.expire s.config.maxLifetime (s.arg p 4).toNat
    ((s.acceptChannelMessage p r e c l).beginChannelCopy p r c (s.arg p 0).toNat life,
      (l.direction (l.sendingFrom e)).nextSequence)
  | some _, none => (s, 0#16)
  | none, _ => (s, 0#16)

/-- SEND (R59, R63, R69). -/
def execSend (p : Port) (w : Word) (s : State) : Host.Outcome State Fault Refusal :=
  answer s p (sendRefusal s p w) (acceptSend s p w)

/-! ## FETCH (R77, R78, R85) -/

def fetchRefusal (s : State) (p : Port) (w : Word) : Option ResultCode :=
  let r := s.role (endpointOf p w)
  firstFailing [
    (!s.online p, .notOnline),
    ((s.port p).fetchUnit.isSome, .busy),
    (decide (7 < w.toNat), .badEndpoint),
    (!r.canFetch, .wrongState),
    (r.queue.isEmpty, .empty)]

/-- The read buffer at a FETCH acceptance: cleared, with the header of the message (R75, R78). -/
def ReadBuffer.forMessage (e : EpIndex) (m : Message) : ReadBuffer where
  words := Vector.replicate 128 0#16
  pointer := 0
  state := .filling
  damaged := false
  header :=
    { endpoint := e, link := m.link.toLinkId, sequence := m.sequence, tag := m.tag, length := m.length,
      origin := m.origin }

/-- Removal of the head of a queue (R30). -/
def State.removeHead (s : State) (e : EpId) : State :=
  s.modEndpoint e fun x => { x with role := x.role.withQueue x.role.queue.tail }

/-- A fetch of a CHANNEL record counts in its channel's transfers in flight (R78). -/
def State.beginFetchOn (s : State) (link : RecLink) : State :=
  match link with
  | .channel c _ => s.beginTransfer c
  | .group _ => s

/-- The effect of an accepted FETCH at endpoint e of port p with head r, which holds m (R78, R85). -/
def State.fetchHead (s : State) (p : Port) (e : EpId) (r : RecId) (m : Message) : State :=
  let n := blocksFor m.length
  let s1 := (s.removeHead e).modPort p fun x => { x with readBuffer := ReadBuffer.forMessage (localOf e) m }
  if n = 0 then s1.completeFetch p (localOf e) r false
  else
    (((s1.beginFetchOn m.link).modPort p fun x =>
      { x with
        fetchUnit := some { record := r, endpoint := localOf e, next := 0, remaining := n, cancelled := false }
      }).placeRequest (fetchRequester p)).grant

def acceptFetch (s : State) (p : Port) (w : Word) : State × Word :=
  let e := endpointOf p w
  match (s.role e).queue with
  | [] => (s, 0#16)
  | r :: _ =>
    match (s.record r).message? with
    | none => (s.removeHead e, 0#16)
    | some m => (s.fetchHead p e r m, BitVec.ofNat 16 m.length)

/-- FETCH (R77, R78, R85). -/
def execFetch (p : Port) (w : Word) (s : State) : Host.Outcome State Fault Refusal :=
  answer s p (fetchRefusal s p w) (acceptFetch s p w)

/-! ## PUBLISH (R126, R127, R130) -/

/-- The ACTIVE group an endpoint publishes. -/
def State.publishedGroup? (s : State) (e : EpId) : Option (GroupId × ActiveGroup) :=
  match (s.role e).published? with
  | none => none
  | some g =>
    match (s.group g).active? with
    | none => none
    | some x => some (g, x)

/-- Checks 1 to 5 of PUBLISH (R126). -/
def publishHostRefusal (s : State) (p : Port) (w : Word) : Option ResultCode :=
  firstFailing [
    (!s.online p, .notOnline),
    ((s.port p).sendUnit.isSome, .busy),
    (decide (7 < w.toNat), .badEndpoint),
    (decide (Config.maxMessage < (s.arg p 0).toNat) || namesOutside (s.arg p 3) 1#16, .badArg),
    ((s.role (endpointOf p w)).published?.isNone, .wrongState)]

/-- Checks 6 to 8 of PUBLISH (R126). -/
def publishGroupRefusal (s : State) (p : Port) (x : ActiveGroup) : Option ResultCode :=
  firstFailing [
    (decide (x.maxLength < (s.arg p 0).toNat), .tooLong),
    (notAgreed s p x.options, .notAgreed),
    ((s.arg p 3).getLsbD 0 && s.receiptSpaceFull p, .noReceiptSpace)]

/-- The checks of PUBLISH (R126). A PUBLISHER names an ACTIVE group (R119); one that does not is refused
WRONG_STATE (log 15). -/
def publishRefusal (s : State) (p : Port) (w : Word) : Option ResultCode :=
  match publishHostRefusal s p w with
  | some code => some code
  | none =>
    match s.publishedGroup? (endpointOf p w) with
    | none => some .wrongState
    | some (_, x) =>
      match publishGroupRefusal s p x with
      | some code => some code
      | none => s.allocationRefusal p (blocksFor (s.arg p 0).toNat)

/-- Items 1 to 3 of acceptance: record, sequence number, reservation (R127). -/
def State.acceptGroupMessage (s : State) (p : Port) (r : RecId) (e : EpId) (g : GroupId) (x : ActiveGroup) : State :=
  let m := s.newMessage p e (.group g) x.nextSequence
  let s1 := (s.allocate r m).modActive g fun y => { y with nextSequence := y.nextSequence + 1#16 }
  if m.receiptRequested then s1.reserveReceipt p else s1

/-- The copy-in of an accepted PUBLISH: at once for length 0, else begun (R127, R130). -/
def State.beginGroupCopy (s : State) (p : Port) (r : RecId) (g : GroupId) (length lifetime : Nat) : State :=
  if blocksFor length = 0 then s.completeCopyIn p r lifetime false
  else
    (s.modActive g fun y => { y with copyInFlight := true }).startCopyIn p r .group (blocksFor length) lifetime

def acceptPublish (s : State) (p : Port) (w : Word) : State × Word :=
  let e := endpointOf p w
  match s.publishedGroup? e, s.freeRecord? with
  | some (g, x), some r =>
    let life := effectiveLifetime x.options.expire s.config.maxLifetime (s.arg p 4).toNat
    ((s.acceptGroupMessage p r e g x).beginGroupCopy p r g (s.arg p 0).toNat life, x.nextSequence)
  | some _, none => (s, 0#16)
  | none, _ => (s, 0#16)

/-- PUBLISH (R126, R127, R130). -/
def execPublish (p : Port) (w : Word) (s : State) : Host.Outcome State Fault Refusal :=
  answer s p (publishRefusal s p w) (acceptPublish s p w)

end Sys2Proof.Machine
end

