-- ==== Sys2Proof/Machine/Notify.lean ====
section
/-! DEFINITION. ACK, POP_RECEIPT, NUDGE, NOTIFY_SET, MASK and the notification line (chapters 6 and 9). -/

namespace Sys2Proof.Machine

/-! ## ACK (R139) -/

def ackRefusal (s : State) (p : Port) (w : Word) : Option ResultCode :=
  firstFailing [
    (!s.online p, .notOnline),
    (decide (8 < w.toNat), .badArg),
    (namesOutside (s.arg p 0) (condsOfItem (itemOfWord w)), .badArg)]

def acceptAck (s : State) (p : Port) (w : Word) : State × Word :=
  let s1 := (s.removeConds p (itemOfWord w) (s.arg p 0)).reevaluate p
  (s1, (s1.port p).attention.sets[itemOfWord w])

/-- ACK (R139, R144). -/
def execAck (p : Port) (w : Word) (s : State) : Host.Outcome State Fault Refusal :=
  answer s p (ackRefusal s p w) (acceptAck s p w)

/-! ## POP_RECEIPT (R102) -/

def popReceiptRefusal (s : State) (p : Port) : Option ResultCode :=
  firstFailing [
    (!s.online p, .notOnline),
    ((s.port p).receipts.queue.isEmpty, .empty)]

/-- POP_RECEIPT (R102). Its strobe word is not used. -/
def execPopReceipt (p : Port) (_w : Word) (s : State) : Host.Outcome State Fault Refusal :=
  answer s p (popReceiptRefusal s p)
    (s.modPort p fun x => { x with receipts := { x.receipts with queue := x.receipts.queue.tail } },
      BitVec.ofNat 16 (s.port p).receipts.queue.tail.length)

/-! ## NUDGE (R138) -/

def nudgeRefusal (s : State) (p : Port) (w : Word) : Option ResultCode :=
  firstFailing [
    (!s.online p, .notOnline),
    (decide (3 < w.toNat) || decide (portOfWord w = p), .badArg),
    (!s.online (portOfWord w), .peerDown)]

/-- Port q joins the nudger set of `target`, and NUDGE is set there (R138). -/
def State.nudgeFrom (s : State) (q target : Port) : State :=
  (s.modPort target fun x =>
    { x with attention := { x.attention with nudgers := x.attention.nudgers ||| (1#4 <<< q.val) } }).setPortCond
    target .nudge

/-- NUDGE (R138). -/
def execNudge (p : Port) (w : Word) (s : State) : Host.Outcome State Fault Refusal :=
  answer s p (nudgeRefusal s p w) (s.nudgeFrom p (portOfWord w), 0#16)

/-! ## NOTIFY_SET and MASK (R145, R146) -/

def notifySetRefusal (s : State) (p : Port) (w : Word) : Option ResultCode :=
  firstFailing [
    (!s.online p, .notOnline),
    (namesOutside w allConds, .badArg),
    (decide (1023 < (s.arg p 0).toNat), .badArg),
    (decide ((s.arg p 1).toNat = 0) || decide (16 < (s.arg p 1).toNat), .badArg)]

/-- NOTIFY_SET (R145). -/
def execNotifySet (p : Port) (w : Word) (s : State) : Host.Outcome State Fault Refusal :=
  answer s p (notifySetRefusal s p w)
    (s.modPort p fun x =>
      { x with
        notification :=
          x.notification.replaceSettings x.attention w (s.arg p 0).toNat (s.arg p 1).toNat }, 0#16)

def maskRefusal (s : State) (p : Port) (w : Word) : Option ResultCode :=
  firstFailing [
    (!s.online p, .notOnline),
    (decide (1 < w.toNat), .badArg)]

/-- MASK (R146): 1 sets and 0 clears the mask. -/
def execMask (p : Port) (w : Word) (s : State) : Host.Outcome State Fault Refusal :=
  answer s p (maskRefusal s p w)
    (s.modPort p fun x => { x with notification := { x.notification with masked := decide (w.toNat = 1) } }, 0#16)

/-- Is the notification line active? Exactly when the unit is RAISED, the mask is clear and the port is
ONLINE, and chip reset is not asserted (R146, R169). -/
def State.lineActive (s : State) (p : Port) : Bool :=
  decide ((s.port p).notification.state = .raised) && !(s.port p).notification.masked && s.online p && !s.chipReset

end Sys2Proof.Machine
end

