-- ==== Sys2Proof/Machine/Window.lean ====
section
/-! DEFINITION. What a read of each word of a port's window returns (sections 11.1, 11.4 and 11.5, with
R18, R34, R45, R74, R79, R101, R134, R140, R146, R148, R160, R163, R167, R168, R169). -/

namespace Sys2Proof.Machine

/-- The value a register shows for an absent field. -/
def absent : Word := 0xFFFF#16

def wordOf (n : Nat) : Word :=
  BitVec.ofNat 16 n

def flagAt (b : Bool) (bit : Nat) : Word :=
  if b then 1#16 <<< bit else 0#16

/-! ## Encodings (R168) -/

def PortState.code : PortState → Nat
  | .disabled => 0
  | .offline => 1
  | .online => 2
  | .resetting _ _ => 3

def PortState.disablePending : PortState → Bool
  | .resetting d _ => d
  | .disabled | .offline | .online => false

def Role.code : Role → Nat
  | .idle => 0
  | .listening _ => 1
  | .offered _ _ _ _ => 2
  | .calling _ _ => 3
  | .connected _ _ _ _ => 4
  | .closing _ _ _ _ => 5
  | .publisher _ => 6
  | .member _ _ _ => 7

/-- EP_LINK: the channel or group number alone (R34, R168). -/
def Role.linkWord : Role → Word
  | .idle => absent
  | .listening _ => absent
  | .offered c _ _ _ => wordOf c.val
  | .calling c _ => wordOf c.val
  | .connected c _ _ _ => wordOf c.val
  | .closing c _ _ _ => wordOf c.val
  | .publisher g => wordOf g.val
  | .member g _ _ => wordOf g.val

def Role.peerWord : Role → Word
  | .offered _ e _ _ => wordOf e.val
  | .calling _ e => wordOf e.val
  | .connected _ e _ _ => wordOf e.val
  | .closing _ e _ _ => wordOf e.val
  | .idle | .listening _ | .publisher _ | .member _ _ _ => absent

def Filter.word : Filter → Word
  | .any => 4#16
  | .port p => wordOf p.val

def Role.filterWord : Role → Word
  | .listening f => f.word
  | .offered _ _ f _ => f.word
  | .idle | .calling _ _ | .connected _ _ _ _ | .closing _ _ _ _ | .publisher _ | .member _ _ _ => absent

def Role.offer? : Role → Option Offer
  | .offered _ _ _ o => some o
  | .idle | .listening _ | .calling _ _ | .connected _ _ _ _ | .closing _ _ _ _ | .publisher _
  | .member _ _ _ => none

def OpenOutcome.code : OpenOutcome → Nat
  | .none => 0
  | .rejected _ => 1
  | .timeout => 2
  | .peerReset => 3

/-- EP_REJECT_CODE: the code with REJECTED, else 0 (R34). -/
def OpenOutcome.rejectCode : OpenOutcome → Word
  | .rejected code => code
  | .none | .timeout | .peerReset => 0#16

def WithdrawOutcome.code : WithdrawOutcome → Nat
  | .none => 0
  | .callerClosed => 1
  | .timeout => 2
  | .callerReset => 3

def CloseOutcome.code : CloseOutcome → Nat
  | .none => 0
  | .complete => 1
  | .abortedLocal => 2
  | .abortedByPeer => 3
  | .drainExpired => 4
  | .peerReset => 5

def SendEnd.code : SendEnd → Nat
  | .none => 0
  | .delivered => 1
  | .discarded => 2

def FetchEnd.code : FetchEnd → Nat
  | .none => 0
  | .ok => 1
  | .damaged => 2

def ReceiptOutcome.code : ReceiptOutcome → Nat
  | .fetched => 1
  | .expired => 2
  | .discarded => 3
  | .group _ => 4

def ReceiptOutcome.tallies? : ReceiptOutcome → Option Tallies
  | .group t => some t
  | .fetched | .expired | .discarded => none

def ReadBufferState.code : ReadBufferState → Nat
  | .empty => 0
  | .filling => 1
  | .full => 2

def NotifyState.code : NotifyState → Nat
  | .quiet => 0
  | .gathering => 1
  | .raised => 2

def MsgKind.code : MsgKind → Nat
  | .channel => 1
  | .group => 2

def GroupPolicy.code : GroupPolicy → Nat
  | .opened => 0
  | .closed => 1

/-- SEND_STATUS (R74, R168). -/
def sendStatus (x : PortRec) : Word :=
  match x.sendUnit with
  | none => flagAt x.staging.locked 8
  | some u => 1#16 ||| wordOf (u.kind.code * 4) ||| wordOf (u.remaining * 16) ||| flagAt x.staging.locked 8

/-- FETCH_STATUS (R79, R168). -/
def fetchStatus (x : PortRec) : Word :=
  match x.fetchUnit with
  | none => 0#16
  | some u => 1#16 ||| wordOf (u.remaining * 16)

/-- NOTIFY_STATUS (R146, R168). -/
def notifyStatus (s : State) (p : Port) : Word :=
  let n := (s.port p).notification
  wordOf n.state.code ||| flagAt n.masked 4 ||| flagAt (s.lineActive p) 5 ||| wordOf (n.bulkCount * 256)

/-- PORT_STATE (R148, R168). -/
def portStateWord (x : PortRec) : Word :=
  wordOf x.state.code ||| flagAt x.resetInput 4

/-- PORT_STATES (R148, R168). -/
def portStatesWord (s : State) : Word :=
  wordOf ((s.port 0).state.code + 4 * (s.port 1).state.code + 16 * (s.port 2).state.code + 64 * (s.port 3).state.code)

/-- PIN_STATUS, as P0 reads it (R148, R168). -/
def pinStatusWord (s : State) : Word :=
  (List.finRange 4).foldl
    (fun w q => w ||| flagAt (s.port q).resetInput q.val ||| flagAt (s.port q).state.disablePending (4 + q.val)) 0#16

/-! ## The views -/

/-- The endpoint the view selector names (R34). -/
def viewed (s : State) (p : Port) : EpId :=
  globalOf p (s.port p).host.viewSel

/-- The endpoint view, register by register from EP_STATE on (R34). -/
def endpointView (s : State) (p : Port) (k : Nat) : Word :=
  let x := s.endpoint (viewed s p)
  match k with
  | 0 => wordOf x.role.code
  | 1 => x.role.linkWord
  | 2 => x.role.peerWord
  | 3 => x.role.filterWord
  | 4 => (x.role.offer?.map fun o => wordOf o.window).getD absent
  | 5 => (x.role.offer?.map fun o => wordOf o.maxLength).getD absent
  | 6 => (x.role.offer?.map fun o => o.options.toWord).getD absent
  | 7 => wordOf x.role.queue.length
  | 8 => wordOf x.role.depth
  | 9 => (s.port p).attention.sets[itemOf (s.port p).host.viewSel]
  | 10 => wordOf x.openOutcome.code
  | 11 => x.openOutcome.rejectCode
  | 12 => wordOf x.withdrawOutcome.code
  | 13 => wordOf x.closeOutcome.code
  | 14 => wordOf x.discarded
  | _ => 0#16

/-- The endpoint view of a port that is DISABLED or RESETTING: an IDLE endpoint with an empty queue
(R167). -/
def hiddenEndpointView (k : Nat) : Word :=
  if 1 ≤ k ∧ k ≤ 6 then absent else 0#16

/-- The channel an endpoint names in OFFERED, CALLING, CONNECTED and CLOSING (R45). -/
def Role.channel? : Role → Option ChanId
  | .offered c _ _ _ => some c
  | .calling c _ => some c
  | .connected c _ _ _ => some c
  | .closing c _ _ _ => some c
  | .idle | .listening _ | .publisher _ | .member _ _ _ => none

/-- The channel view of a channel that carries l, as seen from endpoint e; `state` is CH_STATE (R45). -/
def liveChannelView (l : LiveChannel) (e : EpId) (state : Nat) (k : Nat) : Word :=
  let out := l.sendingFrom e
  let outD := l.direction out
  let inD := match out with
    | .callerToCallee => l.toCaller
    | .calleeToCaller => l.toCallee
  match k with
  | 0 => wordOf state
  | 1 => if e = l.caller then 0#16 else 1#16
  | 2 => wordOf l.maxLength
  | 3 => l.options.toWord
  | 4 => wordOf outD.window
  | 5 => wordOf outD.credits
  | 6 => wordOf outD.outstanding
  | 7 => outD.nextSequence
  | 8 => wordOf inD.window
  | 9 => inD.nextSequence
  | _ => absent

/-- The channel view, register by register from CH_STATE on (R45). -/
def channelView (s : State) (p : Port) (k : Nat) : Word :=
  let e := viewed s p
  match (s.role e).channel? with
  | none => absent
  | some c =>
    match s.channel c with
    | .requested a _ _ _ =>
      match k with
      | 0 => 1#16
      | 1 => if e = a then 0#16 else 1#16
      | _ => absent
    | .opened l => liveChannelView l e 2 k
    | .draining l _ _ => liveChannelView l e 3 k
    | .free => absent
    | .aborting _ _ _ _ => absent

/-- The group an endpoint names (R134). -/
def Role.group? : Role → Option GroupId
  | .publisher g => some g
  | .member g _ _ => some g
  | .idle | .listening _ | .offered _ _ _ _ | .calling _ _ | .connected _ _ _ _ | .closing _ _ _ _ => none

/-- The group view, register by register from GR_STATE on (R134). -/
def groupView (s : State) (p : Port) (k : Nat) : Word :=
  match (s.role (viewed s p)).group? with
  | none => absent
  | some g =>
    match s.group g with
    | .free => absent
    | .dissolving => absent
    | .active x =>
      match k with
      | 0 => 1#16
      | 1 => wordOf x.publisher.val
      | 2 => wordOf x.policy.code
      | 3 => wordOf x.maxLength
      | 4 => x.options.toWord
      | 5 => x.nextSequence
      | 6 => wordOf x.members.length
      | _ => (x.members[k - 7]?.map fun m => wordOf m.val).getD absent

/-- The receipt head, register by register from RCPT_HELD on (R101). -/
def receiptView (u : ReceiptUnit) (k : Nat) : Word :=
  match k with
  | 0 => wordOf u.queue.length
  | 1 => wordOf u.reserved
  | _ =>
    match u.queue.head? with
    | none => 0#16
    | some r =>
      match k with
      | 2 => wordOf r.outcome.code ||| flagAt r.damaged 15
      | 3 => wordOf r.endpoint.val
      | 4 => r.link.toWord
      | 5 => r.sequence
      | 6 => r.tag.extractLsb' 0 16
      | 7 => r.tag.extractLsb' 16 16
      | 8 => (r.outcome.tallies?.map fun t => wordOf t.fetched).getD 0#16
      | 9 => (r.outcome.tallies?.map fun t => wordOf t.expired).getD 0#16
      | 10 => (r.outcome.tallies?.map fun t => wordOf t.discarded).getD 0#16
      | 11 => (r.outcome.tallies?.map fun t => wordOf t.skipped).getD 0#16
      | _ => 0#16

/-- The attention registers, from ATTN_COUNT on (R140). -/
def attentionView (a : Attention) (k : Nat) : Word :=
  match k with
  | 0 => wordOf a.list.length
  | 10 => (a.list.head?.map fun it => a.sets[it]).getD 0#16
  | 11 => a.sets[portItem]
  | 12 => a.nudgers.setWidth 16
  | _ => (a.list[k - 1]?.map fun it => wordOf it.val).getD absent

/-- The attention registers of a port that is DISABLED or RESETTING: an empty list (R167). -/
def hiddenAttentionView (k : Nat) : Word :=
  if 1 ≤ k ∧ k ≤ 9 then absent else 0#16

/-- The read buffer registers, from RB_STATE on (R75, R168). -/
def readBufferView (b : ReadBuffer) (k : Nat) : Word :=
  match k with
  | 0 => wordOf b.state.code ||| flagAt b.damaged 15
  | 1 => wordOf b.header.endpoint.val
  | 2 => b.header.link.toWord
  | 3 => b.header.sequence
  | 4 => b.header.tag.extractLsb' 0 16
  | 5 => b.header.tag.extractLsb' 16 16
  | 6 => wordOf b.header.length
  | 7 => wordOf b.header.origin.val
  | _ => 0#16

/-- What a read of RB_DATA returns: the word at the pointer of a FULL buffer, else 0 (R76, R167). -/
def rbDataWord (x : PortRec) : Word :=
  if x.state.hidesWindow then 0#16
  else
    match x.readBuffer.state with
    | .full => (x.readBuffer.words[x.readBuffer.pointer]?).getD 0#16
    | .empty => 0#16
    | .filling => 0#16

/-- The pool registers, which only P0 shows (R18, R163): from POOL_FREE_BLOCKS at 0x0F on. -/
def poolView (s : State) (k : Nat) : Word :=
  match k with
  | 0 => wordOf (s.blockPlaces.toList.count .free)
  | 1 => wordOf (s.records.toList.countP MsgRecord.isFree)
  | 2 => wordOf (s.blockPlaces.toList.count .retired)
  | 3 => wordOf (s.port 0).account.chargedBlocks
  | 4 => wordOf (s.port 1).account.chargedBlocks
  | 5 => wordOf (s.port 2).account.chargedBlocks
  | 6 => wordOf (s.port 3).account.chargedBlocks
  | 7 => wordOf (s.port 0).account.chargedRecords
  | 8 => wordOf (s.port 1).account.chargedRecords
  | 9 => wordOf (s.port 2).account.chargedRecords
  | 10 => wordOf (s.port 3).account.chargedRecords
  | _ => 0#16

/-! ## The map -/

/-- Identification, ports, configuration, time, accounts and notification: addresses below 0x20
(section 11.1). -/
def lowWindowRead (s : State) (p : Port) (n : Nat) : Word :=
  let x := s.port p
  match n with
  | 0x00 => Config.partId
  | 0x01 => Config.partRev
  | 0x02 => portStateWord x
  | 0x03 => portStatesWord s
  | 0x04 => if p = 0 then pinStatusWord s else 0#16
  | 0x05 => wordOf s.config.divider
  | 0x06 => wordOf s.config.openTimeout
  | 0x07 => wordOf s.config.drainLimit
  | 0x08 => wordOf s.config.maxLifetime
  | 0x09 => s.now.extractLsb' 0 16
  | 0x0A => x.host.timeCapture.extractLsb' 16 16
  | 0x0B => wordOf x.account.blockQuota
  | 0x0C => wordOf x.account.recordQuota
  | 0x0D => wordOf x.account.chargedBlocks
  | 0x0E => wordOf x.account.chargedRecords
  | 0x1A => notifyStatus s p
  | 0x1B => x.notification.enables
  | 0x1C => wordOf x.notification.holdoff
  | 0x1D => wordOf x.notification.threshold
  | 0x1E => 0#16
  | 0x1F => 0#16
  | k => if p = 0 then poolView s (k - 0x0F) else 0#16

/-- Results, buffers, units and outcomes: addresses 0x20 to 0x39 (section 11.1). -/
def midWindowRead (x : PortRec) (n : Nat) : Word :=
  match n with
  | 0x20 => x.host.result.toWord
  | 0x21 => x.host.resultValue
  | 0x22 => 0#16
  | 0x23 => wordOf x.staging.pointer
  | 0x24 => sendStatus x
  | 0x25 => wordOf x.sendOutcome.outcome.code
  | 0x26 => wordOf x.sendOutcome.endpoint.val
  | 0x27 => x.sendOutcome.link.toWord
  | 0x28 => x.sendOutcome.sequence
  | 0x29 => wordOf x.sendOutcome.count
  | 0x2A => rbDataWord x
  | 0x2B => wordOf x.readBuffer.pointer
  | 0x34 => fetchStatus x
  | 0x35 => wordOf x.fetchOutcome.outcome.code
  | 0x36 => wordOf x.fetchOutcome.endpoint.val
  | 0x37 => x.fetchOutcome.link.toWord
  | 0x38 => x.fetchOutcome.sequence
  | 0x39 => if x.state.hidesWindow then 0#16 else wordOf x.host.viewSel.val
  | k => readBufferView x.readBuffer (k - 0x2C)

/-- The views, the receipt head and the attention registers: addresses from 0x3A (section 11.1, R167). -/
def highWindowRead (s : State) (p : Port) (n : Nat) : Word :=
  let x := s.port p
  let hidden := x.state.hidesWindow
  if n ≤ 0x48 then (if hidden then hiddenEndpointView (n - 0x3A) else endpointView s p (n - 0x3A))
  else if n ≤ 0x52 then (if hidden then absent else channelView s p (n - 0x49))
  else if n ≤ 0x65 then (if hidden then absent else groupView s p (n - 0x53))
  else if n ≤ 0x71 then (if hidden then 0#16 else receiptView x.receipts (n - 0x66))
  else if n ≤ 0x7E then (if hidden then hiddenAttentionView (n - 0x72) else attentionView x.attention (n - 0x72))
  else 0#16

/-- The word a read of address `a` of port p's window returns (R163); 0 everywhere while chip reset is
asserted (R169). -/
def windowRead (s : State) (p : Port) (a : BitVec 7) : Word :=
  if s.chipReset then 0#16
  else if a.toNat < 0x20 then lowWindowRead s p a.toNat
  else if a.toNat < 0x3A then midWindowRead (s.port p) a.toNat
  else highWindowRead s p a.toNat

end Sys2Proof.Machine
end

