-- ==== Sys2Proof/Machine/Registers.lean ====
section
/-! DEFINITION. The register accesses that are no commands: staging and read buffer, view selector, time,
argument registers, ignored writes (R34, R57, R76, R161, R163, R164, R167). -/

namespace Sys2Proof.Machine

/-- STAGE_DATA, a write (R57): the word goes to the pointer's position and the pointer advances, unless the
buffer is LOCKED or the pointer is 128; ignored while the port is DISABLED or RESETTING (R167). -/
def execStageData (p : Port) (w : Word) (s : State) : Host.Outcome State Fault Refusal :=
  let x := s.port p
  taken s
    (if x.state.hidesWindow ∨ x.staging.locked ∨ 128 ≤ x.staging.pointer then s
    else
      s.modPort p fun y =>
        { y with
          staging :=
            { y.staging with
              words := y.staging.words.setIfInBounds y.staging.pointer w
              pointer := y.staging.pointer + 1 } })

/-- STAGE_PTR, a write (R57): sets the pointer to 0 to 128 while the buffer is unlocked; ignored while the
port is DISABLED or RESETTING (R167). -/
def execStagePtr (p : Port) (w : Word) (s : State) : Host.Outcome State Fault Refusal :=
  let x := s.port p
  taken s
    (if x.state.hidesWindow ∨ x.staging.locked ∨ 128 < w.toNat then s
    else s.modPort p fun y => { y with staging := { y.staging with pointer := w.toNat } })

/-- RB_DATA, a read (R76): returns the word at the pointer of a FULL buffer and advances the pointer, up to
128; returns 0 and moves nothing in every other case (R76, R167) and while chip reset is asserted (R169). -/
def execRbData (p : Port) (s : State) : Host.Outcome State Fault Refusal :=
  let x := s.port p
  let moves := !s.chipReset && !x.state.hidesWindow && decide (x.readBuffer.state = .full) &&
    decide (x.readBuffer.pointer < 128)
  .next
    (s.modPort p fun y =>
      { y with
        host := { y.host with readData := windowRead s p 0x2A#7 }
        readBuffer :=
          { y.readBuffer with pointer := if moves then y.readBuffer.pointer + 1 else y.readBuffer.pointer } })

/-- RB_PTR, a write (R76): sets the pointer to 0 to 128 while the buffer is FULL; ignored while the port is
DISABLED or RESETTING (R167). -/
def execRbPtr (p : Port) (w : Word) (s : State) : Host.Outcome State Fault Refusal :=
  let x := s.port p
  taken s
    (if x.state.hidesWindow ∨ x.readBuffer.state ≠ .full ∨ 128 < w.toNat then s
    else s.modPort p fun y => { y with readBuffer := { y.readBuffer with pointer := w.toNat } })

/-- VIEW_SEL, a write (R34): 0 to 7 sets the selector; ignored while the port is DISABLED or RESETTING
(R167). -/
def execViewSel (p : Port) (w : Word) (s : State) : Host.Outcome State Fault Refusal :=
  taken s
    (if (s.port p).state.hidesWindow ∨ 7 < w.toNat then s
    else
      s.modPort p fun y =>
        { y with host := { y.host with viewSel := ⟨w.toNat % 8, Nat.mod_lt _ (by decide)⟩ } })

/-- TIME_LO, a read (R161): returns the low half of the count and captures the whole count; returns 0 and
captures nothing while chip reset is asserted (R169). -/
def execTimeLo (p : Port) (s : State) : Host.Outcome State Fault Refusal :=
  .next
    (s.modPort p fun y =>
      { y with
        host :=
          { y.host with
            readData := windowRead s p 0x09#7
            timeCapture := if s.chipReset then y.host.timeCapture else s.now } })

/-- ARG_WRITE (R164): stores the word in ARGn, in every port state (R167). -/
def execArgWrite (p : Port) (n : Fin 5) (w : Word) (s : State) : Host.Outcome State Fault Refusal :=
  taken s (s.modPort p fun y => { y with host := { y.host with args := y.host.args.set n w } })

/-- IGNORED_WRITE (R163): a write to an address with no write register, or to a register the port state
ignores, changes nothing. -/
def execIgnoredWrite (_p : Port) (_a : BitVec 7) (_w : Word) (s : State) : Host.Outcome State Fault Refusal :=
  taken s s

end Sys2Proof.Machine
end

