-- ==== Sys2Proof/Machine/Timers.lean ====
section
/-! DEFINITION. The four timer expiries (R49, R89, R113, R143) and the time base (R161). -/

namespace Sys2Proof.Machine

/-! ## The expiries -/

/-- An open timeout ends the request (R49, R55): the caller first, then the callee, and the re-evaluation
after the clearing of REQUEST (R144). -/
def State.timeOutRequest (s : State) (c : ChanId) (a b : EpId) : State :=
  let s1 := ((s.setChannel c .free).failCaller a .timeout).withdrawCallee b .timeout
  if s.online (portOf b) then s1.reevaluate (portOf b) else s1

/-- OPEN_TIMEOUT_EXPIRY (R42, R49): taken when the count has reached the open deadline of a REQUESTED
channel; a deadline that is gone, or not reached, gives none (log 2). -/
def execOpenTimeoutExpiry (c : ChanId) (s : State) : Host.Outcome State Fault Refusal :=
  taken s
    (match s.channel c with
    | .requested a b _ deadline => if reached s.now deadline then s.timeOutRequest c a b else s
    | .free => s
    | .opened _ => s
    | .draining _ _ _ => s
    | .aborting _ _ _ _ => s)

/-- DRAIN_EXPIRY (R112, R113): taken when the count has reached the drain deadline of a DRAINING channel
(log 2). -/
def execDrainExpiry (c : ChanId) (s : State) : Host.Outcome State Fault Refusal :=
  taken s
    (match s.channel c with
    | .draining _ _ (some deadline) =>
      if reached s.now deadline then s.teardown c .drainExpired .drainExpired else s
    | .draining _ _ none => s
    | .free => s
    | .requested _ _ _ _ => s
    | .opened _ => s
    | .aborting _ _ _ _ => s)

/-- Take record r out of an endpoint's queue, wherever it stands (R31). -/
def Endpoint.dropEntry (r : RecId) (x : Endpoint) : Endpoint :=
  { x with role := x.role.withQueue (x.role.queue.filter (· ≠ r)) }

/-- The endpoints whose queue holds record r. -/
def State.holdersOf (s : State) (r : RecId) : List EpId :=
  (List.finRange 32).filter fun e => (s.role e).queue.contains r

/-- A lifetime expiry of record r, which holds m (R89, R90, R91): the deadline gone, every entry removed, one
claim of their number, and for a CHANNEL record the credit and the drain completion test. -/
def State.expire (s : State) (r : RecId) (m : Message) : State :=
  let holders := s.holdersOf r
  let s1 := s.setRecord r (.live m none)
  let s2 := holders.foldl (fun t e => t.modEndpoint e (Endpoint.dropEntry r)) s1
  if holders = [] then s2
  else
    let s3 := s2.claim r holders.length (some .expired) .expired
    match m.link with
    | .channel c d => (s3.returnCredit c d).drainTest c
    | .group _ => s3

/-- LIFETIME_EXPIRY (R88, R89): taken when the count has reached the deadline of a LIVE record (log 2). -/
def execLifetimeExpiry (r : RecId) (s : State) : Host.Outcome State Fault Refusal :=
  taken s
    (match s.record r with
    | .live m (some deadline) => if reached s.now deadline then s.expire r m else s
    | .live _ none => s
    | .filling _ => s
    | .free => s)

/-- HOLDOFF_EXPIRY (R143): taken when the count has reached the holdoff deadline of a GATHERING unit
(log 2). -/
def execHoldoffExpiry (p : Port) (s : State) : Host.Outcome State Fault Refusal :=
  let n := (s.port p).notification
  taken s
    (match n.deadline with
    | none => s
    | some deadline =>
      if n.state = .gathering ∧ reached s.now deadline then
        s.modPort p fun x => { x with notification := x.notification.raise }
      else s)

/-! ## The time base (R161) -/

/-- The open or drain expiry that is due on a channel. -/
def dueOn (s : State) (c : ChanId) : List Instr :=
  match s.channel c with
  | .requested _ _ _ d => if reached s.now d then [.openTimeoutExpiry c] else []
  | .draining _ _ (some d) => if reached s.now d then [.drainExpiry c] else []
  | .draining _ _ none => []
  | .free => []
  | .opened _ => []
  | .aborting _ _ _ _ => []

/-- The lifetime expiry that is due on a record. -/
def dueOf (s : State) (r : RecId) : List Instr :=
  match s.record r with
  | .live _ (some d) => if reached s.now d then [.lifetimeExpiry r] else []
  | .live _ none => []
  | .filling _ => []
  | .free => []

/-- The holdoff expiry that is due at a port. -/
def dueAt (s : State) (p : Port) : List Instr :=
  match (s.port p).notification.deadline with
  | some d => if reached s.now d then [.holdoffExpiry p] else []
  | none => []

/-- Every expiry the count has reached. -/
def State.dueExpiries (s : State) : List Instr :=
  (List.finRange 16).flatMap (dueOn s) ++ (List.finRange 64).flatMap (dueOf s) ++ (List.finRange 4).flatMap (dueAt s)

/-- Put due expiries into an order that the manual leaves open: `Config.tieChoice` says which of those left
goes next (log 3). The number of rounds is the number of expiries. -/
def orderDue (count : Nat) : Nat → List Instr → List Instr
  | 0, l => l
  | _ + 1, [] => []
  | _ + 1, [i] => [i]
  | k + 1, i :: j :: rest =>
    let l := i :: j :: rest
    let n := Config.tieChoice count k % l.length
    (l[n]?).getD i :: orderDue count k (l.eraseIdx n)

/-- One period of the reference clock with nothing pending (R161, log 1): the count advances after `divider`
periods, and the expiries it reaches become pending. -/
def State.tick (s : State) : State :=
  if s.chipReset then s
  else if 1 < s.periodsLeft then { s with periodsLeft := s.periodsLeft - 1 }
  else
    let t : State := { s with now := s.now + 1#32, periodsLeft := s.config.divider }
    { t with pending := orderDue t.now.toNat t.dueExpiries.length t.dueExpiries }

end Sys2Proof.Machine
end

