-- ==== Sys2Proof/Machine/Dispatch.lean ====
section
/-! DEFINITION. One arm for each command: its meaning. -/

namespace Sys2Proof.Machine

def exec (i : Instr) (s : State) : Host.Outcome State Fault Refusal :=
  match i with
  | .listen p w => Sys2Proof.Machine.execListen p w s
  | .openChannel p w => Sys2Proof.Machine.execOpenChannel p w s
  | .accept p w => Sys2Proof.Machine.execAccept p w s
  | .reject p w => Sys2Proof.Machine.execReject p w s
  | .close p w => Sys2Proof.Machine.execClose p w s
  | .send p w => Sys2Proof.Machine.execSend p w s
  | .fetch p w => Sys2Proof.Machine.execFetch p w s
  | .create p w => Sys2Proof.Machine.execCreate p w s
  | .policy p w => Sys2Proof.Machine.execPolicy p w s
  | .join p w => Sys2Proof.Machine.execJoin p w s
  | .publish p w => Sys2Proof.Machine.execPublish p w s
  | .ack p w => Sys2Proof.Machine.execAck p w s
  | .popReceipt p w => Sys2Proof.Machine.execPopReceipt p w s
  | .nudge p w => Sys2Proof.Machine.execNudge p w s
  | .notifySet p w => Sys2Proof.Machine.execNotifySet p w s
  | .mask p w => Sys2Proof.Machine.execMask p w s
  | .online p w => Sys2Proof.Machine.execOnline p w s
  | .offline p w atEntry => Sys2Proof.Machine.execOffline p w atEntry s
  | .enablePort p w => Sys2Proof.Machine.execEnablePort p w s
  | .disablePort p w atEntry => Sys2Proof.Machine.execDisablePort p w atEntry s
  | .resetPort p w atEntry => Sys2Proof.Machine.execResetPort p w atEntry s
  | .setQuota p w => Sys2Proof.Machine.execSetQuota p w s
  | .setTiming p w => Sys2Proof.Machine.execSetTiming p w s
  | .stageData p w => Sys2Proof.Machine.execStageData p w s
  | .stagePtr p w => Sys2Proof.Machine.execStagePtr p w s
  | .rbData p => Sys2Proof.Machine.execRbData p s
  | .rbPtr p w => Sys2Proof.Machine.execRbPtr p w s
  | .viewSel p w => Sys2Proof.Machine.execViewSel p w s
  | .timeLo p => Sys2Proof.Machine.execTimeLo p s
  | .argWrite p n w => Sys2Proof.Machine.execArgWrite p n w s
  | .ignoredWrite p a w => Sys2Proof.Machine.execIgnoredWrite p a w s
  | .resetInputAssertion p atEntry => Sys2Proof.Machine.execResetInputAssertion p atEntry s
  | .resetInputRelease p => Sys2Proof.Machine.execResetInputRelease p s
  | .chipResetAssertion => Sys2Proof.Machine.execChipResetAssertion s
  | .chipResetRelease => Sys2Proof.Machine.execChipResetRelease s
  | .memoryFault b contents => Sys2Proof.Machine.execMemoryFault b contents s
  | .blockTransferEnd => Sys2Proof.Machine.execBlockTransferEnd s
  | .openTimeoutExpiry c => Sys2Proof.Machine.execOpenTimeoutExpiry c s
  | .drainExpiry c => Sys2Proof.Machine.execDrainExpiry c s
  | .lifetimeExpiry r => Sys2Proof.Machine.execLifetimeExpiry r s
  | .holdoffExpiry p => Sys2Proof.Machine.execHoldoffExpiry p s
  | .memoryManagerResetShare p => Sys2Proof.Machine.execMemoryManagerResetShare p s
  | .endpointTableResetShare p => Sys2Proof.Machine.execEndpointTableResetShare p s
  | .channelControllerResetShare p => Sys2Proof.Machine.execChannelControllerResetShare p s
  | .groupControllerResetShare p => Sys2Proof.Machine.execGroupControllerResetShare p s
  | .receiptUnitResetShare p => Sys2Proof.Machine.execReceiptUnitResetShare p s
  | .attentionResetShare p => Sys2Proof.Machine.execAttentionResetShare p s

end Sys2Proof.Machine
end

