-- ==== Sys2Proof/Machine/Step.lean ====
section
/-! DEFINITION. A step: the command at the front of the queue, or, on an empty queue, one period of the
reference clock. -/

namespace Sys2Proof.Machine

/-- One step (log 1, log 16). -/
def step (s : State) : Host.Outcome State Fault Refusal :=
  match s.pending with
  | [] => .next s.tick
  | c :: rest => exec c { s with pending := rest }

/-- The state with a command put at the front of its queue. -/
def State.pushFront (s : State) (c : Instr) : State :=
  { s with pending := c :: s.pending }

/-- The state with the command that a word of the table's bits spells at the front of its queue; no row of
the table gives bits, so no word spells one. -/
def State.withFetchWord (s : State) (nbits w : Nat) : State :=
  match decodeTableWord nbits w with
  | none => s
  | some c => s.pushFront c

end Sys2Proof.Machine
end

