-- ==== Sys2Proof/Safety.lean ====
section
/-! DEFINITION. What the statements speak of: the laws that every step keeps, the order of a command's
checks, and the descriptions of a state that several statements share. -/

namespace Sys2Proof

/-! ## Kinds of commands -/

/-- The port of a host command strobe (section 11.2); none for every other row. -/
def Instr.strobe? : Instr → Option Port
  | .listen p _ | .openChannel p _ | .accept p _ | .reject p _ | .close p _ | .send p _ | .fetch p _ => some p
  | .create p _ | .policy p _ | .join p _ | .publish p _ | .ack p _ | .popReceipt p _ | .nudge p _ => some p
  | .notifySet p _ | .mask p _ | .online p _ | .enablePort p _ | .setQuota p _ | .setTiming p _ => some p
  | .offline p _ _ | .disablePort p _ _ | .resetPort p _ _ => some p
  | .stageData _ _ | .stagePtr _ _ | .rbData _ | .rbPtr _ _ | .viewSel _ _ | .timeLo _ | .argWrite _ _ _ => none
  | .ignoredWrite _ _ _ | .memoryFault _ _ | .resetInputAssertion _ _ | .resetInputRelease _ => none
  | .chipResetAssertion | .chipResetRelease | .blockTransferEnd => none
  | .openTimeoutExpiry _ | .drainExpiry _ | .lifetimeExpiry _ | .holdoffExpiry _ => none
  | .memoryManagerResetShare _ | .endpointTableResetShare _ | .channelControllerResetShare _ => none
  | .groupControllerResetShare _ | .receiptUnitResetShare _ | .attentionResetShare _ => none

/-- The management commands (R155). -/
def Instr.isManagement : Instr → Bool
  | .enablePort _ _ | .disablePort _ _ _ | .resetPort _ _ _ | .setQuota _ _ | .setTiming _ _ => true
  | .listen _ _ | .openChannel _ _ | .accept _ _ | .reject _ _ | .close _ _ | .send _ _ | .fetch _ _ => false
  | .create _ _ | .policy _ _ | .join _ _ | .publish _ _ | .ack _ _ | .popReceipt _ _ | .nudge _ _ => false
  | .notifySet _ _ | .mask _ _ | .online _ _ | .offline _ _ _ => false
  | .stageData _ _ | .stagePtr _ _ | .rbData _ | .rbPtr _ _ | .viewSel _ _ | .timeLo _ | .argWrite _ _ _ => false
  | .ignoredWrite _ _ _ | .memoryFault _ _ | .resetInputAssertion _ _ | .resetInputRelease _ => false
  | .chipResetAssertion | .chipResetRelease | .blockTransferEnd => false
  | .openTimeoutExpiry _ | .drainExpiry _ | .lifetimeExpiry _ | .holdoffExpiry _ => false
  | .memoryManagerResetShare _ | .endpointTableResetShare _ | .channelControllerResetShare _ => false
  | .groupControllerResetShare _ | .receiptUnitResetShare _ | .attentionResetShare _ => false

/-- ONLINE and OFFLINE, the two port commands that an OFFLINE port takes (R149). -/
def Instr.isLifecycle : Instr → Bool
  | .online _ _ | .offline _ _ _ => true
  | .enablePort _ _ | .disablePort _ _ _ | .resetPort _ _ _ | .setQuota _ _ | .setTiming _ _ => false
  | .listen _ _ | .openChannel _ _ | .accept _ _ | .reject _ _ | .close _ _ | .send _ _ | .fetch _ _ => false
  | .create _ _ | .policy _ _ | .join _ _ | .publish _ _ | .ack _ _ | .popReceipt _ _ | .nudge _ _ => false
  | .notifySet _ _ | .mask _ _ => false
  | .stageData _ _ | .stagePtr _ _ | .rbData _ | .rbPtr _ _ | .viewSel _ _ | .timeLo _ | .argWrite _ _ _ => false
  | .ignoredWrite _ _ _ | .memoryFault _ _ | .resetInputAssertion _ _ | .resetInputRelease _ => false
  | .chipResetAssertion | .chipResetRelease | .blockTransferEnd => false
  | .openTimeoutExpiry _ | .drainExpiry _ | .lifetimeExpiry _ | .holdoffExpiry _ => false
  | .memoryManagerResetShare _ | .endpointTableResetShare _ | .channelControllerResetShare _ => false
  | .groupControllerResetShare _ | .receiptUnitResetShare _ | .attentionResetShare _ => false

/-- The commands that can write the message memory or its check codes: a fault, the end of a block
transfer, and the end of chip reset (R1, R2, R17). -/
def Instr.reachesMemory : Instr → Bool
  | .memoryFault _ _ | .blockTransferEnd | .chipResetRelease => true
  | .enablePort _ _ | .disablePort _ _ _ | .resetPort _ _ _ | .setQuota _ _ | .setTiming _ _ => false
  | .listen _ _ | .openChannel _ _ | .accept _ _ | .reject _ _ | .close _ _ | .send _ _ | .fetch _ _ => false
  | .create _ _ | .policy _ _ | .join _ _ | .publish _ _ | .ack _ _ | .popReceipt _ _ | .nudge _ _ => false
  | .notifySet _ _ | .mask _ _ | .online _ _ | .offline _ _ _ => false
  | .stageData _ _ | .stagePtr _ _ | .rbData _ | .rbPtr _ _ | .viewSel _ _ | .timeLo _ | .argWrite _ _ _ => false
  | .ignoredWrite _ _ _ | .resetInputAssertion _ _ | .resetInputRelease _ | .chipResetAssertion => false
  | .openTimeoutExpiry _ | .drainExpiry _ | .lifetimeExpiry _ | .holdoffExpiry _ => false
  | .memoryManagerResetShare _ | .endpointTableResetShare _ | .channelControllerResetShare _ => false
  | .groupControllerResetShare _ | .receiptUnitResetShare _ | .attentionResetShare _ => false

/-- The command by which a block takes its share of the reset of port p. -/
def ShareBlock.command (p : Port) : ShareBlock → Instr
  | .memoryManager => .memoryManagerResetShare p
  | .endpointTable => .endpointTableResetShare p
  | .channelController => .channelControllerResetShare p
  | .groupController => .groupControllerResetShare p
  | .receiptUnit => .receiptUnitResetShare p
  | .attention => .attentionResetShare p

end Sys2Proof

namespace Sys2Proof.Machine

/-! ## Laws of the state -/

/-- The message memory is in its canonical form. -/
def State.MemoryLaw (s : State) : Prop :=
  Memory.wf s.memory = true

/-- R137, R138, R139 at one port: the items listed are those with a nonempty set, each once; each set holds
conditions of its item's kind; the nudger set is nonempty exactly when NUDGE is set. -/
def Attention.Law (a : Attention) : Prop :=
  (∀ it : Item, it ∈ a.list ↔ a.sets[it] ≠ 0#16) ∧ a.list.Nodup ∧
  (∀ it : Item, a.sets[it] &&& ~~~(condsOfItem it) = 0#16) ∧
  (a.nudgers ≠ 0#4 ↔ a.sets[portItem] &&& Cond.nudge.only ≠ 0#16)

def State.AttentionLaw (s : State) : Prop :=
  ∀ p : Port, (s.port p).attention.Law

/-- R141 at one port: QUIET exactly when no enabled condition is set on the list; a deadline in GATHERING
alone; the bulk count from 1 to below the threshold in GATHERING and 0 elsewhere; settings in range. -/
def PortRec.NotificationLaw (x : PortRec) : Prop :=
  (x.notification.state = .quiet ↔ x.attention.anyEnabled x.notification.enables = false) ∧
  (x.notification.state = .gathering ↔ x.notification.deadline.isSome = true) ∧
  (x.notification.state = .gathering →
    1 ≤ x.notification.bulkCount ∧ x.notification.bulkCount < x.notification.threshold) ∧
  (x.notification.state ≠ .gathering → x.notification.bulkCount = 0) ∧
  1 ≤ x.notification.threshold ∧ x.notification.threshold ≤ 16 ∧ x.notification.holdoff ≤ 1023 ∧
  x.notification.enables &&& ~~~allConds = 0#16

def State.NotificationLaw (s : State) : Prop :=
  ∀ p : Port, (s.port p).NotificationLaw

/-- R94 at every port. -/
def State.ReceiptLaw (s : State) : Prop :=
  ∀ p : Port, (s.port p).receipts.queue.length + (s.port p).receipts.reserved ≤ 16

/-- The release of record r owes port p a receipt: its origin is at p and its receipt requested is yes (R13). -/
def State.owesReceipt (s : State) (p : Port) (r : RecId) : Bool :=
  match (s.record r).message? with
  | none => false
  | some m => decide (portOf m.origin = p) && m.receiptRequested

/-- The records that are not FREE, with origin at port p and receipt requested yes (R96). -/
def State.receiptsOwed (s : State) (p : Port) : Nat :=
  ((List.finRange 64).filter (s.owesReceipt p)).length

/-- R96: at a port that is ONLINE the reservation count is the number of its records that asked for a receipt. At any
other the Memory Manager's share leaves no such record, and the Receipt Unit's no receipt and no reservation (R14,
R103). -/
def State.ReservationLaw (s : State) : Prop :=
  ∀ p : Port,
    (s.online p = true → (s.port p).receipts.reserved = s.receiptsOwed p) ∧
    (s.online p = false →
      (s.awaits p (.share .memoryManager) = false → s.receiptsOwed p = 0) ∧
      (s.awaits p (.share .receiptUnit) = false → (s.port p).receipts = { queue := [], reserved := 0 }))

/-- The block list of record r names block b. -/
def State.Holds (s : State) (r : RecId) (b : BlockId) : Prop :=
  ∃ m, (s.record r).message? = some m ∧ b ∈ m.blocks

/-- R3: a block is held exactly when the block list of a record that is not FREE names it, then of one
record alone, and no list names a block twice. -/
def State.BlockLaw (s : State) : Prop :=
  (∀ b : BlockId, s.blockPlaces[b] = .held ↔ ∃ r, s.Holds r b) ∧
  (∀ (b : BlockId) (r r' : RecId), s.Holds r b → s.Holds r' b → r = r') ∧
  (∀ (r : RecId) (m : Message), (s.record r).message? = some m → m.blocks.Nodup)

/-- The blocks record r charges to port p. -/
def State.blocksCharged (s : State) (p : Port) (r : RecId) : Nat :=
  match (s.record r).message? with
  | none => 0
  | some m => if portOf m.origin = p then m.blocks.length else 0

/-- The records, 0 or 1, that record r charges to port p. -/
def State.recordsCharged (s : State) (p : Port) (r : RecId) : Nat :=
  match (s.record r).message? with
  | none => 0
  | some m => if portOf m.origin = p then 1 else 0

/-- R7: the charges of each port are what the records that are not FREE charge to it. -/
def State.ChargeLaw (s : State) : Prop :=
  ∀ p : Port,
    (s.port p).account.chargedBlocks = ((List.finRange 64).map (s.blocksCharged p)).sum ∧
    (s.port p).account.chargedRecords = ((List.finRange 64).map (s.recordsCharged p)).sum

/-- The ranges of pointers, quotas and configuration (R7, R56, R75, R160). -/
def State.RangeLaw (s : State) : Prop :=
  (∀ p : Port, (s.port p).staging.pointer ≤ 128 ∧ (s.port p).readBuffer.pointer ≤ 128 ∧
    (s.port p).account.blockQuota ≤ 128 ∧ (s.port p).account.recordQuota ≤ 64) ∧
  8 ≤ s.config.divider ∧ s.config.divider ≤ 50 ∧ 1 ≤ s.config.openTimeout ∧ s.config.openTimeout ≤ 255 ∧
  s.config.drainLimit ≤ 65535 ∧ s.config.maxLifetime ≤ 65535 ∧ 1 ≤ s.periodsLeft ∧ s.periodsLeft ≤ 50

/-- The ranges of an offer (R36). -/
def Offer.InRange (o : Offer) : Prop :=
  1 ≤ o.window ∧ o.window ≤ 8 ∧ o.maxLength ≤ 256

/-- The ranges of what an open channel carries (R36). -/
def LiveChannel.InRange (l : LiveChannel) : Prop :=
  l.caller ≠ l.callee ∧ l.maxLength ≤ 256 ∧ 1 ≤ l.toCallee.window ∧ l.toCallee.window ≤ 8 ∧
  1 ≤ l.toCaller.window ∧ l.toCaller.window ≤ 8

/-- The ranges of a channel record (R36). -/
def Channel.InRange : Channel → Prop
  | .free => True
  | .requested a b o _ => a ≠ b ∧ o.InRange
  | .opened l => l.InRange
  | .draining l _ _ => l.InRange
  | .aborting a b _ _ => a ≠ b

/-- The ranges of a group record (R118, R119). -/
def Group.InRange : Group → Prop
  | .free => True
  | .active x => x.members.length ≤ 12 ∧ x.maxLength ≤ 256
  | .dissolving => True

/-- R19, R36, R118, R119: the ranges of endpoints, channels and groups. -/
def State.LinkLaw (s : State) : Prop :=
  (∀ e : EpId, (s.role e).depth ≤ 8) ∧ (∀ c : ChanId, (s.channel c).InRange) ∧ ∀ g : GroupId, (s.group g).InRange

/-! ## How records, endpoints, channels and groups hold together -/

/-- The inbound queue entries that refer to record r. -/
def State.entryCount (s : State) (r : RecId) : Nat :=
  ((List.finRange 32).map fun e => (s.role e).queue.count r).sum

/-- The fetches of record r in progress. -/
def State.fetchCount (s : State) (r : RecId) : Nat :=
  ((List.finRange 4).filter fun p => (s.port p).fetchUnit.map CopyOut.record = some r).length

/-- The copy-ins of record r in progress. -/
def State.copyInCount (s : State) (r : RecId) : Nat :=
  ((List.finRange 4).filter fun p => (s.port p).sendUnit.map CopyIn.record = some r).length

/-- R6: the reference count of a record is the number of its holders, a FREE record has none, a CHANNEL record
has one, and the copy-in of a FILLING record is that of the Send Unit of its origin's port. -/
def State.HolderLaw (s : State) : Prop :=
  ∀ r : RecId,
    match s.record r with
    | .free => s.entryCount r = 0 ∧ s.fetchCount r = 0 ∧ s.copyInCount r = 0
    | .filling m =>
      m.count = 1 ∧ s.entryCount r = 0 ∧ s.fetchCount r = 0 ∧ s.copyInCount r = 1 ∧
        (s.port (portOf m.origin)).sendUnit.map CopyIn.record = some r
    | .live m _ =>
      s.copyInCount r = 0 ∧ m.count = s.entryCount r + s.fetchCount r ∧ 1 ≤ m.count ∧ m.count ≤ 12 ∧
        (m.isGroup = false → m.count = 1)

/-- What an entry of an endpoint's queue refers to (R27): a LIVE record of the endpoint's channel in the direction
toward it, or of its group. -/
def State.EntryFits (s : State) (e : EpId) (m : Message) : Prop :=
  match s.role e with
  | .connected c _ _ _ => ∃ l d, s.channel c = .opened l ∧ m.link = .channel c d ∧ l.receiver d = e
  | .closing c _ _ _ => ∃ l cl dl d, s.channel c = .draining l cl dl ∧ m.link = .channel c d ∧ l.receiver d = e
  | .member g _ _ => ∃ x, s.group g = .active x ∧ m.link = .group g ∧ m.origin = x.publisher
  | .idle | .listening _ | .offered _ _ _ _ | .calling _ _ | .publisher _ => False

/-- R19, R27: a queue holds no record twice and no more entries than its depth, each entry refers to a LIVE record
that fits the endpoint, and both the endpoint's port and the record's origin port are ONLINE or RESETTING. -/
def State.QueueLaw (s : State) : Prop :=
  ∀ e : EpId,
    (s.role e).queue.Nodup ∧ (s.role e).queue.length ≤ (s.role e).depth ∧ (s.role e).depth ≤ 8 ∧
      ∀ r ∈ (s.role e).queue,
        ∃ m dl, s.record r = .live m dl ∧ s.EntryFits e m ∧
          ∀ p ∈ [portOf e, portOf m.origin], s.online p = true ∨ (s.port p).state.isResetting = true

/-- An end that its port's reset has made IDLE before the link's owner took its share (R35, R37, R119, R125). -/
def State.LeftBehind (s : State) (e : EpId) : Prop :=
  s.role e = .idle ∧ (s.port (portOf e)).state.isResetting = true ∧
    s.awaits (portOf e) (.share .endpointTable) = false

/-- What an endpoint names (R37, R119): a channel or a group that names it back, in the role it has there. -/
def State.NamesBack (s : State) (e : EpId) : Prop :=
  match s.role e with
  | .idle | .listening _ => True
  | .offered c a _ o => ∃ dl, s.channel c = .requested a e o dl
  | .calling c b => ∃ o dl, s.channel c = .requested e b o dl
  | .connected c x _ n =>
    ∃ l, s.channel c = .opened l ∧
      (e = l.caller ∧ x = l.callee ∧ n = l.toCaller.window ∨ e = l.callee ∧ x = l.caller ∧ n = l.toCallee.window)
  | .closing c x _ n =>
    ∃ l cl dl, s.channel c = .draining l cl dl ∧
      (e = l.caller ∧ x = l.callee ∧ n = l.toCaller.window ∨ e = l.callee ∧ x = l.caller ∧ n = l.toCallee.window)
  | .publisher g => ∃ x, s.group g = .active x ∧ x.publisher = e
  | .member g _ n => ∃ x, s.group g = .active x ∧ e ∈ x.members ∧ 1 ≤ n

/-- The ends that a channel in REQUESTED, OPEN or DRAINING names (R37). -/
def Channel.ends : Channel → List EpId
  | .free => []
  | .requested a b _ _ => [a, b]
  | .opened l => [l.caller, l.callee]
  | .draining l _ _ => [l.caller, l.callee]
  | .aborting _ _ _ _ => []

/-- The endpoints that an ACTIVE group names (R119). -/
def Group.ends : Group → List EpId
  | .free => []
  | .active x => x.publisher :: x.members
  | .dissolving => []

/-- R37, R119: each end that a channel or a group names, names it, but for one left behind by its port's reset. -/
def State.NamesLaw (s : State) : Prop :=
  (∀ e : EpId, s.NamesBack e) ∧
  (∀ c : ChanId,
    (s.channel c).InRange ∧
    match s.channel c with
    | .free => True
    | .requested a b o _ =>
      (s.LeftBehind a ∨ s.role a = .calling c b) ∧ (s.LeftBehind b ∨ ∃ f, s.role b = .offered c a f o)
    | .opened l =>
      (s.LeftBehind l.caller ∨ ∃ x q n, s.role l.caller = .connected c x q n) ∧
        (s.LeftBehind l.callee ∨ ∃ x q n, s.role l.callee = .connected c x q n)
    | .draining l _ _ =>
      (s.LeftBehind l.caller ∨ ∃ x q n, s.role l.caller = .closing c x q n) ∧
        (s.LeftBehind l.callee ∨ ∃ x q n, s.role l.callee = .closing c x q n)
    | .aborting _ _ _ _ => True) ∧
  ∀ (g : GroupId) (x : ActiveGroup), s.group g = .active x →
    x.members.Nodup ∧ x.members.length ≤ 12 ∧ x.publisher ∉ x.members ∧ x.maxLength ≤ 256 ∧
    (s.LeftBehind x.publisher ∨ s.role x.publisher = .publisher g) ∧
    ∀ m ∈ x.members, s.LeftBehind m ∨ ∃ q n, s.role m = .member g q n

/-- The records that are not FREE and belong to direction d of channel c. -/
def State.recordsOn (s : State) (c : ChanId) (d : Dirn) : Nat :=
  ((List.finRange 64).filter fun r => (s.record r).message?.map Message.link = some (.channel c d)).length

/-- Record r is not FREE and belongs to channel c. -/
def State.isOn (s : State) (c : ChanId) (r : RecId) : Bool :=
  decide ((s.record r).message?.map Message.link = some (.channel c .callerToCallee) ∨
    (s.record r).message?.map Message.link = some (.channel c .calleeToCaller))

/-- The copy-ins toward channel c and the fetches of its messages in progress (R36). -/
def State.transfersOn (s : State) (c : ChanId) : Nat :=
  ((List.finRange 4).filter fun p => ((s.port p).sendUnit.map fun u => s.isOn c u.record) = some true).length +
  ((List.finRange 4).filter fun p => ((s.port p).fetchUnit.map fun u => s.isOn c u.record) = some true).length

/-- The messages of a channel with these ends come from the end that sends on their direction, and a fetch of one is
at the port of the other end. -/
def State.EndsOfMessages (s : State) (c : ChanId) (caller callee : EpId) : Prop :=
  ∀ (r : RecId) (m : Message) (d : Dirn), (s.record r).message? = some m → m.link = .channel c d →
    (m.origin = match d with
      | .callerToCallee => caller
      | .calleeToCaller => callee) ∧
    ∀ p : Port, (s.port p).fetchUnit.map CopyOut.record = some r →
      p = match d with
        | .callerToCallee => portOf callee
        | .calleeToCaller => portOf caller

/-- R36, R114 for what an OPEN or DRAINING channel carries: on each direction credits plus outstanding are the window,
and the outstanding messages are the direction's records; transfers in flight is the number of them. -/
def State.AccountOf (s : State) (c : ChanId) (l : LiveChannel) : Prop :=
  (∀ d : Dirn,
    (l.direction d).credits + (l.direction d).outstanding = (l.direction d).window ∧
      (l.direction d).outstanding = s.recordsOn c d) ∧
  l.transfers = s.transfersOn c ∧ l.transfers ≤ 4 ∧ s.EndsOfMessages c l.caller l.callee

/-- R36, R114: the account of each channel. -/
def State.AccountLaw (s : State) : Prop :=
  ∀ c : ChanId,
    match s.channel c with
    | .free => ∀ d, s.recordsOn c d = 0
    | .requested _ _ _ _ => ∀ d, s.recordsOn c d = 0
    | .opened l => s.AccountOf c l
    | .draining l _ _ => s.AccountOf c l
    | .aborting a b _ k => 1 ≤ k ∧ k ≤ 4 ∧ k = s.transfersOn c ∧ s.EndsOfMessages c a b

/-- The copy-ins in flight of group g. -/
def State.copiesOf (s : State) (g : GroupId) : Nat :=
  ((List.finRange 64).filter fun r =>
    match s.record r with
    | .filling m => decide (m.link = .group g)
    | .free => false
    | .live _ _ => false).length

/-- R118, R129: copy in flight is yes exactly while a copy-in of the group is, a group in DISSOLVING has one, and a
copy-in into an ACTIVE group is its publisher's. -/
def State.CopyLaw (s : State) : Prop :=
  ∀ g : GroupId,
    match s.group g with
    | .free => s.copiesOf g = 0
    | .active x =>
      s.copiesOf g = (if x.copyInFlight then 1 else 0) ∧
        ∀ r m, s.record r = .filling m → m.link = .group g → m.origin = x.publisher
    | .dissolving => s.copiesOf g = 1

/-- An Attention Unit and a Notification Unit as the port reset leaves them: no condition, no item and no nudger, QUIET
with the mask set and no holdoff deadline (R147). -/
def PortRec.Unattended (x : PortRec) : Prop :=
  x.attention = { sets := Vector.replicate 9 0#16, nudgers := 0#4, list := [] } ∧
  x.notification.state = .quiet ∧ x.notification.masked = true ∧ x.notification.bulkCount = 0 ∧
  x.notification.deadline = none

/-- R147, R154, and what the shares leave before the end of RESETTING. A port that is not ONLINE has its read buffer
EMPTY and no outcome; once the block concerned has taken its share, it has every endpoint in its reset form, no
channel and no group that names one, no receipt and no reservation, no condition; once a unit has stopped, that unit
is IDLE. In RESETTING some report is still due. -/
def State.OutOfServiceLaw (s : State) : Prop :=
  ∀ p : Port,
    (s.port p).state ≠ .resetting false [] ∧ (s.port p).state ≠ .resetting true [] ∧
    (s.online p = false →
      (s.port p).readBuffer = ReadBuffer.reset ∧ (s.port p).sendOutcome = SendOutcome.reset ∧
      (s.port p).fetchOutcome = FetchOutcome.reset ∧
      (s.awaits p (.share .endpointTable) = false → ∀ e : EpIndex, s.endpoint (globalOf p e) = Endpoint.reset) ∧
      (s.awaits p (.share .channelController) = false → ∀ c, ∀ e ∈ (s.channel c).ends, portOf e ≠ p) ∧
      (s.awaits p (.share .groupController) = false → ∀ g, ∀ e ∈ (s.group g).ends, portOf e ≠ p) ∧
      (s.awaits p (.share .receiptUnit) = false → (s.port p).receipts = { queue := [], reserved := 0 }) ∧
      (s.awaits p (.share .attention) = false → (s.port p).Unattended) ∧
      (s.awaits p .sendStopped = false → (s.port p).sendUnit = none) ∧
      (s.awaits p .fetchStopped = false → (s.port p).fetchUnit = none))

/-- A requester waits at the arbiter or has its block transfer in progress. -/
def State.Requests (s : State) (q : Requester) : Prop :=
  s.arbiter.waiting[q] = true ∨ s.arbiter.inProgress = some q

/-- R15, R16: the arbiter leaves nobody waiting at a free port, and a requester does not wait while its own transfer
is in progress. -/
def Arbiter.Law (a : Arbiter) : Prop :=
  (a.inProgress = none → ∀ q : Requester, a.waiting[q] = false) ∧
  ∀ q : Requester, a.inProgress = some q → a.waiting[q] = false

/-- When a transfer unit may be at work (R16, R72, R86): uncancelled at an ONLINE port; or cancelled, in the block
transfer at whose end it will report stopped. -/
def State.AtWork (s : State) (p : Port) (cancelled : Bool) (q : Requester) (stopped : Report) : Prop :=
  s.Requests q ∧
  (cancelled = false ∧ s.online p = true ∨
    cancelled = true ∧ s.awaits p stopped = true ∧ s.arbiter.inProgress = some q)

/-- R64, R72: the Send Unit of port p. COPYING, it fills a FILLING record of its kind, 1 to 8 blocks remain, and next
and remaining add up to the record's blocks. Its requester asks for the memory exactly while it is COPYING, the
staging buffer is LOCKED exactly while it is COPYING uncancelled (R58), and its stopped report is due exactly while it
is cancelled. -/
def State.SendUnitLaw (s : State) (p : Port) : Prop :=
  (∀ u, (s.port p).sendUnit = some u →
    1 ≤ u.remaining ∧ u.remaining ≤ 8 ∧ s.AtWork p u.cancelled (sendRequester p) .sendStopped ∧
    ∃ m, s.record u.record = .filling m ∧ portOf m.origin = p ∧ u.next + u.remaining = m.blocks.length ∧
      (u.kind = .group ↔ m.isGroup = true)) ∧
  ((s.port p).sendUnit = none → ¬s.Requests (sendRequester p)) ∧
  ((s.port p).staging.locked = true ↔ ∃ u, (s.port p).sendUnit = some u ∧ u.cancelled = false) ∧
  (s.awaits p .sendStopped = true ↔ ∃ u, (s.port p).sendUnit = some u ∧ u.cancelled = true)

/-- R79, R86: the Fetch Unit of port p, in the same way: it reads a LIVE record, and the read buffer is FILLING exactly
while it is COPYING uncancelled (R75). -/
def State.FetchUnitLaw (s : State) (p : Port) : Prop :=
  (∀ u, (s.port p).fetchUnit = some u →
    1 ≤ u.remaining ∧ u.remaining ≤ 8 ∧ s.AtWork p u.cancelled (fetchRequester p) .fetchStopped ∧
    ∃ m dl, s.record u.record = .live m dl ∧ u.next + u.remaining = m.blocks.length) ∧
  ((s.port p).fetchUnit = none → ¬s.Requests (fetchRequester p)) ∧
  ((s.port p).readBuffer.state = .filling ↔ ∃ u, (s.port p).fetchUnit = some u ∧ u.cancelled = false) ∧
  (s.awaits p .fetchStopped = true ↔ ∃ u, (s.port p).fetchUnit = some u ∧ u.cancelled = true)

/-- R5: a record has at most 256 bytes, and a block for every 32 of them or part of it. -/
def State.LengthLaw (s : State) : Prop :=
  ∀ (r : RecId) (m : Message), (s.record r).message? = some m →
    m.length ≤ 256 ∧ m.blocks.length = (m.length + 31) / 32

/-- The transfer units, the records they move and the arbiter. -/
def State.UnitLaw (s : State) : Prop :=
  s.arbiter.Law ∧ s.LengthLaw ∧ ∀ p : Port, s.SendUnitLaw p ∧ s.FetchUnitLaw p

/-- R5, R6, R16, R19, R27, R36, R37, R58, R64, R75, R79, R114, R118, R119, R147 and R154 together. Each needs the
others to be kept by a step. -/
def State.Coherent (s : State) : Prop :=
  s.HolderLaw ∧ s.QueueLaw ∧ s.NamesLaw ∧ s.AccountLaw ∧ s.CopyLaw ∧ s.OutOfServiceLaw ∧ s.UnitLaw

/-! ## The order of checks -/

/-- The results of command c of port p: the first of `checks` that holds gives its code, with RESULT_VALUE 0 and
nothing else changed (R165, R166); when none holds, the command answers a next state t with `accepted t`. -/
def ResultsInOrder (c : Instr) (p : Port) (s : State) (accepted : State → Prop) : List (Prop × ResultCode) → Prop
  | [] => ∃ t, exec c s = .next t ∧ accepted t
  | (fails, code) :: rest =>
    (fails → exec c s = .next (s.setResult p code 0#16)) ∧ (¬fails → ResultsInOrder c p s accepted rest)

/-! ## Frames -/

/-- Time, configuration, chip reset and the queue are the same. -/
def State.SameClock (s t : State) : Prop :=
  t.config = s.config ∧ t.now = s.now ∧ t.periodsLeft = s.periodsLeft ∧ t.chipReset = s.chipReset ∧
  t.pending = s.pending

/-- Every byte of the message memory and every check code is the same. -/
def State.SameMemory (s t : State) : Prop :=
  (∀ a : Nat, Memory.readByte t.memory a = Memory.readByte s.memory a) ∧ t.badChecks = s.badChecks

/-- The message records, the places of the blocks and the arbiter are the same. -/
def State.SamePool (s t : State) : Prop :=
  t.records = s.records ∧ t.blockPlaces = s.blockPlaces ∧ t.arbiter = s.arbiter

/-- The buffers, transfer units and outcomes of every port are the same. -/
def State.SameTransfers (s t : State) : Prop :=
  ∀ q : Port, (t.port q).staging = (s.port q).staging ∧ (t.port q).readBuffer = (s.port q).readBuffer ∧
    (t.port q).sendUnit = (s.port q).sendUnit ∧ (t.port q).fetchUnit = (s.port q).fetchUnit ∧
    (t.port q).sendOutcome = (s.port q).sendOutcome ∧ (t.port q).fetchOutcome = (s.port q).fetchOutcome

/-- The endpoints, channels and groups are the same. -/
def State.SameLinks (s t : State) : Prop :=
  t.endpoints = s.endpoints ∧ t.channels = s.channels ∧ t.groups = s.groups

/-! ## Descriptions that several statements share -/

/-- What the acceptance of a SEND or PUBLISH at port p does at the Memory Manager and the Receipt Unit: record r
holds m as FILLING, its blocks are held, the port is charged, and a receipt is reserved when m asks for one
(R8, R63, R95, R127). -/
def State.accepted (s : State) (p : Port) (r : RecId) (m : Message) : State :=
  ((m.blocks.foldl (fun u b => u.placeBlock b .held) s).setRecord r (.filling m)).modPort p fun x =>
    { x with
      account :=
        { x.account with
          chargedBlocks := x.account.chargedBlocks + m.blocks.length
          chargedRecords := x.account.chargedRecords + 1 }
      receipts :=
        { x.receipts with
          reserved := if m.receiptRequested then x.receipts.reserved + 1 else x.receipts.reserved } }

/-- The copy-in of record r begins at port p: staging LOCKED, Send Unit COPYING, a request and what the arbiter
makes of it (R58, R64, R65). -/
def State.copyInBegun (s : State) (p : Port) (u : CopyIn) : State :=
  ((s.modPort p fun x => { x with staging := { x.staging with locked := true }, sendUnit := some u }).placeRequest
    (sendRequester p)).grant

/-- The deadline of a message with this effective lifetime that enters its queues now (R88). -/
def State.deadlineFor (s : State) (lifetime : Nat) : Option Time :=
  if lifetime = 0 then none else some (s.now + BitVec.ofNat 32 (1000 * lifetime))

/-- A condition stands in an item's set. -/
def State.HasCond (s : State) (p : Port) (it : Item) (c : Cond) : Prop :=
  (s.port p).attention.sets[it] &&& c.only ≠ 0#16

/-- The channel names an endpoint of port p in REQUESTED, OPEN or DRAINING. -/
def Channel.EndsAt (x : Channel) (p : Port) : Prop :=
  match x with
  | .free => False
  | .requested a b _ _ => portOf a = p ∨ portOf b = p
  | .opened l => portOf l.caller = p ∨ portOf l.callee = p
  | .draining l _ _ => portOf l.caller = p ∨ portOf l.callee = p
  | .aborting _ _ _ _ => False

/-- The tallies after the ends of n holders of one kind; CHANNEL records keep theirs (R10). -/
def Message.ended (m : Message) (n : Nat) (k : TallyKind) : Message :=
  { m with count := m.count - n, tallies := if m.isGroup then m.tallies.raise k n else m.tallies }

/-- A Receipt Unit after it took these hand-offs in order: at an ONLINE port each is posted while a reservation is left,
and at any other all are dropped; either way each lowers a reservation count above 0 (R96). -/
def ReceiptUnit.after (u : ReceiptUnit) (online : Bool) (handed : List Receipt) : ReceiptUnit where
  queue := if online then u.queue ++ handed.take u.reserved else u.queue
  reserved := u.reserved - handed.length

/-- From s to t each Receipt Unit took these hand-offs and nothing else, and RECEIPT stands where one was posted (R96,
R100). -/
def State.HandedOff (s t : State) (handed : Port → List Receipt) : Prop :=
  ∀ q : Port,
    (t.port q).receipts = (s.port q).receipts.after (s.online q) (handed q) ∧
    (s.online q = true → 0 < (s.port q).receipts.reserved → handed q ≠ [] → t.HasCond q portItem .receipt)

/-- The hand-offs to port q at the release of a record that holds m: one when m asked for a receipt and its origin is at
q, else none (R12, R13). -/
def Message.receiptAt (m : Message) (cause : Cause) (q : Port) : List Receipt :=
  if m.receiptRequested = true ∧ portOf m.origin = q then [receiptOf m cause] else []

/-- The hand-offs to port q when n holders of a record that holds m end in one claim of this kind, with the cause it
carries: those of the release when no holder is left, else none (R10, R13). -/
def Message.receiptAfter (m : Message) (n : Nat) (k : TallyKind) (cause : Cause) (q : Port) : List Receipt :=
  if m.count ≤ n then (m.ended n k).receiptAt cause q else []

/-- The hand-offs to port q at one discard claim for n entries of record r (R32). -/
def State.discardReceipt (s : State) (r : RecId) (n : Nat) (q : Port) : List Receipt :=
  match (s.record r).message? with
  | none => []
  | some m => m.receiptAfter n .discarded .discarded q

/-- The hand-offs to port q of a bulk discard of these entries: record by record, at its first appearance (R32, R100).
-/
def State.discardReceipts (s : State) (entries : List RecId) (q : Port) : List Receipt :=
  (firstAppearances entries).flatMap fun r => s.discardReceipt r (entries.count r) q

/-- What an OPEN or DRAINING channel carries after a message of direction d is no longer outstanding: one credit more,
one message outstanding less, and one transfer in flight less when the message counted as one (R83, R85). -/
def LiveChannel.ended (l : LiveChannel) (d : Dirn) (counted : Bool) : LiveChannel :=
  { l.modDirection d fun y => { y with credits := y.credits + 1, outstanding := y.outstanding - 1 } with
    transfers := if counted then l.transfers - 1 else l.transfers }

/-- Nothing of a DRAINING channel that carries l remains, with these queues at its ends (R109). -/
def State.Drained (s : State) (l : LiveChannel) (queues : EpId → List RecId) : Prop :=
  s.online (portOf l.caller) = true ∧ s.online (portOf l.callee) = true ∧ queues l.caller = [] ∧ queues l.callee = [] ∧
    l.transfers = 0

/-- From s to t a message of direction d of channel c ended other than by delivery: its credit is back while the channel
keeps its directions, its transfer no longer counts, and the drain completion test follows, with these queues by then
at the endpoints. A drain that completes leaves the channel FREE and both ends IDLE with COMPLETE, 0 and CLOSED; an
ABORTING channel is FREE with its last transfer; every other channel stays, and every other endpoint keeps all but
what left its queue (R68, R72, R83, R86, R90, R109, R114). -/
def State.MessageEnded (s t : State) (c : ChanId) (d : Dirn) (counted : Bool) (queues : EpId → List RecId) : Prop :=
  (∀ l, s.channel c = .opened l → t.channel c = .opened (l.ended d counted)) ∧
  (∀ l cl dl, s.channel c = .draining l cl dl →
    (¬s.Drained (l.ended d counted) queues → t.channel c = .draining (l.ended d counted) cl dl) ∧
    (s.Drained (l.ended d counted) queues →
      t.channel c = .free ∧
      ∀ e ∈ [l.caller, l.callee],
        t.endpoint e = { s.endpoint e with role := .idle, closeOutcome := .complete, discarded := 0 } ∧
          t.HasCond (portOf e) (itemOf (localOf e)) .closed)) ∧
  (∀ a b cl k, s.channel c = .aborting a b cl k →
    t.channel c = if counted = false then .aborting a b cl k else if k ≤ 1 then .free else .aborting a b cl (k - 1)) ∧
  (∀ x, x ≠ c → t.channel x = s.channel x) ∧
  ∀ e,
    (∀ l cl dl, s.channel c = .draining l cl dl → s.Drained (l.ended d counted) queues → e ∉ [l.caller, l.callee]) →
    t.endpoint e = { s.endpoint e with role := (s.role e).withQueue (queues e) }

/-- From s to t record r, which held m, was released: it is FREE, its blocks are retired or free by its bad marks, and
no other record or block is concerned (R12). -/
def State.Released (s t : State) (r : RecId) (m : Message) : Prop :=
  t.record r = .free ∧ (∀ r', r' ≠ r → t.record r' = s.record r') ∧
  (∀ b ∈ m.blocks, t.blockPlaces[b] = if m.badMarks.contains b then .retired else .free) ∧
  ∀ b, b ∉ m.blocks → t.blockPlaces[b] = s.blockPlaces[b]

/-- From s to t the cancelled copy-in at port p of record r, which held m, ended (R72, R129): the Send Unit IDLE and
stopped, the record released, the transfer and the credit given back at its channel, copy in flight no at its
group, no outcome written, and no receipt posted at a port that is not ONLINE (R13). -/
def State.CopyInGone (s t : State) (p : Port) (r : RecId) (m : Message) : Prop :=
  (t.port p).sendUnit = none ∧ t.awaits p .sendStopped = false ∧ (t.port p).sendOutcome = (s.port p).sendOutcome ∧
  (t.port p).staging = (s.port p).staging ∧ s.Released t r m ∧
  (s.online (portOf m.origin) = false → s.HandedOff t (m.receiptAt .cancelled)) ∧
  (∀ c d, m.link = .channel c d → s.MessageEnded t c d true (fun e => (s.role e).queue) ∧ t.groups = s.groups) ∧
  ∀ g, m.link = .group g →
    t.channels = s.channels ∧ t.endpoints = s.endpoints ∧
    (∀ x, s.group g = .active x → t.group g = .active { x with copyInFlight := false }) ∧
    (s.group g = .dissolving → t.group g = .free) ∧ ∀ k, k ≠ g → t.group k = s.group k

/-- From s to t the cancelled fetch at port p of record r, which held m, ended (R86): the Fetch Unit IDLE and stopped,
one holder less with the discarded tally of a GROUP record, the release with its receipt of cause DISCARDED with the
last one, the transfer and the credit given back at its channel, and neither the read buffer nor the outcome written. -/
def State.FetchGone (s t : State) (p : Port) (r : RecId) (m : Message) (deadline : Option Time) : Prop :=
  (t.port p).fetchUnit = none ∧ t.awaits p .fetchStopped = false ∧ (t.port p).readBuffer = (s.port p).readBuffer ∧
  (t.port p).fetchOutcome = (s.port p).fetchOutcome ∧ t.groups = s.groups ∧
  s.HandedOff t (m.receiptAfter 1 .discarded .discarded) ∧ (m.count ≤ 1 → s.Released t r m) ∧
  (1 < m.count →
    t.record r = .live (m.ended 1 .discarded) deadline ∧ (∀ r', r' ≠ r → t.record r' = s.record r') ∧
      t.blockPlaces = s.blockPlaces) ∧
  (∀ c d, m.link = .channel c d → s.MessageEnded t c d true fun e => (s.role e).queue) ∧
  ∀ g, m.link = .group g → t.channels = s.channels ∧ t.endpoints = s.endpoints

/-- From s to t block b was written whole with position k of a message of this length, from staging buffer st: its
bytes, zero from the length on, and a fresh check code; every other byte and check code stays (R1). -/
def State.BlockWritten (s t : State) (b : BlockId) (st : Staging) (length k : Nat) : Prop :=
  t.badChecks = s.badChecks.set b false ∧
  (∀ j : Fin 32,
    Memory.readByte t.memory (32 * b.val + j.val) =
      if 32 * k + j.val < length then
        (let word := (st.words[(32 * k + j.val) / 2]?).getD 0#16
         if (32 * k + j.val) % 2 = 0 then word.extractLsb' 0 8 else word.extractLsb' 8 8)
      else 0#8) ∧
  ∀ a : Nat, a < 32 * b.val ∨ 32 * b.val + 32 ≤ a → Memory.readByte t.memory a = Memory.readByte s.memory a

/-- The message of a record after the read of its block at position k: a failed check marks the block and the record
(R11, R86). -/
def State.afterRead (s : State) (m : Message) (k : Nat) : Message :=
  match m.blocks[k]? with
  | none => m
  | some b =>
    if s.badChecks[b] = true then
      { m with badMarks := if m.badMarks.contains b then m.badMarks else m.badMarks ++ [b], damaged := true }
    else m

/-! ## The shares of a port reset -/

/-- The entries of the queues at the ends of the channels that the reset of port p tears down, the channels in
increasing number, the caller's queue before the callee's (R110, R116). -/
def State.tornEntries (s : State) (p : Port) : List RecId :=
  (List.finRange 16).flatMap fun c =>
    match (s.channel c).live? with
    | none => []
    | some l =>
      if portOf l.caller = p ∨ portOf l.callee = p then (s.role l.caller).queue ++ (s.role l.callee).queue else []

/-- The messages of direction d of channel c in a list of queue entries. -/
def State.entriesOn (s : State) (entries : List RecId) (c : ChanId) (d : Dirn) : Nat :=
  (entries.filter fun r => (s.record r).message?.map Message.link = some (.channel c d)).length

/-- A direction after n of its messages left their queue unfetched: a credit back for each (R32). -/
def Direction.refunded (x : Direction) (n : Nat) : Direction :=
  { x with credits := x.credits + n, outstanding := x.outstanding - n }

/-- What a LIVE record with message m becomes when n entries of it are discarded (R10, R32). -/
def Message.discardedTimes (m : Message) (n : Nat) (deadline : Option Time) : MsgRecord :=
  if m.count ≤ n then .free else .live (m.ended n .discarded) deadline

/-- Endpoint e is an end of channel c, which the reset of port p concerns (R53, R116). -/
def State.EndConcerned (s : State) (p : Port) (c : ChanId) (e : EpId) : Prop :=
  (s.channel c).EndsAt p ∧ e ∈ (s.channel c).ends

/-- Endpoint e is an end of channel c, and of no other that the reset of port p concerns. R37 allows no other. -/
def State.EndOfOne (s : State) (p : Port) (c : ChanId) (e : EpId) : Prop :=
  s.EndConcerned p c e ∧ ∀ k, s.EndConcerned p k e → k = c

/-- The endpoints that a group loses to the reset of port p: all when it publishes there, else its members there
(R133). -/
def Group.leaving (p : Port) : Group → List EpId
  | .free => []
  | .active x => if portOf x.publisher = p then x.publisher :: x.members else x.members.filter fun m => portOf m = p
  | .dissolving => []

/-- The entries of the queues of the endpoints that groups lose to the reset of port p, the groups in increasing number,
each in member-list order (R125, R133). -/
def State.leftEntries (s : State) (p : Port) : List RecId :=
  (List.finRange 8).flatMap fun g => ((s.group g).leaving p).flatMap fun e => (s.role e).queue

/-- The endpoints that some group loses to the reset of port p. -/
def State.leavingGroups (s : State) (p : Port) : List EpId :=
  (List.finRange 32).filter fun e => (List.finRange 8).any fun g => ((s.group g).leaving p).contains e

/-! ## Window reads -/

/-- The words that reads of n registers of port p's window return, from word address a on. -/
def State.reads (s : State) (p : Port) (a n : Nat) : List Word :=
  (List.range n).map fun k => windowRead s p (BitVec.ofNat 7 (a + k))

/-- A number as a register shows it. -/
def num (n : Nat) : Word :=
  BitVec.ofNat 16 n

/-- A set of options as a register shows it (R168): bit 0 RCPT, bit 1 EXPIRE. -/
def Options.shown (o : Options) : Word :=
  num ((if o.rcpt then 1 else 0) + if o.expire then 2 else 0)

/-- Kind and link as a register shows them (R168): bits 0 to 3 the number, bit 15 set for GROUP. -/
def LinkId.shown : LinkId → Word
  | .channel c => num c.val
  | .group g => num (0x8000 + g.val)

/-- A listen filter as a register shows it (R34): 0 to 3 a port, 4 ANY. -/
def Filter.shown : Filter → Word
  | .any => 4#16
  | .port q => num q.val

/-- The endpoint view's state, link, peer, filter, offer, queue length and depth (R34, R168). -/
def Role.shown : Role → List Word
  | .idle => [0, 0xFFFF, 0xFFFF, 0xFFFF, 0xFFFF, 0xFFFF, 0xFFFF, 0, 0]
  | .listening f => [1, 0xFFFF, 0xFFFF, f.shown, 0xFFFF, 0xFFFF, 0xFFFF, 0, 0]
  | .offered c a f o => [2, num c.val, num a.val, f.shown, num o.window, num o.maxLength, o.options.shown, 0, 0]
  | .calling c b => [3, num c.val, num b.val, 0xFFFF, 0xFFFF, 0xFFFF, 0xFFFF, 0, 0]
  | .connected c x q d => [4, num c.val, num x.val, 0xFFFF, 0xFFFF, 0xFFFF, 0xFFFF, num q.length, num d]
  | .closing c x q d => [5, num c.val, num x.val, 0xFFFF, 0xFFFF, 0xFFFF, 0xFFFF, num q.length, num d]
  | .publisher g => [6, num g.val, 0xFFFF, 0xFFFF, 0xFFFF, 0xFFFF, 0xFFFF, 0, 0]
  | .member g q d => [7, num g.val, 0xFFFF, 0xFFFF, 0xFFFF, 0xFFFF, 0xFFFF, num q.length, num d]

/-- The channel view of what a channel carries, as the caller or the callee sees it (R45, R168). -/
def LiveChannel.shown (l : LiveChannel) (state : Nat) (asCaller : Bool) : List Word :=
  let out := if asCaller then l.toCallee else l.toCaller
  let into := if asCaller then l.toCaller else l.toCallee
  [num state, if asCaller then 0 else 1, num l.maxLength, l.options.shown, num out.window, num out.credits,
    num out.outstanding, out.nextSequence, num into.window, into.nextSequence]

/-- The group view of an ACTIVE group (R134, R168). -/
def ActiveGroup.shown (x : ActiveGroup) : List Word :=
  [1, num x.publisher.val, if x.policy = .opened then 0 else 1, num x.maxLength, x.options.shown, x.nextSequence,
    num x.members.length] ++
    (List.range 12).map fun k => (x.members[k]?.map fun m => num m.val).getD 0xFFFF

/-- The receipt registers (R101, R168): held, reserved, and the head or zeros. -/
def ReceiptUnit.shown (u : ReceiptUnit) : List Word :=
  [num u.queue.length, num u.reserved] ++
    match u.queue with
    | [] => List.replicate 10 0
    | r :: _ =>
      let kind : Nat :=
        match r.outcome with
        | .fetched => 1
        | .expired => 2
        | .discarded => 3
        | .group _ => 4
      let tallies : List Word :=
        match r.outcome with
        | .group y => [num y.fetched, num y.expired, num y.discarded, num y.skipped]
        | .fetched => [0, 0, 0, 0]
        | .expired => [0, 0, 0, 0]
        | .discarded => [0, 0, 0, 0]
      [num (kind + if r.damaged then 0x8000 else 0), num r.endpoint.val, r.link.shown, r.sequence,
        r.tag.extractLsb' 0 16, r.tag.extractLsb' 16 16] ++ tallies

/-- The attention registers (R140): count, items, the head's conditions, PORT's conditions, nudgers. -/
def Attention.shown (a : Attention) : List Word :=
  [num a.list.length] ++ ((List.range 9).map fun k => (a.list[k]?.map fun it => num it.val).getD 0xFFFF) ++
    [match a.list with
      | [] => 0
      | it :: _ => a.sets[it], a.sets[portItem], num a.nudgers.toNat]

/-- A port state as a register shows it (R148, R168). -/
def PortState.shown : PortState → Nat
  | .disabled => 0
  | .offline => 1
  | .online => 2
  | .resetting _ _ => 3

def NotifyState.shown : NotifyState → Nat
  | .quiet => 0
  | .gathering => 1
  | .raised => 2

def ReadBufferState.shown : ReadBufferState → Nat
  | .empty => 0
  | .filling => 1
  | .full => 2

def SendEnd.shown : SendEnd → Word
  | .none => 0
  | .delivered => 1
  | .discarded => 2

def FetchEnd.shown : FetchEnd → Word
  | .none => 0
  | .ok => 1
  | .damaged => 2

def OpenOutcome.shown : OpenOutcome → Word
  | .none => 0
  | .rejected _ => 1
  | .timeout => 2
  | .peerReset => 3

def WithdrawOutcome.shown : WithdrawOutcome → Word
  | .none => 0
  | .callerClosed => 1
  | .timeout => 2
  | .callerReset => 3

def CloseOutcome.shown : CloseOutcome → Word
  | .none => 0
  | .complete => 1
  | .abortedLocal => 2
  | .abortedByPeer => 3
  | .drainExpired => 4
  | .peerReset => 5

/-- The result codes (R166). -/
def ResultCode.shown : ResultCode → Word
  | .ok => 0
  | .notOnline => 1
  | .busy => 2
  | .badEndpoint => 3
  | .badArg => 4
  | .wrongState => 5
  | .closing => 6
  | .notOffered => 7
  | .peerDown => 8
  | .notListening => 9
  | .filtered => 10
  | .tooLong => 11
  | .notAgreed => 12
  | .noCredit => 13
  | .noReceiptSpace => 14
  | .overQuota => 15
  | .noRecord => 16
  | .noBlocks => 17
  | .noChannel => 18
  | .noGroup => 19
  | .groupFull => 20
  | .groupClosed => 21
  | .empty => 22
  | .denied => 23

/-- Disable pending (R148). -/
def PortState.pendsDisable (x : PortState) : Prop :=
  ∃ reports, x = .resetting true reports

end Sys2Proof.Machine
end

