-- ==== Sys2Proof/Certificates/Slice0/Obligations.lean ====
section
/-! DEFINITION. The statements for the provers. Each name says what it states; the rules are cited in
OBLIGATIONS.json. -/

open Sys2Proof Sys2Proof.Machine

/-! ## The machine -/

/-- A step runs the command at the front of the queue on the state with the queue's rest. -/
def Obligations.StepRunsFrontCommand : Prop :=
  (∀ (c : Instr) (s : State), step (s.pushFront c) = exec c s) ∧
  ∀ (c : Instr) (rest : List Instr) (s : State), s.pending = c :: rest →
    step s = exec c { s with pending := rest }

/-- On an empty queue a step is one reference clock period; the count advances at the last period of a count, and
the expiries it reaches become pending, each once, in some order (R161). The model's choices: an empty queue is a
clock period (log 1), the expiries become pending with the count (log 2), in any order (log 3), the time base stands
still while chip reset is asserted (log 8), and the periods left are a field of the model (log 13). -/
def Obligations.EmptyQueueStepIsClockPeriod : Prop :=
  ∀ s : State, s.pending = [] →
    step s = .next s.tick ∧
    (s.chipReset = true → s.tick = s) ∧
    (s.chipReset = false → 1 < s.periodsLeft → s.tick = { s with periodsLeft := s.periodsLeft - 1 }) ∧
    (s.chipReset = false → s.periodsLeft ≤ 1 →
      ∃ due : List Instr,
        s.tick = { s with now := s.now + 1#32, periodsLeft := s.config.divider, pending := due } ∧ due.Nodup ∧
        (∀ i : Instr, i ∈ due ↔
          (∃ c a b o d, i = .openTimeoutExpiry c ∧ s.channel c = .requested a b o d ∧ reached (s.now + 1#32) d = true) ∨
          (∃ c l cl d, i = .drainExpiry c ∧ s.channel c = .draining l cl (some d) ∧
            reached (s.now + 1#32) d = true) ∨
          (∃ r m d, i = .lifetimeExpiry r ∧ s.record r = .live m (some d) ∧ reached (s.now + 1#32) d = true) ∨
          (∃ p d, i = .holdoffExpiry p ∧ (s.port p).notification.deadline = some d ∧
            reached (s.now + 1#32) d = true)))

/-- Every command answers a next state in every state, and leaves the queue alone. -/
def Obligations.EveryCommandAnswersNext : Prop :=
  ∀ (i : Instr) (s : State), ∃ t, exec i s = .next t ∧ t.pending = s.pending

/-- The values after chip reset that the manual gives. -/
def Obligations.ResetValues : Prop :=
  let s := State.reset
  (∀ e : EpId, s.role e = .idle ∧ (s.endpoint e).openOutcome = .none ∧ (s.endpoint e).withdrawOutcome = .none ∧
    (s.endpoint e).closeOutcome = .none ∧ (s.endpoint e).discarded = 0) ∧
  (∀ c : ChanId, s.channel c = .free) ∧ (∀ g : GroupId, s.group g = .free) ∧ (∀ r : RecId, s.record r = .free) ∧
  (∀ b : BlockId, s.blockPlaces[b] = .free ∧ s.badChecks[b] = false) ∧ (∀ a : Nat, Memory.readByte s.memory a = 0#8) ∧
  (∀ q : Requester, s.arbiter.waiting[q] = false) ∧ s.arbiter.inProgress = none ∧ s.arbiter.pointer = 0 ∧
  s.config = { divider := 25, openTimeout := 20, drainLimit := 500, maxLifetime := 0 } ∧ s.now = 0#32 ∧
  (s.port 0).state = .offline ∧ (∀ p : Port, p ≠ 0 → (s.port p).state = .disabled) ∧
  (∀ (p : Port) (k : Fin 128), (s.port p).staging.words[k] = 0#16 ∧ (s.port p).readBuffer.words[k] = 0#16) ∧
  (∀ p : Port,
    (s.port p).staging.pointer = 0 ∧ (s.port p).staging.locked = false ∧ (s.port p).sendUnit = none ∧
    (s.port p).sendOutcome = { outcome := .none, endpoint := 0, link := .channel 0, sequence := 0#16, count := 0 } ∧
    (s.port p).readBuffer.header =
      { endpoint := 0, link := .channel 0, sequence := 0#16, tag := 0#32, length := 0, origin := 0 } ∧
    (s.port p).readBuffer.state = .empty ∧
    (s.port p).readBuffer.pointer = 0 ∧ (s.port p).readBuffer.damaged = false ∧ (s.port p).fetchUnit = none ∧
    (s.port p).fetchOutcome = { outcome := .none, endpoint := 0, link := .channel 0, sequence := 0#16 } ∧
    (s.port p).receipts.queue = [] ∧ (s.port p).receipts.reserved = 0 ∧
    (s.port p).attention.list = [] ∧ (s.port p).attention.nudgers = 0#4 ∧
    (∀ it : Item, (s.port p).attention.sets[it] = 0#16) ∧ (s.port p).notification.state = .quiet ∧
    (s.port p).notification.masked = true ∧ (s.port p).notification.enables = 0x7FFF#16 ∧
    (s.port p).notification.holdoff = 0 ∧ (s.port p).notification.threshold = 1 ∧
    (s.port p).notification.bulkCount = 0 ∧ (s.port p).notification.deadline = none ∧
    (s.port p).account = { blockQuota := 32, recordQuota := 16, chargedBlocks := 0, chargedRecords := 0 } ∧
    (∀ n : Fin 5, s.arg p n = 0#16) ∧ (s.port p).host.result = .ok ∧ (s.port p).host.resultValue = 0#16 ∧
    (s.port p).host.viewSel = 0 ∧ (s.port p).host.timeCapture = 0#32)

/-- The laws hold at reset. -/
def Obligations.LawsHoldAtReset : Prop :=
  State.reset.MemoryLaw ∧ State.reset.AttentionLaw ∧ State.reset.NotificationLaw ∧ State.reset.ReceiptLaw ∧
  State.reset.BlockLaw ∧ State.reset.ChargeLaw ∧ State.reset.RangeLaw ∧ State.reset.LinkLaw ∧ State.reset.Coherent ∧
  State.reset.ReservationLaw

/-! ## Laws that every step keeps -/

/-- Records, queues, channels and groups hold together: the reference count of a record is the number of its holders
(R6); a queue has no more entries than its depth, and each refers to a LIVE record of the endpoint's own channel or
group (R19, R27); an endpoint and its channel or group name each other (R37, R119); credits plus outstanding are the
window, outstanding is the number of the direction's records, and transfers in flight, at most 4, is the number of
the channel's copy-ins and fetches (R36, R114); copy in flight is yes exactly while a copy-in of the group is (R118,
R129). A transfer unit is COPYING exactly while its requester asks for the memory, its next and remaining positions
add up to the blocks of the record it moves, 1 to 8 remain, and it locks the staging buffer or fills the read buffer
while it is not cancelled (R5, R16, R58, R64, R75, R79). A port out of service has no endpoint in use, no condition, no
receipt, no reservation, no outcome, and both units IDLE, each once its share is taken (R147, R154). One law, because
each part needs the others to be kept. -/
def Obligations.CoherenceLawKept : Prop :=
  ∀ s t : State, s.Coherent → step s = .next t → t.Coherent

/-- The message memory keeps its canonical form. -/
def Obligations.MemoryLawKept : Prop :=
  ∀ s t : State, s.MemoryLaw → step s = .next t → t.MemoryLaw

/-- The attention list, the kinds of its items and the nudger set keep their law. -/
def Obligations.AttentionLawKept : Prop :=
  ∀ s t : State, s.AttentionLaw → step s = .next t → t.AttentionLaw

/-- The Notification Unit is QUIET exactly when no enabled condition is set, in every state that a step
reaches. -/
def Obligations.NotificationLawKept : Prop :=
  ∀ s t : State, s.AttentionLaw → s.NotificationLaw → step s = .next t → t.NotificationLaw

/-- Receipts held plus receipts reserved never exceed 16 (R94). While a port is ONLINE, its reservation count is the
number of records that are not FREE, originate there and asked for a receipt; at any other port none is left once the
shares of its reset are taken (R96). -/
def Obligations.ReceiptLawKept : Prop :=
  (∀ s t : State, s.ReceiptLaw → step s = .next t → t.ReceiptLaw) ∧
  ∀ s t : State, s.ReservationLaw → step s = .next t → t.ReservationLaw

/-- Every block stays in exactly one place. -/
def Obligations.BlockLawKept : Prop :=
  ∀ s t : State, s.BlockLaw → step s = .next t → t.BlockLaw

/-- The charges stay what the records charge. -/
def Obligations.ChargeLawKept : Prop :=
  ∀ s t : State, s.ChargeLaw → step s = .next t → t.ChargeLaw

/-- Pointers, quotas and configuration stay in range, and depths, windows, lengths and members do. The ranges that
hold only with the accounts (credits, outstanding, transfers, queue lengths) are in CoherenceLawKept. -/
def Obligations.RangeLawsKept : Prop :=
  (∀ s t : State, s.RangeLaw → step s = .next t → t.RangeLaw) ∧
  (∀ s t : State, s.LinkLaw → step s = .next t → t.LinkLaw)

/-! ## Encoding and frames -/

/-- The bus write of a command, read by the address map, is the command; the exception is a write to one of the four
registers that the port state can make the window ignore. With a few writes and reads written out from the
map. -/
def Obligations.BusWriteRoundTrip : Prop :=
  (∀ (i : Instr) (p : Port) (a : BitVec 7) (w : Word),
    i.wellFormed = true → i.busWrite? = some (p, a, w) →
    ((∀ q b v, i = .ignoredWrite q b v → b ∉ [0x22#7, 0x23#7, 0x2B#7, 0x39#7]) →
      Instr.ofWrite p a w i.atEntry = i) ∧
    (∀ q b v, i = .ignoredWrite q b v → ∀ s : State, exec i s = .next s)) ∧
  (Instr.ofWrite 2 0x05#7 3#16 [] = .send 2 3#16 ∧ Instr.ofWrite 0 0x14#7 1#16 [.attention] = .resetPort 0 1#16 [.attention] ∧
  Instr.ofWrite 1 0x1C#7 9#16 [] = .argWrite 1 2 9#16 ∧ Instr.ofWrite 3 0x22#7 7#16 [] = .stageData 3 7#16 ∧
  Instr.ofWrite 3 0x17#7 7#16 [] = .ignoredWrite 3 0x17#7 7#16 ∧ Instr.ofRead? 1 0x2A#7 = some (.rbData 1) ∧
  Instr.ofRead? 1 0x09#7 = some (.timeLo 1) ∧ Instr.ofRead? 1 0x20#7 = none)

/-- Only a fault, the end of a block transfer and the end of chip reset change a byte of the message memory or
a check code. ARG registers change only by ARG_WRITE of their port, RESULT and RESULT_VALUE only by commands of
their port. -/
def Obligations.MemoryAndResultFrames : Prop :=
  (∀ (i : Instr) (s t : State), i.reachesMemory = false → exec i s = .next t → s.SameMemory t) ∧
  (∀ (i : Instr) (s t : State) (q : Port), exec i s = .next t → i ≠ .chipResetRelease →
    ((∀ n w, i ≠ .argWrite q n w) → (t.port q).host.args = (s.port q).host.args) ∧
    (i.strobe? ≠ some q →
      (t.port q).host.result = (s.port q).host.result ∧ (t.port q).host.resultValue = (s.port q).host.resultValue))

/-- The commands that start, end or move no message leave the records, the block places, the arbiter, the
message memory, the clock and every port's buffers, transfer units and outcomes alone. -/
def Obligations.EstablishmentFrame : Prop :=
  ∀ (p : Port) (w : Word) (s t : State) (i : Instr),
    i ∈ [.listen p w, .openChannel p w, .accept p w, .reject p w, .create p w, .policy p w, .join p w, .ack p w,
      .popReceipt p w, .nudge p w, .notifySet p w, .mask p w, .online p w, .enablePort p w, .setQuota p w] →
    exec i s = .next t →
    s.SamePool t ∧ s.SameMemory t ∧ s.SameClock t ∧ s.SameTransfers t

/-- A command whose RESULT is not OK has changed nothing but RESULT and RESULT_VALUE. -/
def Obligations.RefusedCommandChangesOnlyResult : Prop :=
  ∀ (i : Instr) (p : Port) (s t : State), i.strobe? = some p → s.chipReset = false → exec i s = .next t →
    (t.port p).host.result ≠ .ok → t = s.setResult p (t.port p).host.result 0#16

/-- What a port takes in each state: NOT_ONLINE and DENIED come before every other check. -/
def Obligations.OutOfServiceRefusals : Prop :=
  ∀ (i : Instr) (p : Port) (s : State), i.strobe? = some p → s.chipReset = false →
    (i.isManagement = true → p ≠ 0 → exec i s = .next (s.setResult p .denied 0#16)) ∧
    (i.isManagement = true → p = 0 → (s.port 0).state.isResetting = true →
      exec i s = .next (s.setResult p .notOnline 0#16)) ∧
    (i.isManagement = false → i.isLifecycle = false → s.online p = false →
      exec i s = .next (s.setResult p .notOnline 0#16)) ∧
    (i.isLifecycle = true → (s.port p).state = .disabled ∨ (s.port p).state.isResetting = true →
      exec i s = .next (s.setResult p .notOnline 0#16))

/-! ## Endpoints and channel establishment -/

/-- LISTEN: the checks in order; accepted, the endpoint is LISTENING with the filter, and nothing else changes but
the result. -/
def Obligations.ListenSetsFilter : Prop :=
  ∀ (p : Port) (w : Word) (s : State), s.chipReset = false →
    ResultsInOrder (.listen p w) p s
      (fun t =>
        t = (s.setRole (endpointOf p w)
          (.listening (if (s.arg p 0).toNat = 4 then .any else .port (portOfWord (s.arg p 0))))).setResult p .ok 0#16)
      [(s.online p = false, .notOnline),
        (7 < w.toNat, .badEndpoint),
        (4 < (s.arg p 0).toNat, .badArg),
        (s.role (endpointOf p w) ≠ .idle ∧ ∀ f, s.role (endpointOf p w) ≠ .listening f, .wrongState)]

/-- OPEN: the checks in order; accepted, the lowest FREE channel is REQUESTED with its open deadline, the caller
CALLING, the target OFFERED with REQUEST set, and RESULT_VALUE the channel. -/
def Obligations.OpenPlacesRequest : Prop :=
  ∀ (p : Port) (w : Word) (s : State), s.chipReset = false →
    let a := endpointOf p w
    let b := globalEndpointOf (s.arg p 0)
    let o : Offer :=
      { window := (s.arg p 1).toNat, maxLength := (s.arg p 2).toNat,
        options := { rcpt := (s.arg p 3).getLsbD 0, expire := (s.arg p 3).getLsbD 1 } }
    ResultsInOrder (.openChannel p w) p s
      (fun t =>
        ∃ (c : ChanId) (f : Filter), s.channel c = .free ∧ (∀ c' < c, s.channel c' ≠ .free) ∧
          s.role b = .listening f ∧
          t =
            ((((s.setChannel c
                (.requested a b o (s.now + BitVec.ofNat 32 (1000 * s.config.openTimeout)))).setRole a
                (.calling c b)).setRole b (.offered c a f o)).setEndpointCond b .request).setResult p .ok
              (BitVec.ofNat 16 c.val))
      [(s.online p = false, .notOnline),
        (7 < w.toNat, .badEndpoint),
        (31 < (s.arg p 0).toNat ∨ b = a, .badEndpoint),
        ((s.arg p 1).toNat = 0 ∨ 8 < (s.arg p 1).toNat, .badArg),
        (256 < (s.arg p 2).toNat, .badArg),
        (s.arg p 3 &&& ~~~3#16 ≠ 0#16, .badArg),
        (s.role a ≠ .idle, .wrongState),
        (s.online (portOf b) = false, .peerDown),
        (∀ f, s.role b ≠ .listening f, .notListening),
        (∃ q, s.role b = .listening (.port q) ∧ q ≠ p, .filtered),
        (∀ c, s.channel c ≠ .free, .noChannel)]

/-- ACCEPT: the checks in order; accepted on a REQUESTED channel, the channel is OPEN on the settled terms with full
credits, both ends are CONNECTED with empty queues, and OPENED is set at the caller. -/
def Obligations.AcceptOpensChannel : Prop :=
  ∀ (p : Port) (w : Word) (s : State), s.chipReset = false →
    let b := endpointOf p w
    ResultsInOrder (.accept p w) p s
      (fun t =>
        ∀ c a f o o' d, s.role b = .offered c a f o → s.channel c = .requested a b o' d →
          let toCallee : Direction :=
            { window := (s.arg p 0).toNat, credits := (s.arg p 0).toNat, outstanding := 0, nextSequence := 0#16 }
          let toCaller : Direction :=
            { window := o'.window, credits := o'.window, outstanding := 0, nextSequence := 0#16 }
          let l : LiveChannel :=
            { caller := a, callee := b, maxLength := min o'.maxLength (s.arg p 1).toNat,
              options :=
                { rcpt := o'.options.rcpt && (s.arg p 2).getLsbD 0,
                  expire := o'.options.expire && (s.arg p 2).getLsbD 1 },
              toCallee := toCallee, toCaller := toCaller, transfers := 0 }
          t =
            ((((s.setChannel c (.opened l)).setRole a (.connected c b [] o'.window)).setRole b
                (.connected c a [] (s.arg p 0).toNat)).setEndpointCond a .opened).setResult p .ok
              (BitVec.ofNat 16 c.val))
      [(s.online p = false, .notOnline),
        (7 < w.toNat, .badEndpoint),
        ((s.arg p 0).toNat = 0 ∨ 8 < (s.arg p 0).toNat, .badArg),
        (256 < (s.arg p 1).toNat, .badArg),
        (s.arg p 2 &&& ~~~3#16 ≠ 0#16, .badArg),
        (∀ c a f o, s.role b = .offered c a f o → s.online (portOf a) = false, .notOffered)]

/-- REJECT: the checks in order; accepted, the channel is FREE, the callee LISTENING with its filter, the caller
IDLE with open outcome REJECTED, the code, and OPEN_FAILED. -/
def Obligations.RejectFreesChannel : Prop :=
  ∀ (p : Port) (w : Word) (s : State), s.chipReset = false →
    let b := endpointOf p w
    ResultsInOrder (.reject p w) p s
      (fun t =>
        ∀ c a f o, s.role b = .offered c a f o →
          t =
            (((((s.setChannel c .free).setRole b (.listening f)).setRole a .idle).modEndpoint a fun x =>
                { x with openOutcome := .rejected (s.arg p 0) }).setEndpointCond a .openFailed).setResult p .ok 0#16)
      [(s.online p = false, .notOnline),
        (7 < w.toNat, .badEndpoint),
        (∀ c a f o, s.role b = .offered c a f o → s.online (portOf a) = false, .notOffered)]

/-- CLOSE: the checks in order; on a LISTENING, OFFERED or CALLING endpoint the mode is not used, and the endpoint
goes to IDLE: its filter removed, its request refused with code 0, or its request withdrawn. At an end of a
request whose port is ONLINE the outcome and the condition are written, and a withdrawn callee listens again
with REQUEST cleared; an end whose port is not ONLINE is IDLE with nothing written. -/
def Obligations.CloseBeforeConnection : Prop :=
  (∀ (p : Port) (w : Word) (s : State), s.chipReset = false →
    let e := endpointOf p w
    ResultsInOrder (.close p w) p s
      (fun t =>
        (∀ f, s.role e = .listening f → t = (s.setRole e .idle).setResult p .ok 0#16) ∧
        (∀ c a f o, s.role e = .offered c a f o →
          t = (((s.setChannel c .free).setRole e .idle).failCaller a (.rejected 0#16)).setResult p .ok 0#16) ∧
        (∀ c b, s.role e = .calling c b → s.online (portOf b) = true →
          t =
            ((((s.setChannel c .free).setRole e .idle).withdrawCallee b .callerClosed).reevaluate
              (portOf b)).setResult p .ok 0#16) ∧
        (∀ c b, s.role e = .calling c b → s.online (portOf b) = false →
          t = (((s.setChannel c .free).setRole e .idle).setRole b .idle).setResult p .ok 0#16))
      [(s.online p = false, .notOnline),
        (7 < w.toNat, .badEndpoint),
        (1 < (s.arg p 0).toNat, .badArg),
        (s.role e = .idle, .wrongState)]) ∧
  (∀ (s : State) (a b : EpId) (o : OpenOutcome) (v : WithdrawOutcome) (c : ChanId) (e : EpId) (f : Filter) (r : Offer),
    (s.online (portOf a) = true →
      s.failCaller a o =
        ((s.setRole a .idle).modEndpoint a fun x => { x with openOutcome := o }).setEndpointCond a .openFailed) ∧
    (s.online (portOf a) = false → s.failCaller a o = s.setRole a .idle) ∧
    (s.online (portOf b) = true → s.role b = .offered c e f r →
      s.withdrawCallee b v =
        (((s.setRole b (.listening f)).modEndpoint b fun x => { x with withdrawOutcome := v }).setEndpointCond b
            .withdrawn).removeConds (portOf b) (itemOf (localOf b)) Cond.request.only) ∧
    (s.online (portOf b) = false → s.withdrawCallee b v = s.setRole b .idle))

/-! ## Closing a channel -/

/-- The first graceful CLOSE on an OPEN channel: when nothing of the channel remains, it is FREE, both ends are IDLE
and both receive COMPLETE and CLOSED, the caller first; else it is DRAINING with the closing side among the
closers and its drain deadline, both ends are CLOSING, and the other end receives PEER_CLOSING. -/
def Obligations.GracefulCloseBeginsDrain : Prop :=
  ∀ (p : Port) (w : Word) (s : State) (c : ChanId) (peer : EpId) (q : List RecId) (n : Nat) (l : LiveChannel),
    let e := endpointOf p w
    s.chipReset = false → s.online p = true → w.toNat ≤ 7 → s.arg p 0 = 0#16 →
    s.role e = .connected c peer q n → s.channel c = .opened l → l.caller ≠ l.callee →
    e = l.caller ∨ e = l.callee →
    let drained := s.online (portOf l.caller) = true ∧ s.online (portOf l.callee) = true ∧
      (s.role l.caller).queue = [] ∧ (s.role l.callee).queue = [] ∧ l.transfers = 0
    let done (u : State) (x : EpId) : State :=
      (u.modEndpoint x fun y => { y with closeOutcome := .complete, discarded := 0 }).setEndpointCond x .closed
    (drained →
      exec (.close p w) s =
        .next
          ((done (done (((s.setChannel c .free).setRole l.caller .idle).setRole l.callee .idle) l.caller)
            l.callee).setResult p .ok 0#16)) ∧
    (¬drained →
      exec (.close p w) s =
        .next
          (((((s.setChannel c
              (.draining l { caller := decide (e = l.caller), callee := decide (e ≠ l.caller) }
                (if s.config.drainLimit = 0 then none
                else some (s.now + BitVec.ofNat 32 (1000 * s.config.drainLimit))))).setRole l.caller
              (s.role l.caller).startClosing).setRole l.callee (s.role l.callee).startClosing).setEndpointCond
              (if e = l.caller then l.callee else l.caller) .peerClosing).setResult p .ok 0#16))

/-- A graceful CLOSE on a DRAINING channel adds its side to the closers and tells the other end, once; the
deadline and the endpoints stay. -/
def Obligations.GracefulCloseJoinsDrain : Prop :=
  ∀ (p : Port) (w : Word) (s : State) (c : ChanId) (peer : EpId) (q : List RecId) (n : Nat) (l : LiveChannel)
    (cl : Closers) (d : Option Time),
    let e := endpointOf p w
    s.chipReset = false → s.online p = true → w.toNat ≤ 7 → s.arg p 0 = 0#16 →
    s.role e = .closing c peer q n → s.channel c = .draining l cl d →
    (e = l.caller → cl.caller = true → exec (.close p w) s = .next (s.setResult p .ok 0#16)) ∧
    (e = l.caller → cl.caller = false →
      exec (.close p w) s =
        .next
          (((s.setChannel c (.draining l { cl with caller := true } d)).setEndpointCond l.callee .peerClosing).setResult
            p .ok 0#16)) ∧
    (e ≠ l.caller → cl.callee = true → exec (.close p w) s = .next (s.setResult p .ok 0#16)) ∧
    (e ≠ l.caller → cl.callee = false →
      exec (.close p w) s =
        .next
          (((s.setChannel c (.draining l { cl with callee := true } d)).setEndpointCond l.caller .peerClosing).setResult
            p .ok 0#16))

/-- An abortive CLOSE on an OPEN or DRAINING channel tears it down, with ABORTED_LOCAL at the closing end and
ABORTED_BY_PEER at the other. A teardown leaves the channel ABORTING while transfers are in flight and else FREE,
both ends IDLE with their queues discarded, the outcome, the discarded count and CLOSED at each end whose port is
ONLINE, and nothing written at an end whose port is not; a record it discards hands off its receipt of cause
DISCARDED. -/
def Obligations.AbortTearsDown : Prop :=
  (∀ (p : Port) (w : Word) (s : State) (c : ChanId) (peer : EpId) (q : List RecId) (n : Nat) (l : LiveChannel)
    (cl : Closers) (d : Option Time),
    let e := endpointOf p w
    let atCaller : CloseOutcome := if e = l.caller then .abortedLocal else .abortedByPeer
    let atCallee : CloseOutcome := if e = l.caller then .abortedByPeer else .abortedLocal
    s.chipReset = false → s.online p = true → w.toNat ≤ 7 → s.arg p 0 = 1#16 →
    (s.role e = .connected c peer q n → s.channel c = .opened l →
      exec (.close p w) s =
        .next ((s.teardownLive c l { caller := false, callee := false } atCaller atCallee).setResult p .ok 0#16)) ∧
    (s.role e = .closing c peer q n → s.channel c = .draining l cl d →
      exec (.close p w) s = .next ((s.teardownLive c l cl atCaller atCallee).setResult p .ok 0#16))) ∧
  (∀ (s : State) (c : ChanId) (l : LiveChannel) (cl : Closers) (o o' : CloseOutcome), l.caller ≠ l.callee →
    let t := s.teardownLive c l cl o o'
    t.channel c = (if l.transfers = 0 then .free else .aborting l.caller l.callee cl l.transfers) ∧
    (∀ x, x ≠ c → t.channel x = s.channel x) ∧ t.groups = s.groups ∧ t.arbiter = s.arbiter ∧
    s.SameMemory t ∧ s.SameClock t ∧ s.SameTransfers t ∧
    (∀ x, x ≠ l.caller → x ≠ l.callee → t.endpoint x = s.endpoint x) ∧
    t.endpoint l.caller =
      (if s.online (portOf l.caller) = true then
        { s.endpoint l.caller with
          role := .idle, closeOutcome := o, discarded := (s.role l.caller).queue.length }
      else { s.endpoint l.caller with role := .idle }) ∧
    t.endpoint l.callee =
      (if s.online (portOf l.callee) = true then
        { s.endpoint l.callee with
          role := .idle, closeOutcome := o', discarded := (s.role l.callee).queue.length }
      else { s.endpoint l.callee with role := .idle }) ∧
    (s.online (portOf l.caller) = true → t.HasCond (portOf l.caller) (itemOf (localOf l.caller)) .closed) ∧
    (s.online (portOf l.callee) = true → t.HasCond (portOf l.callee) (itemOf (localOf l.callee)) .closed) ∧
    (∀ (r : RecId) (m : Message), r ∈ (s.role l.caller).queue ++ (s.role l.callee).queue →
      (s.record r).message? = some m → m.count ≤ 1 → t.record r = .free) ∧
    (∀ r : RecId, r ∉ (s.role l.caller).queue ++ (s.role l.callee).queue → t.record r = s.record r) ∧
    s.HandedOff t (s.discardReceipts ((s.role l.caller).queue ++ (s.role l.callee).queue)))

/-! ## Sending -/

/-- SEND: every check in order, those before the channel's and, on an OPEN channel, the channel's and the allocation
tests; accepted with one block or more, a FREE record holds the message as FILLING, one credit is spent, the
sequence number is consumed and returned, the transfer counts, the staging buffer is LOCKED and the copy-in
begins. -/
def Obligations.SendBeginsCopyIn : Prop :=
  (∀ (p : Port) (w : Word) (s : State), s.chipReset = false →
    let e := endpointOf p w
    ResultsInOrder (.send p w) p s (fun _ => True)
      [(s.online p = false, .notOnline),
        ((s.port p).sendUnit ≠ none, .busy),
        (7 < w.toNat, .badEndpoint),
        (256 < (s.arg p 0).toNat ∨ s.arg p 3 &&& ~~~1#16 ≠ 0#16, .badArg),
        (∃ c x q d, s.role e = .closing c x q d, .closing),
        (∀ c x q d, s.role e ≠ .connected c x q d, .wrongState)]) ∧
  (∀ (p : Port) (w : Word) (s : State) (c : ChanId) (x : EpId) (q : List RecId) (n : Nat) (l : LiveChannel),
    let e := endpointOf p w
    let len := (s.arg p 0).toNat
    let d := l.sendingFrom e
    s.chipReset = false → s.online p = true → (s.port p).sendUnit = none → w.toNat ≤ 7 → len ≤ 256 →
    s.arg p 3 &&& ~~~1#16 = 0#16 → s.role e = .connected c x q n → s.channel c = .opened l →
    ResultsInOrder (.send p w) p s
      (fun t =>
        0 < len →
        ∃ (r : RecId) (bs : List BlockId), s.record r = .free ∧ bs.length = (len + 31) / 32 ∧ bs.Nodup ∧
          (∀ b ∈ bs, s.blockPlaces[b] = .free) ∧
          t =
            (((s.accepted p r
                { origin := e, link := .channel c d, sequence := (l.direction d).nextSequence,
                  tag := s.arg p 2 ++ s.arg p 1, length := len, blocks := bs, badMarks := [],
                  receiptRequested := (s.arg p 3).getLsbD 0, count := 1, damaged := false,
                  tallies := { fetched := 0, expired := 0, discarded := 0, skipped := 0 } }).setChannel c
                (.opened
                  { l.modDirection d fun y =>
                      { y with
                        credits := y.credits - 1
                        outstanding := y.outstanding + 1
                        nextSequence := y.nextSequence + 1#16 } with
                    transfers := l.transfers + 1 })).copyInBegun p
                { record := r, kind := .channel, next := 0, remaining := (len + 31) / 32,
                  lifetime := effectiveLifetime l.options.expire s.config.maxLifetime (s.arg p 4).toNat,
                  cancelled := false }).setResult p .ok (l.direction d).nextSequence)
      [(l.maxLength < len, .tooLong),
        ((s.arg p 3).getLsbD 0 = true ∧ l.options.rcpt = false ∨ s.arg p 4 ≠ 0#16 ∧ l.options.expire = false, .notAgreed),
        ((l.direction d).credits = 0, .noCredit),
        ((s.arg p 3).getLsbD 0 = true ∧ 16 ≤ (s.port p).receipts.queue.length + (s.port p).receipts.reserved,
          .noReceiptSpace),
        ((s.port p).account.recordQuota < (s.port p).account.chargedRecords + 1, .overQuota),
        ((s.port p).account.blockQuota < (s.port p).account.chargedBlocks + (len + 31) / 32, .overQuota),
        (∀ r, s.record r ≠ .free, .noRecord),
        (((List.finRange 128).filter fun b => s.blockPlaces[b] = .free).length < (len + 31) / 32, .noBlocks)])

/-- An accepted SEND of length 0 completes in its own event: with the receiving port ONLINE the record is LIVE in the
receiving queue, with ARRIVAL, DELIVERED and SEND_DONE; with the receiving port not ONLINE the record is gone
again, the credit is back, the sequence number stays consumed, and the outcome is DISCARDED. -/
def Obligations.SendOfLengthZeroCompletes : Prop :=
  ∀ (p : Port) (w : Word) (s : State) (c : ChanId) (x : EpId) (q : List RecId) (n : Nat) (l : LiveChannel),
    let e := endpointOf p w
    let d := l.sendingFrom e
    let y := l.direction d
    s.chipReset = false → s.online p = true → (s.port p).sendUnit = none → w.toNat ≤ 7 → s.arg p 0 = 0#16 →
    s.arg p 3 &&& ~~~1#16 = 0#16 → s.role e = .connected c x q n → s.channel c = .opened l →
    ((s.arg p 3).getLsbD 0 = true →
      l.options.rcpt = true ∧ (s.port p).receipts.queue.length + (s.port p).receipts.reserved < 16) →
    (s.arg p 4 ≠ 0#16 → l.options.expire = true) → y.credits ≠ 0 →
    (s.port p).account.chargedRecords + 1 ≤ (s.port p).account.recordQuota →
    (s.port p).account.chargedBlocks ≤ (s.port p).account.blockQuota → (∃ r, s.record r = .free) →
    ∃ t, exec (.send p w) s = .next t ∧ (t.port p).host.result = .ok ∧ (t.port p).host.resultValue = y.nextSequence ∧
      (t.port p).sendUnit = none ∧ (t.port p).staging = { (s.port p).staging with locked := false, pointer := 0 } ∧
      t.blockPlaces = s.blockPlaces ∧ t.groups = s.groups ∧ s.SameMemory t ∧ s.SameClock t ∧
      (∀ k, k ≠ c → t.channel k = s.channel k) ∧ t.HasCond p portItem .sendDone ∧
      (s.online (portOf (l.receiver d)) = true →
        t.channel c =
            .opened
              (l.modDirection d fun _ =>
                { y with
                  credits := y.credits - 1, outstanding := y.outstanding + 1, nextSequence := y.nextSequence + 1#16 }) ∧
          (t.port p).sendOutcome =
            { outcome := .delivered, endpoint := localOf e, link := .channel c, sequence := y.nextSequence, count := 1 } ∧
          t.HasCond (portOf (l.receiver d)) (itemOf (localOf (l.receiver d))) .arrival ∧
          (t.port p).receipts =
            { (s.port p).receipts with
              reserved := (s.port p).receipts.reserved + if (s.arg p 3).getLsbD 0 then 1 else 0 } ∧
          ∃ r, s.record r = .free ∧
            t.record r =
              .live
                { origin := e, link := .channel c d, sequence := y.nextSequence, tag := s.arg p 2 ++ s.arg p 1, length := 0,
                  blocks := [], badMarks := [], receiptRequested := (s.arg p 3).getLsbD 0, count := 1, damaged := false,
                  tallies := { fetched := 0, expired := 0, discarded := 0, skipped := 0 } }
                (s.deadlineFor (effectiveLifetime l.options.expire s.config.maxLifetime (s.arg p 4).toNat)) ∧
            t.role (l.receiver d) = (s.role (l.receiver d)).withQueue ((s.role (l.receiver d)).queue ++ [r])) ∧
      (s.online (portOf (l.receiver d)) = false →
        t.channel c = .opened (l.modDirection d fun _ => { y with nextSequence := y.nextSequence + 1#16 }) ∧
          (t.port p).sendOutcome =
            { outcome := .discarded, endpoint := localOf e, link := .channel c, sequence := y.nextSequence, count := 0 } ∧
          t.records = s.records ∧ t.endpoints = s.endpoints ∧ (t.port p).account = (s.port p).account ∧
          (t.port p).receipts =
            (if (s.arg p 3).getLsbD 0 then
              { (s.port p).receipts with
                queue :=
                  (s.port p).receipts.queue ++
                    [{ endpoint := localOf e, link := .channel c, sequence := y.nextSequence, tag := s.arg p 2 ++ s.arg p 1,
                        outcome := .discarded, damaged := false }] }
            else (s.port p).receipts))

/-! ## Fetching -/

/-- FETCH: the checks in order; accepted on a message of one block or more, the head entry leaves the queue, the read
buffer is cleared, FILLING and holds the header, a CHANNEL message counts in its channel's transfers, the
copy-out begins, and RESULT_VALUE is the length. On a message of length 0 the completion follows in the same
event and the Fetch Unit stays IDLE. -/
def Obligations.FetchBeginsCopyOut : Prop :=
  (∀ (p : Port) (w : Word) (s : State), s.chipReset = false →
    let e := endpointOf p w
    ResultsInOrder (.fetch p w) p s
      (fun t =>
        ∀ (r : RecId) (rest : List RecId) (m : Message), (s.role e).queue = r :: rest →
          (s.record r).message? = some m → 0 < m.length →
          let s1 := s.setRole e ((s.role e).withQueue rest)
          let s2 := match m.link with
            | .channel c _ => s1.setChannel c ((s1.channel c).mapLive fun l => { l with transfers := l.transfers + 1 })
            | .group _ => s1
          t =
            (((s2.modPort p fun x =>
                { x with
                  readBuffer :=
                    { words := Vector.replicate 128 0#16, pointer := 0, state := .filling, damaged := false,
                      header :=
                        { endpoint := localOf e, link := m.link.toLinkId, sequence := m.sequence, tag := m.tag,
                          length := m.length, origin := m.origin } }
                  fetchUnit :=
                    some
                      { record := r, endpoint := localOf e, next := 0, remaining := (m.length + 31) / 32,
                        cancelled := false } }).placeRequest (fetchRequester p)).grant).setResult p .ok
              (BitVec.ofNat 16 m.length))
      [(s.online p = false, .notOnline),
        ((s.port p).fetchUnit ≠ none, .busy),
        (7 < w.toNat, .badEndpoint),
        ((∀ c x q d, s.role e ≠ .connected c x q d) ∧ (∀ c x q d, s.role e ≠ .closing c x q d) ∧
          ∀ g q d, s.role e ≠ .member g q d, .wrongState),
        ((s.role e).queue = [], .empty)]) ∧
  (∀ (p : Port) (w : Word) (s : State) (r : RecId) (rest : List RecId) (m : Message),
    let e := endpointOf p w
    s.chipReset = false → s.online p = true → (s.port p).fetchUnit = none → w.toNat ≤ 7 →
    (s.role e).canFetch = true → (s.role e).queue = r :: rest → (s.record r).message? = some m → m.length = 0 →
    exec (.fetch p w) s =
      .next
        ((((s.setRole e ((s.role e).withQueue rest)).modPort p fun x =>
            { x with
              readBuffer :=
                { words := Vector.replicate 128 0#16, pointer := 0, state := .filling, damaged := false,
                  header :=
                    { endpoint := localOf e, link := m.link.toLinkId, sequence := m.sequence, tag := m.tag,
                      length := 0, origin := m.origin } } }).completeFetch p (localOf e) r false).setResult p .ok 0#16))

/-- The end of a fetch: the read buffer FULL, the fetch outcome and FETCH_DONE, one holder less of the record, its
release with the last one and its receipt of cause FETCHED, the Fetch Unit IDLE, and for a CHANNEL message the credit,
the transfer and the drain completion test of an OPEN, DRAINING or ABORTING channel. `counted` is no for a message of
length 0. -/
def Obligations.FetchCompletion : Prop :=
  ∀ (s : State) (p : Port) (e : EpIndex) (r : RecId) (m : Message) (dl : Option Time) (counted : Bool),
    s.record r = .live m dl → s.online p = true →
    let t := s.completeFetch p e r counted
    (t.port p).readBuffer = { (s.port p).readBuffer with state := .full } ∧ (t.port p).fetchUnit = none ∧
    (t.port p).fetchOutcome =
      { outcome := if (s.port p).readBuffer.damaged then .damaged else .ok, endpoint := e, link := m.link.toLinkId,
        sequence := m.sequence } ∧
    t.HasCond p portItem .fetchDone ∧ s.SameMemory t ∧ t.groups = s.groups ∧ t.arbiter = s.arbiter ∧
    (∀ r', r' ≠ r → t.record r' = s.record r') ∧
    (1 < m.count → t.record r = .live (m.ended 1 .fetched) dl ∧ t.blockPlaces = s.blockPlaces) ∧
    (m.count ≤ 1 → t.record r = .free ∧
      (∀ b ∈ m.blocks, t.blockPlaces[b] = if m.badMarks.contains b then .retired else .free) ∧
      ∀ b, b ∉ m.blocks → t.blockPlaces[b] = s.blockPlaces[b]) ∧
    s.HandedOff t (m.receiptAfter 1 .fetched .fetched) ∧
    (∀ c d, m.link = .channel c d → s.MessageEnded t c d counted fun e => (s.role e).queue) ∧
    ∀ g, m.link = .group g → t.channels = s.channels ∧ t.endpoints = s.endpoints

/-! ## Groups -/

/-- CREATE, POLICY and JOIN: the checks of each in order, and the effect of each when accepted. -/
def Obligations.GroupsAreCreatedAndJoined : Prop :=
  ∀ (p : Port) (w : Word) (s : State), s.chipReset = false →
    let e := endpointOf p w
    ResultsInOrder (.create p w) p s
      (fun t =>
        ∃ g : GroupId, s.group g = .free ∧ (∀ g' < g, s.group g' ≠ .free) ∧
          t =
            ((s.setGroup g
                (.active
                  { publisher := e, members := [], policy := .opened, maxLength := (s.arg p 0).toNat,
                    options := { rcpt := (s.arg p 1).getLsbD 0, expire := (s.arg p 1).getLsbD 1 },
                    nextSequence := 0#16, copyInFlight := false })).setRole e (.publisher g)).setResult p .ok
              (BitVec.ofNat 16 g.val))
      [(s.online p = false, .notOnline),
        (7 < w.toNat, .badEndpoint),
        (256 < (s.arg p 0).toNat, .badArg),
        (s.arg p 1 &&& ~~~3#16 ≠ 0#16, .badArg),
        (s.role e ≠ .idle, .wrongState),
        (∀ g, s.group g ≠ .free, .noGroup)] ∧
    ResultsInOrder (.policy p w) p s
      (fun t =>
        ∀ g x, s.role e = .publisher g → s.group g = .active x →
          t =
            (s.setGroup g (.active { x with policy := if s.arg p 0 = 0#16 then .opened else .closed })).setResult p .ok
              0#16)
      [(s.online p = false, .notOnline),
        (7 < w.toNat, .badEndpoint),
        (1 < (s.arg p 0).toNat, .badArg),
        (∀ g, s.role e ≠ .publisher g, .wrongState)] ∧
    ResultsInOrder (.join p w) p s
      (fun t =>
        ∃ x, s.group (groupOfWord (s.arg p 0)) = .active x ∧
          t =
            (((s.setGroup (groupOfWord (s.arg p 0)) (.active { x with members := x.members ++ [e] })).setRole e
                (.member (groupOfWord (s.arg p 0)) [] (s.arg p 1).toNat)).setEndpointCond x.publisher
                .members).setResult p .ok (BitVec.ofNat 16 (x.members.length + 1)))
      [(s.online p = false, .notOnline),
        (7 < w.toNat, .badEndpoint),
        (7 < (s.arg p 0).toNat, .badArg),
        ((s.arg p 1).toNat = 0 ∨ 8 < (s.arg p 1).toNat, .badArg),
        (s.role e ≠ .idle, .wrongState),
        (∀ x, s.group (groupOfWord (s.arg p 0)) = .active x → s.online (portOf x.publisher) = false, .noGroup),
        (∃ x, s.group (groupOfWord (s.arg p 0)) = .active x ∧ 12 ≤ x.members.length, .groupFull),
        (∃ x, s.group (groupOfWord (s.arg p 0)) = .active x ∧ x.policy = .closed, .groupClosed)]

/-- CLOSE on a MEMBER endpoint: it leaves the list and is IDLE with its queue discarded, the receipts of the records
released handed off, and MEMBERS is set at the publisher; no other endpoint and no other group changes. -/
def Obligations.CloseLeavesGroup : Prop :=
  ∀ (p : Port) (w : Word) (s : State) (g : GroupId) (q : List RecId) (n : Nat) (x : ActiveGroup),
    let e := endpointOf p w
    s.chipReset = false → s.online p = true → w.toNat ≤ 7 → (s.arg p 0).toNat ≤ 1 →
    s.role e = .member g q n → s.group g = .active x → q.Nodup →
    ∃ t, exec (.close p w) s = .next t ∧ (t.port p).host.result = .ok ∧ (t.port p).host.resultValue = 0#16 ∧
      t.group g = .active { x with members := x.members.filter (· ≠ e) } ∧ (∀ k, k ≠ g → t.group k = s.group k) ∧
      t.endpoint e = { s.endpoint e with role := .idle } ∧ (∀ k, k ≠ e → t.endpoint k = s.endpoint k) ∧
      t.channels = s.channels ∧ s.SameMemory t ∧ s.SameClock t ∧ s.SameTransfers t ∧ t.arbiter = s.arbiter ∧
      (s.online (portOf x.publisher) = true →
        t.HasCond (portOf x.publisher) (itemOf (localOf x.publisher)) .members) ∧
      s.HandedOff t (s.discardReceipts q) ∧ (∀ r, r ∉ q → t.record r = s.record r) ∧
      ∀ r m dl, r ∈ q → s.record r = .live m dl →
        t.record r = if m.count ≤ 1 then .free else .live (m.ended 1 .discarded) dl

/-- CLOSE on a PUBLISHER endpoint: every member and the publisher are IDLE, the members' queues are discarded with one
claim for each record and the receipts of those released handed off, GROUP_GONE is set at each member whose port is
ONLINE, and the group is DISSOLVING while its copy-in is in flight and else FREE. -/
def Obligations.CloseDissolvesGroup : Prop :=
  ∀ (p : Port) (w : Word) (s : State) (g : GroupId) (x : ActiveGroup),
    let e := endpointOf p w
    let entries := x.members.flatMap fun m => (s.role m).queue
    s.chipReset = false → s.online p = true → w.toNat ≤ 7 → (s.arg p 0).toNat ≤ 1 →
    s.role e = .publisher g → s.group g = .active x → x.publisher = e → e ∉ x.members →
    ∃ t, exec (.close p w) s = .next t ∧ (t.port p).host.result = .ok ∧ (t.port p).host.resultValue = 0#16 ∧
      t.group g = (if x.copyInFlight then .dissolving else .free) ∧ (∀ k, k ≠ g → t.group k = s.group k) ∧
      t.endpoint e = { s.endpoint e with role := .idle } ∧
      (∀ k ∈ x.members, t.endpoint k = { s.endpoint k with role := .idle }) ∧
      (∀ k, k ≠ e → k ∉ x.members → t.endpoint k = s.endpoint k) ∧
      (∀ k ∈ x.members, s.online (portOf k) = true → t.HasCond (portOf k) (itemOf (localOf k)) .groupGone) ∧
      t.channels = s.channels ∧ s.SameMemory t ∧ s.SameClock t ∧ s.SameTransfers t ∧ t.arbiter = s.arbiter ∧
      s.HandedOff t (s.discardReceipts entries) ∧ (∀ r, r ∉ entries → t.record r = s.record r) ∧
      ∀ r m dl, r ∈ entries → s.record r = .live m dl →
        t.record r = if m.count ≤ entries.count r then .free else .live (m.ended (entries.count r) .discarded) dl

/-- PUBLISH: the first checks in order; on an ACTIVE group the group's checks and the allocation tests in order;
accepted with one block or more, the sequence number is consumed and returned, copy in flight is yes, and the
copy-in begins; with length 0 the fan-out follows in the same event. -/
def Obligations.PublishAccepted : Prop :=
  ∀ (p : Port) (w : Word) (s : State), s.chipReset = false →
    let e := endpointOf p w
    let len := (s.arg p 0).toNat
    ResultsInOrder (.publish p w) p s (fun _ => True)
      [(s.online p = false, .notOnline),
        ((s.port p).sendUnit ≠ none, .busy),
        (7 < w.toNat, .badEndpoint),
        (256 < len ∨ s.arg p 3 &&& ~~~1#16 ≠ 0#16, .badArg),
        (∀ g, s.role e ≠ .publisher g, .wrongState)] ∧
    ∀ (g : GroupId) (x : ActiveGroup), s.online p = true → (s.port p).sendUnit = none → w.toNat ≤ 7 → len ≤ 256 →
      s.arg p 3 &&& ~~~1#16 = 0#16 → s.role e = .publisher g → s.group g = .active x →
      let life := effectiveLifetime x.options.expire s.config.maxLifetime (s.arg p 4).toNat
      let x' : ActiveGroup := { x with nextSequence := x.nextSequence + 1#16 }
      ResultsInOrder (.publish p w) p s
        (fun t =>
          ∃ (r : RecId) (bs : List BlockId), s.record r = .free ∧ bs.length = (len + 31) / 32 ∧ bs.Nodup ∧
            (∀ b ∈ bs, s.blockPlaces[b] = .free) ∧
            let m : Message :=
              { origin := e, link := .group g, sequence := x.nextSequence, tag := s.arg p 2 ++ s.arg p 1, length := len,
                blocks := bs, badMarks := [], receiptRequested := (s.arg p 3).getLsbD 0, count := 1, damaged := false,
                tallies := { fetched := 0, expired := 0, discarded := 0, skipped := 0 } }
            t =
              (if 0 < len then
                ((s.accepted p r m).setGroup g (.active { x' with copyInFlight := true })).copyInBegun p
                  { record := r, kind := .group, next := 0, remaining := (len + 31) / 32, lifetime := life,
                    cancelled := false }
              else (((s.accepted p r m).setGroup g (.active x')).fanOut p r m g x' life).sendUnitDone p).setResult p .ok
                x.nextSequence)
        [(x.maxLength < len, .tooLong),
          ((s.arg p 3).getLsbD 0 = true ∧ x.options.rcpt = false ∨ s.arg p 4 ≠ 0#16 ∧ x.options.expire = false,
            .notAgreed),
          ((s.arg p 3).getLsbD 0 = true ∧ 16 ≤ (s.port p).receipts.queue.length + (s.port p).receipts.reserved,
            .noReceiptSpace),
          ((s.port p).account.recordQuota < (s.port p).account.chargedRecords + 1, .overQuota),
          ((s.port p).account.blockQuota < (s.port p).account.chargedBlocks + (len + 31) / 32, .overQuota),
          (∀ r, s.record r ≠ .free, .noRecord),
          (((List.finRange 128).filter fun b => s.blockPlaces[b] = .free).length < (len + 31) / 32, .noBlocks)]

/-- The fan-out of a published message: each member whose port is ONLINE and whose queue has room receives the record
with ARRIVAL, every other is skipped; the record is LIVE with one count for each receiver, or released when there
is none, with its receipt of cause UNDELIVERED; copy in flight is no; and the send outcome is DELIVERED with the number
of receivers. The completion of a GROUP copy-in into an ACTIVE group is the fan-out and the Send Unit's share: IDLE, the
staging buffer unlocked, its pointer 0. Into a DISSOLVING group it releases the record with its receipt of cause
DISCARDED, makes the group FREE, and writes the send outcome DISCARDED with count 0. -/
def Obligations.FanOutReachesMembersWithRoom : Prop :=
  (∀ (s : State) (p : Port) (r : RecId) (m : Message) (g : GroupId) (x : ActiveGroup) (life : Nat),
    s.record r = .filling m → m.count = 1 → s.group g = .active x → x.members.Nodup → s.online p = true →
    let receives (e : EpId) : Prop :=
      e ∈ x.members ∧ s.online (portOf e) = true ∧ (s.role e).queue.length < (s.role e).depth
    let d := (x.members.filter fun e => s.online (portOf e) && decide ((s.role e).queue.length < (s.role e).depth)).length
    let t := s.fanOut p r m g x life
    (∀ e, receives e →
      t.role e = (s.role e).withQueue ((s.role e).queue ++ [r]) ∧ (t.role e).queue = (s.role e).queue ++ [r] ∧
        t.HasCond (portOf e) (itemOf (localOf e)) .arrival) ∧
    (∀ e, ¬receives e → t.endpoint e = s.endpoint e) ∧
    (0 < d →
      t.record r =
        .live { m with count := d, tallies := { m.tallies with skipped := x.members.length - d } } (s.deadlineFor life)) ∧
    (d = 0 → t.record r = .free) ∧ (∀ r', r' ≠ r → t.record r' = s.record r') ∧
    t.group g = .active { x with copyInFlight := false } ∧ (∀ k, k ≠ g → t.group k = s.group k) ∧
    t.channels = s.channels ∧ s.SameMemory t ∧
    (t.port p).sendOutcome =
      { outcome := .delivered, endpoint := localOf m.origin, link := m.link.toLinkId, sequence := m.sequence,
        count := d } ∧
    t.HasCond p portItem .sendDone ∧
    s.HandedOff t fun q =>
      if d = 0 then
        ({ m with tallies := { m.tallies with skipped := x.members.length } } : Message).receiptAt .undelivered q
      else []) ∧
  ∀ (s : State) (p : Port) (r : RecId) (m : Message) (g : GroupId) (life : Nat) (counted : Bool),
    s.record r = .filling m → m.link = .group g →
    let t := s.completeCopyIn p r life counted
    (∀ x, s.group g = .active x →
      t =
        (s.fanOut p r m g x life).modPort p fun y =>
          { y with sendUnit := none, staging := { y.staging with locked := false, pointer := 0 } }) ∧
    (s.group g = .dissolving → m.count = 1 → s.online p = true →
      s.Released t r m ∧ s.HandedOff t (m.receiptAt .discarded) ∧ t.group g = .free ∧
      (∀ k, k ≠ g → t.group k = s.group k) ∧ t.channels = s.channels ∧ t.endpoints = s.endpoints ∧ s.SameMemory t ∧
      t.arbiter = s.arbiter ∧ (t.port p).sendUnit = none ∧
      (t.port p).staging = { (s.port p).staging with locked := false, pointer := 0 } ∧
      (t.port p).sendOutcome =
        { outcome := .discarded, endpoint := localOf m.origin, link := .group g, sequence := m.sequence, count := 0 } ∧
      t.HasCond p portItem .sendDone)

/-! ## Receipts, attention and notification -/

/-- ACK and POP_RECEIPT: the checks of each in order, and the effect of each when accepted. -/
def Obligations.AckAndPopReceipt : Prop :=
  ∀ (p : Port) (w : Word) (s : State), s.chipReset = false →
    ResultsInOrder (.ack p w) p s
      (fun t =>
        let it := itemOfWord w
        let a := (s.port p).attention
        let left := a.sets[it] &&& ~~~(s.arg p 0)
        let a' : Attention :=
          { sets := a.sets.set it left
            list := if left = 0#16 then a.list.filter (· ≠ it) else a.list
            nudgers := if it = portItem ∧ s.arg p 0 &&& Cond.nudge.only ≠ 0#16 then 0#4 else a.nudgers }
        t =
          (s.modPort p fun x =>
            { x with
              attention := a'
              notification :=
                if a'.anyEnabled x.notification.enables then x.notification
                else { x.notification with state := .quiet, bulkCount := 0, deadline := none } }).setResult p .ok left)
      [(s.online p = false, .notOnline),
        (8 < w.toNat, .badArg),
        (s.arg p 0 &&& ~~~(if w = 8#16 then 0x7E00#16 else 0x01FF#16) ≠ 0#16, .badArg)] ∧
    ResultsInOrder (.popReceipt p w) p s
      (fun t =>
        ∃ rc rest, (s.port p).receipts.queue = rc :: rest ∧
          t =
            (s.modPort p fun x => { x with receipts := { x.receipts with queue := rest } }).setResult p .ok
              (BitVec.ofNat 16 rest.length))
      [(s.online p = false, .notOnline), ((s.port p).receipts.queue = [], .empty)]

/-- NUDGE: the checks in order; accepted, the issuing port joins the target's nudger set and NUDGE is set there. -/
def Obligations.NudgeSetsNudgerAndCondition : Prop :=
  ∀ (p : Port) (w : Word) (s : State), s.chipReset = false →
    let q := portOfWord w
    ResultsInOrder (.nudge p w) p s
      (fun t =>
        t =
          ((s.modPort q fun x =>
              { x with
                attention := { x.attention with nudgers := x.attention.nudgers ||| (1#4 <<< p.val) } }).setPortCond q
              .nudge).setResult p .ok 0#16)
      [(s.online p = false, .notOnline), (3 < w.toNat ∨ q = p, .badArg), (s.online q = false, .peerDown)]

/-- A setting of a condition at an ONLINE port joins the item's set, lists an item whose set was empty at the tail,
and acts on the Notification Unit by its class; at a port that is not ONLINE it is dropped. -/
def Obligations.SettingOfCondition : Prop :=
  ∀ (s : State) (p : Port) (it : Item) (c : Cond),
    (s.online p = false → s.setCond p it c = s) ∧
    (s.online p = true →
      let a := (s.port p).attention
      let n := (s.port p).notification
      let raised : Notification := { n with state := .raised, bulkCount := 0, deadline := none }
      s.setCond p it c =
        s.modPort p fun x =>
          { x with
            attention :=
              { a with
                sets := a.sets.set it (a.sets[it] ||| c.only)
                list := if a.sets[it] = 0#16 then a.list ++ [it] else a.list }
            notification :=
              if n.enables &&& c.only = 0#16 ∨ n.state = .raised then n
              else if c ∉ [.arrival, .sendDone, .fetchDone, .receipt] then raised
              else if n.state = .quiet then
                if n.holdoff = 0 ∨ n.threshold = 1 then raised
                else
                  { n with
                    state := .gathering, bulkCount := 1, deadline := some (s.now + BitVec.ofNat 32 n.holdoff) }
              else if n.threshold ≤ n.bulkCount + 1 then raised
              else { n with bulkCount := n.bulkCount + 1 } })

/-- NOTIFY_SET and MASK: the checks of each in order; accepted, the settings are replaced and the unit re-evaluates
against them, or the mask is written. The line is active exactly when the unit is RAISED, the mask clear, the
port ONLINE and chip reset not asserted. -/
def Obligations.NotificationSettingsAndLine : Prop :=
  (∀ (p : Port) (w : Word) (s : State), s.chipReset = false →
    ResultsInOrder (.notifySet p w) p s
      (fun t =>
        let a := (s.port p).attention
        let n := (s.port p).notification
        let n' : Notification :=
          { n with enables := w, holdoff := (s.arg p 0).toNat, threshold := (s.arg p 1).toNat }
        t =
          (s.modPort p fun x =>
            { x with
              notification :=
                if a.anyEnabled w = false then { n' with state := .quiet, bulkCount := 0, deadline := none }
                else if n.state = .raised then n'
                else if n.state = .quiet ∨ a.anyEnabled (w &&& 0x71FE#16) = true ∨ n'.threshold ≤ n.bulkCount ∨
                    n'.holdoff = 0 then
                  { n' with state := .raised, bulkCount := 0, deadline := none }
                else n' }).setResult p .ok 0#16)
      [(s.online p = false, .notOnline),
        (w &&& ~~~0x7FFF#16 ≠ 0#16, .badArg),
        (1023 < (s.arg p 0).toNat, .badArg),
        ((s.arg p 1).toNat = 0 ∨ 16 < (s.arg p 1).toNat, .badArg)]) ∧
  ((∀ (p : Port) (w : Word) (s : State), s.chipReset = false →
    ResultsInOrder (.mask p w) p s
      (fun t =>
        t =
          (s.modPort p fun x =>
            { x with notification := { x.notification with masked := decide (w = 1#16) } }).setResult p .ok 0#16)
      [(s.online p = false, .notOnline), (1 < w.toNat, .badArg)]) ∧
  ∀ (s : State) (p : Port),
    s.lineActive p = true ↔
      (s.port p).notification.state = .raised ∧ (s.port p).notification.masked = false ∧ s.online p = true ∧
        s.chipReset = false)

/-! ## Ports and management -/

/-- ONLINE: the checks in order; accepted, the port is ONLINE and PEER_STATE is set at every other ONLINE port. -/
def Obligations.OnlineEntersService : Prop :=
  ∀ (p : Port) (w : Word) (s : State), s.chipReset = false →
    ResultsInOrder (.online p w) p s
      (fun t =>
        (t.port p).state = .online ∧ (t.port p).host.result = .ok ∧ (t.port p).host.resultValue = 0#16 ∧
          t.port p =
            { s.port p with
              state := .online, host := { (s.port p).host with result := .ok, resultValue := 0#16 } } ∧
          (∀ q, q ≠ p → s.online q = true → t.port q = (s.setPortCond q .peerState).port q) ∧
          (∀ q, q ≠ p → s.online q = false → t.port q = s.port q) ∧ s.SameLinks t)
      [((s.port p).state = .disabled ∨ (s.port p).state.isResetting = true, .notOnline),
        (s.online p = true, .wrongState),
        ((s.port p).resetInput = true, .wrongState)]

/-- OFFLINE, RESET_PORT and DISABLE_PORT: the checks of each in order; accepted, the port named enters RESETTING,
with disable pending for DISABLE_PORT, and a port already RESETTING only becomes disable pending. -/
def Obligations.CommandsThatResetPorts : Prop :=
  ∀ (p : Port) (w : Word) (atEntry : List ShareBlock) (s : State), s.chipReset = false →
    let q := portOfWord w
    ResultsInOrder (.offline p w atEntry) p s
      (fun t => t = (s.enterReset p false atEntry).setResult p .ok 0#16)
      [((s.port p).state = .disabled ∨ (s.port p).state.isResetting = true, .notOnline)] ∧
    ResultsInOrder (.resetPort p w atEntry) p s
      (fun t => t = (s.enterReset q false atEntry).setResult p .ok 0#16)
      [(p ≠ 0, .denied),
        ((s.port 0).state = .disabled ∨ (s.port 0).state.isResetting = true, .notOnline),
        (3 < w.toNat, .badArg),
        ((s.port q).state = .disabled ∨ (s.port q).state.isResetting = true, .wrongState)] ∧
    ResultsInOrder (.disablePort p w atEntry) p s
      (fun t =>
        (∀ d reports, (s.port q).state = .resetting d reports →
          t = (s.modPort q fun x => { x with state := .resetting true reports }).setResult p .ok 0#16) ∧
        ((s.port q).state.isResetting = false → t = (s.enterReset q true atEntry).setResult p .ok 0#16))
      [(p ≠ 0, .denied),
        ((s.port 0).state = .disabled ∨ (s.port 0).state.isResetting = true, .notOnline),
        (w.toNat = 0 ∨ 3 < w.toNat, .badArg),
        ((s.port q).state = .disabled, .wrongState)]

/-- ENABLE_PORT: the checks in order; accepted, the target is OFFLINE and nothing else changes but the result. -/
def Obligations.EnablePortMakesOffline : Prop :=
  ∀ (p : Port) (w : Word) (s : State), s.chipReset = false →
    ResultsInOrder (.enablePort p w) p s
      (fun t => t = (s.modPort (portOfWord w) fun x => { x with state := .offline }).setResult p .ok 0#16)
      [(p ≠ 0, .denied),
        ((s.port 0).state = .disabled ∨ (s.port 0).state.isResetting = true, .notOnline),
        (3 < w.toNat, .badArg),
        ((s.port (portOfWord w)).state ≠ .disabled, .wrongState)]

/-- SET_QUOTA and SET_TIMING: the checks of each in order; accepted, the two quotas of the port, and the four values
of the configuration, are written, and nothing else changes but the result. That a new divider leaves the running
count of periods as it is, is the model's choice of log 13. -/
def Obligations.QuotaAndTimingAreWritten : Prop :=
  ∀ (p : Port) (w : Word) (s : State), s.chipReset = false →
    ResultsInOrder (.setQuota p w) p s
      (fun t =>
        t =
          (s.modPort (portOfWord w) fun x =>
            { x with
              account :=
                { x.account with blockQuota := (s.arg p 0).toNat, recordQuota := (s.arg p 1).toNat } }).setResult p .ok
            0#16)
      [(p ≠ 0, .denied),
        ((s.port 0).state = .disabled ∨ (s.port 0).state.isResetting = true, .notOnline),
        (3 < w.toNat, .badArg),
        (128 < (s.arg p 0).toNat, .badArg),
        (64 < (s.arg p 1).toNat, .badArg)] ∧
    ResultsInOrder (.setTiming p w) p s
      (fun t =>
        t =
          ({ s with
              config :=
                { divider := w.toNat, openTimeout := (s.arg p 0).toNat, drainLimit := (s.arg p 1).toNat,
                  maxLifetime := (s.arg p 2).toNat } } : State).setResult p .ok 0#16)
      [(p ≠ 0, .denied),
        ((s.port 0).state = .disabled ∨ (s.port 0).state.isResetting = true, .notOnline),
        (w.toNat < 8 ∨ 50 < w.toNat, .badArg),
        ((s.arg p 0).toNat = 0 ∨ 255 < (s.arg p 0).toNat, .badArg),
        (w.toNat ≠ s.config.divider ∧
            ((s.port 1).state ≠ .disabled ∨ (s.port 2).state ≠ .disabled ∨ (s.port 3).state ≠ .disabled ∨
              s.online 0 = true), .wrongState)]

/-- The chip reset input and the reset input of a port. CHIP_RESET_ASSERTION stops the part, and CHIP_RESET_RELEASE
gives the reset state with the reset-input status taken from the pins. An assertion of a port's reset input sets the
status and resets an ONLINE or OFFLINE port; a release clears the status; while chip reset is asserted only the level
of the pin changes. -/
def Obligations.ResetInputs : Prop :=
  ((∀ s : State, exec .chipResetAssertion s = .next { s with chipReset := true }) ∧
  (∀ s : State, ∃ t, exec .chipResetRelease s = .next t ∧
    (∀ p : Port,
      t.port p =
        { State.reset.port p with resetInput := (s.port p).resetPin, resetPin := (s.port p).resetPin }) ∧
    t = { State.reset with ports := t.ports, pending := s.pending }) ∧
  (∀ s : State, s.chipReset = true →
    (∀ (p : Port) (a : BitVec 7), windowRead s p a = 0#16) ∧ (∀ p : Port, s.lineActive p = false) ∧
    (∀ i : Instr, i.busWrite?.isSome = true → exec i s = .next s))) ∧
  ∀ (p : Port) (atEntry : List ShareBlock) (s : State),
    let s1 := s.modPort p fun x => { x with resetPin := true, resetInput := true }
    (s.chipReset = false → (s.port p).state = .online ∨ (s.port p).state = .offline →
      exec (.resetInputAssertion p atEntry) s = .next (s1.enterReset p false atEntry)) ∧
    (s.chipReset = false → (s.port p).state = .disabled ∨ (s.port p).state.isResetting = true →
      exec (.resetInputAssertion p atEntry) s = .next s1) ∧
    (s.chipReset = false →
      exec (.resetInputRelease p) s = .next (s.modPort p fun x => { x with resetPin := false, resetInput := false })) ∧
    (s.chipReset = true →
      exec (.resetInputAssertion p atEntry) s = .next (s.modPort p fun x => { x with resetPin := true }) ∧
      exec (.resetInputRelease p) s = .next (s.modPort p fun x => { x with resetPin := false }))

/-- Entry of a port into RESETTING: buffers and outcomes reset; a transfer unit stopped, or cancelled when its block
transfer is in progress; PEER_STATE at every other ONLINE port when the port was ONLINE; the reports of the shares not
taken and of a unit not stopped still due. A unit whose request waits is stopped at once: its request is gone, a
copy-in's record is released and a fetch's has one holder less, with the channel's or the group's part. A share taken
at entry does what the share's own command does to a state that awaits it, but for the re-evaluation, which here comes
once at the end of the entry. The last report ends RESETTING, in DISABLED when disable pending is yes and in OFFLINE
otherwise. That the Send Unit comes before the Fetch Unit is the model's choice of log 18, that the shares taken at
entry are an operand is log 5, and that one re-evaluation ends the event is log 21. -/
def Obligations.PortResetBeginsAndEnds : Prop :=
  (∀ (s : State) (p : Port) (d : Bool) (atEntry : List ShareBlock),
    let t := s.enterReset p d atEntry
    let sending : Bool := (s.port p).sendUnit.isSome && decide (s.arbiter.inProgress = some (sendRequester p))
    let fetching : Bool := (s.port p).fetchUnit.isSome && decide (s.arbiter.inProgress = some (fetchRequester p))
    t.online p = false ∧ (t.port p).staging = Staging.reset ∧ (t.port p).readBuffer = ReadBuffer.reset ∧
    (t.port p).sendOutcome = SendOutcome.reset ∧ (t.port p).fetchOutcome = FetchOutcome.reset ∧
    (t.port p).host.args = (s.port p).host.args ∧ (t.port p).host.result = (s.port p).host.result ∧
    (t.port p).resetInput = (s.port p).resetInput ∧
    (t.port p).account.blockQuota = (s.port p).account.blockQuota ∧
    (t.port p).account.recordQuota = (s.port p).account.recordQuota ∧ s.SameMemory t ∧ s.SameClock t ∧
    (t.port p).sendUnit =
      (if sending then (s.port p).sendUnit.map fun u => { u with cancelled := true } else none) ∧
    (t.port p).fetchUnit =
      (if fetching then (s.port p).fetchUnit.map fun u => { u with cancelled := true } else none) ∧
    (∀ q, q ≠ p → s.online p = true → s.online q = true → t.HasCond q portItem .peerState) ∧
    (∀ b, t.awaits p (.share b) = !atEntry.contains b) ∧ t.awaits p .sendStopped = sending ∧
    t.awaits p .fetchStopped = fetching ∧
    ((∀ b, b ∈ atEntry) → sending = false → fetching = false →
      (t.port p).state = if d then .disabled else .offline) ∧
    ((∃ b, b ∉ atEntry) ∨ sending = true ∨ fetching = true →
      ∃ reports, (t.port p).state = .resetting d reports ∧ reports ≠ [])) ∧
  (∀ (s : State) (p : Port) (d : Bool) (atEntry : List ShareBlock),
    let s1 := s.modPort p fun x => { x with state := .resetting d allReports }
    let s2 := if s.online p = true then s1.tellPeers p else s1
    let s3 := s2.modPort p fun x =>
      { x with
        staging := Staging.reset, readBuffer := ReadBuffer.reset, sendOutcome := SendOutcome.reset,
        fetchOutcome := FetchOutcome.reset }
    s.enterReset p d atEntry = (atEntry.foldl (State.takeShare p) ((s3.stopSendUnit p).stopFetchUnit p)).reevaluateAll) ∧
  (∀ (s : State) (p : Port) (b : ShareBlock), s.chipReset = false →
    (s.awaits p (.share b) = false → s.takeShare p b = s) ∧
    (s.awaits p (.share b) = true →
      (b ≠ .channelController → exec (b.command p) s = .next (s.takeShare p b)) ∧
      (b = .channelController → exec (b.command p) s = .next (s.takeShare p b).reevaluateAll))) ∧
  (∀ (s : State) (p : Port),
    ((s.port p).sendUnit = none → s.stopSendUnit p = s.report p .sendStopped) ∧
    (∀ u, (s.port p).sendUnit = some u →
      (s.arbiter.inProgress = some (sendRequester p) →
        s.stopSendUnit p = s.modPort p fun x => { x with sendUnit := some { u with cancelled := true } }) ∧
      ∀ m, s.arbiter.inProgress ≠ some (sendRequester p) → s.record u.record = .filling m → m.count = 1 →
        s.CopyInGone (s.stopSendUnit p) p u.record m ∧ s.SameMemory (s.stopSendUnit p) ∧
          (s.stopSendUnit p).arbiter =
            { s.arbiter with waiting := s.arbiter.waiting.set (sendRequester p) false }) ∧
    ((s.port p).fetchUnit = none → s.stopFetchUnit p = s.report p .fetchStopped) ∧
    ∀ u, (s.port p).fetchUnit = some u →
      (s.arbiter.inProgress = some (fetchRequester p) →
        s.stopFetchUnit p = s.modPort p fun x => { x with fetchUnit := some { u with cancelled := true } }) ∧
      ∀ m dl, s.arbiter.inProgress ≠ some (fetchRequester p) → s.record u.record = .live m dl →
        s.FetchGone (s.stopFetchUnit p) p u.record m dl ∧ s.SameMemory (s.stopFetchUnit p) ∧
          (s.stopFetchUnit p).arbiter =
            { s.arbiter with waiting := s.arbiter.waiting.set (fetchRequester p) false }) ∧
  (∀ (s : State) (p : Port) (r : Report) (d : Bool) (reports : List Report),
    (s.port p).state = .resetting d reports →
    ((∀ x ∈ reports, x = r) → ((s.report p r).port p).state = if d then .disabled else .offline) ∧
    ((∃ x ∈ reports, x ≠ r) →
      ((s.report p r).port p).state = .resetting d (reports.filter (· ≠ r))))

/-! ## Register accesses -/

/-- STAGE_DATA and STAGE_PTR while the port is OFFLINE or ONLINE, their reads, and their being ignored while the
port is DISABLED or RESETTING. -/
def Obligations.StagingRegisters : Prop :=
  ∀ (p : Port) (w : Word) (s : State), s.chipReset = false →
    let x := s.port p
    let out := x.state = .disabled ∨ x.state.isResetting = true
    (¬out → x.staging.locked = false → x.staging.pointer < 128 →
      exec (.stageData p w) s =
        .next
          (s.modPort p fun y =>
            { y with
              staging :=
                { y.staging with
                  words := y.staging.words.setIfInBounds y.staging.pointer w, pointer := y.staging.pointer + 1 } })) ∧
    (out ∨ x.staging.locked = true ∨ 128 ≤ x.staging.pointer → exec (.stageData p w) s = .next s) ∧
    (¬out → x.staging.locked = false → w.toNat ≤ 128 →
      exec (.stagePtr p w) s =
        .next (s.modPort p fun y => { y with staging := { y.staging with pointer := w.toNat } })) ∧
    (out ∨ x.staging.locked = true ∨ 128 < w.toNat → exec (.stagePtr p w) s = .next s) ∧
    windowRead s p 0x23#7 = BitVec.ofNat 16 x.staging.pointer ∧ windowRead s p 0x22#7 = 0#16

/-- RB_DATA, a read, and RB_PTR, a write. -/
def Obligations.ReadBufferRegisters : Prop :=
  ∀ (p : Port) (w : Word) (s : State), s.chipReset = false →
    let x := s.port p
    let out := x.state = .disabled ∨ x.state.isResetting = true
    (∀ k : Fin 128, ¬out → x.readBuffer.state = .full → x.readBuffer.pointer = k.val →
      exec (.rbData p) s =
        .next
          (s.modPort p fun y =>
            { y with
              host := { y.host with readData := x.readBuffer.words[k] }
              readBuffer := { y.readBuffer with pointer := k.val + 1 } })) ∧
    (out ∨ x.readBuffer.state ≠ .full ∨ 128 ≤ x.readBuffer.pointer →
      exec (.rbData p) s = .next (s.modPort p fun y => { y with host := { y.host with readData := 0#16 } })) ∧
    (¬out → x.readBuffer.state = .full → w.toNat ≤ 128 →
      exec (.rbPtr p w) s =
        .next (s.modPort p fun y => { y with readBuffer := { y.readBuffer with pointer := w.toNat } })) ∧
    (out ∨ x.readBuffer.state ≠ .full ∨ 128 < w.toNat → exec (.rbPtr p w) s = .next s) ∧
    windowRead s p 0x2B#7 = BitVec.ofNat 16 x.readBuffer.pointer

/-- ARG_WRITE, VIEW_SEL, TIME_LO and IGNORED_WRITE; what a window of a port that is DISABLED or RESETTING shows, and
what P1 to P3 do not show; and what every read register shows: the status registers in every state of the port, the
view selector, the views, the receipt head and the attention registers of a port that is OFFLINE or ONLINE. That a
read of any other register than RB_DATA and TIME_LO is the function windowRead and no command is log 12. -/
def Obligations.RegisterAccessesAndWindows : Prop :=
  (∀ (p : Port) (w : Word) (n : Fin 5) (a : BitVec 7) (s : State), s.chipReset = false →
    let out := (s.port p).state = .disabled ∨ (s.port p).state.isResetting = true
    exec (.argWrite p n w) s =
      .next (s.modPort p fun y => { y with host := { y.host with args := y.host.args.set n w } }) ∧
    (∀ v : EpIndex, ¬out → w.toNat = v.val →
      exec (.viewSel p w) s = .next (s.modPort p fun y => { y with host := { y.host with viewSel := v } })) ∧
    (out ∨ 7 < w.toNat → exec (.viewSel p w) s = .next s) ∧
    exec (.timeLo p) s =
      .next
        (s.modPort p fun y =>
          { y with host := { y.host with readData := s.now.extractLsb' 0 16, timeCapture := s.now } }) ∧
    windowRead s p 0x0A#7 = (s.port p).host.timeCapture.extractLsb' 16 16 ∧
    exec (.ignoredWrite p a w) s = .next s) ∧
  (∀ (p : Port) (a : BitVec 7) (s : State), s.chipReset = false →
    (windowRead s p 0x00#7 = 0x4128#16 ∧ windowRead s p 0x01#7 = 1#16) ∧
    (p ≠ 0 → 0x0F ≤ a.toNat ∧ a.toNat ≤ 0x19 ∨ a.toNat = 0x04 → windowRead s p a = 0#16) ∧
    ((s.port p).state = .disabled ∨ (s.port p).state.isResetting = true →
      (a.toNat ∈ [0x22, 0x2A, 0x39, 0x3A] → windowRead s p a = 0#16) ∧
      (0x3B ≤ a.toNat ∧ a.toNat ≤ 0x40 → windowRead s p a = 0xFFFF#16) ∧
      (0x41 ≤ a.toNat ∧ a.toNat ≤ 0x48 → windowRead s p a = 0#16) ∧
      (0x49 ≤ a.toNat ∧ a.toNat ≤ 0x65 → windowRead s p a = 0xFFFF#16) ∧
      (0x66 ≤ a.toNat ∧ a.toNat ≤ 0x72 → windowRead s p a = 0#16) ∧
      (0x73 ≤ a.toNat ∧ a.toNat ≤ 0x7B → windowRead s p a = 0xFFFF#16) ∧
      (0x7C ≤ a.toNat ∧ a.toNat ≤ 0x7F → windowRead s p a = 0#16))) ∧
  (∀ (p : Port) (s : State), s.chipReset = false →
    let x := s.port p
    let n := x.notification
    let state (q : Port) : Nat := (s.port q).state.shown
    s.reads p 0x02 2 =
      [num (x.state.shown + if x.resetInput then 16 else 0),
        num (state 0 + 4 * state 1 + 16 * state 2 + 64 * state 3)] ∧
    (∀ q : Port,
      (windowRead s 0 0x04#7).getLsbD q.val = (s.port q).resetInput ∧
      ((windowRead s 0 0x04#7).getLsbD (4 + q.val) = true ↔ (s.port q).state.pendsDisable)) ∧
    (windowRead s 0 0x04#7).extractLsb' 8 8 = 0#8 ∧
    s.reads p 0x05 5 =
      [num s.config.divider, num s.config.openTimeout, num s.config.drainLimit, num s.config.maxLifetime,
        s.now.extractLsb' 0 16] ∧
    s.reads p 0x0B 4 =
      [num x.account.blockQuota, num x.account.recordQuota, num x.account.chargedBlocks,
        num x.account.chargedRecords] ∧
    s.reads 0 0x0F 11 =
      [num ((List.finRange 128).filter fun b => s.blockPlaces[b] = .free).length,
        num ((List.finRange 64).filter fun r => s.record r = .free).length,
        num ((List.finRange 128).filter fun b => s.blockPlaces[b] = .retired).length] ++
        ((List.finRange 4).map fun q => num (s.port q).account.chargedBlocks) ++
        ((List.finRange 4).map fun q => num (s.port q).account.chargedRecords) ∧
    s.reads p 0x1A 6 =
      [num (n.state.shown + (if n.masked then 16 else 0) + (if s.lineActive p then 32 else 0) + 256 * n.bulkCount),
        n.enables, num n.holdoff, num n.threshold, 0, 0] ∧
    s.reads p 0x20 2 = [x.host.result.shown, x.host.resultValue] ∧
    s.reads p 0x24 6 =
      [(match x.sendUnit with
          | none => 0
          | some u => 1 ||| num (if u.kind = .channel then 4 else 8) ||| num (16 * u.remaining)) |||
          if x.staging.locked then 0x100 else 0,
        x.sendOutcome.outcome.shown, num x.sendOutcome.endpoint.val, x.sendOutcome.link.shown, x.sendOutcome.sequence,
        num x.sendOutcome.count] ∧
    s.reads p 0x2C 8 =
      [num (x.readBuffer.state.shown + if x.readBuffer.damaged then 0x8000 else 0), num x.readBuffer.header.endpoint.val,
        x.readBuffer.header.link.shown, x.readBuffer.header.sequence, x.readBuffer.header.tag.extractLsb' 0 16,
        x.readBuffer.header.tag.extractLsb' 16 16, num x.readBuffer.header.length, num x.readBuffer.header.origin.val] ∧
    s.reads p 0x34 5 =
      [(match x.fetchUnit with
        | none => 0
        | some u => num (1 + 16 * u.remaining)),
        x.fetchOutcome.outcome.shown, num x.fetchOutcome.endpoint.val, x.fetchOutcome.link.shown,
        x.fetchOutcome.sequence]) ∧
  (∀ (p : Port) (s : State), s.chipReset = false → (s.port p).state = .offline ∨ (s.port p).state = .online →
    let x := s.port p
    let e := globalOf p x.host.viewSel
    let y := s.endpoint e
    s.reads p 0x39 1 = [num x.host.viewSel.val] ∧ s.reads p 0x3A 9 = y.role.shown ∧
    s.reads p 0x43 6 =
      [x.attention.sets[itemOf x.host.viewSel], y.openOutcome.shown,
        (match y.openOutcome with
          | .none => 0
          | .rejected code => code
          | .timeout => 0
          | .peerReset => 0),
        y.withdrawOutcome.shown, y.closeOutcome.shown, num y.discarded] ∧
    (∀ c a b o dl, s.channel c = .requested a b o dl →
      (∀ k, y.role = .calling c k → e = a → s.reads p 0x49 10 = [1, 0] ++ List.replicate 8 0xFFFF) ∧
      ∀ k f v, y.role = .offered c k f v → e ≠ a → s.reads p 0x49 10 = [1, 1] ++ List.replicate 8 0xFFFF) ∧
    (∀ c l k q d, y.role = .connected c k q d → s.channel c = .opened l →
      s.reads p 0x49 10 = l.shown 2 (decide (e = l.caller))) ∧
    (∀ c l cl dl k q d, y.role = .closing c k q d → s.channel c = .draining l cl dl →
      s.reads p 0x49 10 = l.shown 3 (decide (e = l.caller))) ∧
    ((∀ c k f v, y.role ≠ .offered c k f v) → (∀ c k, y.role ≠ .calling c k) → (∀ c k q d, y.role ≠ .connected c k q d) →
      (∀ c k q d, y.role ≠ .closing c k q d) → s.reads p 0x49 10 = List.replicate 10 0xFFFF) ∧
    (∀ g z, y.role = .publisher g → s.group g = .active z → s.reads p 0x53 19 = z.shown) ∧
    (∀ g z q d, y.role = .member g q d → s.group g = .active z → s.reads p 0x53 19 = z.shown) ∧
    ((∀ g, y.role ≠ .publisher g) → (∀ g q d, y.role ≠ .member g q d) →
      s.reads p 0x53 19 = List.replicate 19 0xFFFF) ∧
    s.reads p 0x66 12 = x.receipts.shown ∧ s.reads p 0x72 13 = x.attention.shown ∧ windowRead s p 0x7F#7 = 0#16)

/-! ## The message memory and the transfers -/

/-- MEMORY_FAULT: the block holds what the fault leaves, its check code no longer matches, and nothing else
changes. It is so in every state outside chip reset, also between two fetches of one record (log 22). -/
def Obligations.MemoryFaultSpoilsOneBlock : Prop :=
  ∀ (b : BlockId) (contents : List Byte) (s : State), s.chipReset = false → s.MemoryLaw → contents.length = 32 →
    ∃ t, exec (.memoryFault b contents) s = .next t ∧
      t = { s with memory := t.memory, badChecks := s.badChecks.set b true } ∧
      (∀ j : Fin 32, Memory.readByte t.memory (32 * b.val + j.val) = contents.getD j.val 0#8) ∧
      ∀ a : Nat, a < 32 * b.val ∨ 32 * b.val + 32 ≤ a → Memory.readByte t.memory a = Memory.readByte s.memory a

/-- The arbiter grants the first waiting requester from the rotation pointer on and passes it; a requester that is
passed over comes nearer. -/
def Obligations.ArbiterRotates : Prop :=
  ∀ (a : Arbiter),
    (∀ q, a.inProgress = some q → a.grant = a) ∧
    (a.inProgress = none → (∀ q : Requester, a.waiting[q] = false) → a.grant = a) ∧
    (∀ k q : Requester, q = a.pointer + k → a.inProgress = none → a.waiting[q] = true →
      (∀ j r : Requester, j < k → r = a.pointer + j → a.waiting[r] = false) →
      a.grant = { waiting := a.waiting.set q false, inProgress := some q, pointer := q + 1 }) ∧
    (∀ q g : Requester, a.inProgress = none → a.waiting[q] = true → a.grant.inProgress = some g → g ≠ q →
      a.grant.waiting[q] = true ∧ (q - a.grant.pointer).val < (q - a.pointer).val)

/-- The end of a block transfer when none is in progress changes nothing; the end of one that leaves a copy-in with
blocks to go writes the block from the staging buffer with the zero fill, gives it a fresh check code, and asks
for the next block; the last block completes the copy-in in the same event, before the next grant. -/
def Obligations.CopyInWritesBlocks : Prop :=
  (∀ (s : State) (p : Port) (u : CopyIn) (m : Message) (b : BlockId), s.chipReset = false →
    (s.arbiter.inProgress = none → exec .blockTransferEnd s = .next s) ∧
    (s.arbiter.inProgress = some (sendRequester p) → (s.port p).sendUnit = some u → u.cancelled = false →
      1 < u.remaining → s.record u.record = .filling m → m.blocks[u.next]? = some b → s.MemoryLaw →
      ∃ t, exec .blockTransferEnd s = .next t ∧
        (t.port p).sendUnit = some { u with next := u.next + 1, remaining := u.remaining - 1 } ∧
        t =
          ((({ s with
              memory := t.memory, badChecks := s.badChecks.set b false,
              arbiter := { s.arbiter with inProgress := none } } : State).modPort p fun x =>
              { x with sendUnit := some { u with next := u.next + 1, remaining := u.remaining - 1 } }).placeRequest
            (sendRequester p)).grant ∧
        (∀ j : Fin 32,
          Memory.readByte t.memory (32 * b.val + j.val) =
            if 32 * u.next + j.val < m.length then
              (let word := ((s.port p).staging.words[(32 * u.next + j.val) / 2]?).getD 0#16
               if (32 * u.next + j.val) % 2 = 0 then word.extractLsb' 0 8 else word.extractLsb' 8 8)
            else 0#8) ∧
        ∀ a : Nat, a < 32 * b.val ∨ 32 * b.val + 32 ≤ a → Memory.readByte t.memory a = Memory.readByte s.memory a)) ∧
  (∀ (s : State) (p : Port) (u : CopyIn) (m : Message) (b : BlockId), s.chipReset = false →
    s.arbiter.inProgress = some (sendRequester p) → (s.port p).sendUnit = some u → u.cancelled = false →
    u.remaining = 1 → s.record u.record = .filling m → m.blocks[u.next]? = some b →
    exec .blockTransferEnd s =
      .next
        ((({ s with arbiter := { s.arbiter with inProgress := none } } : State).writeBlock b
            ((s.port p).staging.blockImage m.length u.next)).completeCopyIn p u.record u.lifetime true).grant)

/-- The completion of a CHANNEL copy-in: delivered onto the receiving endpoint while the channel is OPEN or DRAINING
and the receiving port ONLINE; else discarded, with its receipt of cause DISCARDED, the credit returned while the
channel keeps its directions, the drain completion test of a DRAINING channel, and an ABORTING channel FREE with its
last transfer. -/
def Obligations.ChannelCopyInCompletion : Prop :=
  ∀ (s : State) (p : Port) (r : RecId) (m : Message) (c : ChanId) (d : Dirn) (life : Nat),
    s.record r = .filling m → m.link = .channel c d → m.count = 1 → s.online p = true →
    let t := s.completeCopyIn p r life true
    (t.port p).sendUnit = none ∧
    (t.port p).staging = { (s.port p).staging with locked := false, pointer := 0 } ∧
    t.HasCond p portItem .sendDone ∧ s.SameMemory t ∧ t.groups = s.groups ∧
    (∀ k, k ≠ c → t.channel k = s.channel k) ∧ (∀ r', r' ≠ r → t.record r' = s.record r') ∧
    (∀ l, (s.channel c).live? = some l → s.online (portOf (l.receiver d)) = true →
      t.record r = .live m (s.deadlineFor life) ∧
      t.role (l.receiver d) = (s.role (l.receiver d)).withQueue ((s.role (l.receiver d)).queue ++ [r]) ∧
      (∀ e, e ≠ l.receiver d → t.endpoint e = s.endpoint e) ∧
      t.channel c = (s.channel c).mapLive (fun y => { y with transfers := y.transfers - 1 }) ∧
      t.HasCond (portOf (l.receiver d)) (itemOf (localOf (l.receiver d))) .arrival ∧
      (s.HandedOff t fun _ => []) ∧
      (t.port p).sendOutcome =
        { outcome := .delivered, endpoint := localOf m.origin, link := .channel c, sequence := m.sequence, count := 1 }) ∧
    ((∀ l, (s.channel c).live? = some l → s.online (portOf (l.receiver d)) = false) →
      t.record r = .free ∧ s.Released t r m ∧ s.HandedOff t (m.receiptAt .discarded) ∧
      (t.port p).sendOutcome =
        { outcome := .discarded, endpoint := localOf m.origin, link := .channel c, sequence := m.sequence, count := 0 } ∧
      s.MessageEnded t c d true fun e => (s.role e).queue)

/-- A block read of a fetch that was not cancelled: sixteen words as stored go into the read buffer; a FAIL marks the
block and the record, sets DAMAGED and FAULT; then the next request, or the fetch completion in the same
event. -/
def Obligations.CopyOutReadsOneBlock : Prop :=
  ∀ (s : State) (p : Port) (u : CopyOut) (m : Message) (dl : Option Time) (b : BlockId), s.chipReset = false →
    s.arbiter.inProgress = some (fetchRequester p) → (s.port p).fetchUnit = some u → u.cancelled = false →
    s.record u.record = .live m dl → m.blocks[u.next]? = some b →
    let s0 : State := { s with arbiter := { s.arbiter with inProgress := none } }
    let words : Vector Word 128 :=
      writeWords (s.port p).readBuffer.words (16 * u.next)
        ((List.range 16).map fun i =>
          Memory.readByte s.memory (32 * b.val + 2 * i + 1) ++ Memory.readByte s.memory (32 * b.val + 2 * i))
    let read : State := s0.modPort p fun x => { x with readBuffer := { x.readBuffer with words := words } }
    let failed : State :=
      ((read.setRecord u.record
          (.live
            { m with
              badMarks := if m.badMarks.contains b then m.badMarks else m.badMarks ++ [b]
              damaged := true } dl)).modPort p fun x =>
          { x with readBuffer := { x.readBuffer with damaged := true } }).setPortCond p .fault
    let s1 : State := if s.badChecks[b] = true then failed else read
    (1 < u.remaining →
      exec .blockTransferEnd s =
        .next
          (((s1.modPort p fun x =>
              { x with
                fetchUnit := some { u with next := u.next + 1, remaining := u.remaining - 1 } }).placeRequest
              (fetchRequester p)).grant)) ∧
    (u.remaining = 1 →
      exec .blockTransferEnd s = .next (s1.completeFetch p u.endpoint u.record true).grant)

/-- The end of the block transfer of a cancelled unit: the unit IDLE and stopped, no outcome and no buffer written. A
copy-in writes its block whole, its record is released, and the channel's or the group's part follows. A fetch's
record has one holder less, a failed read still marks the block and the record, and the channel's part follows. That
the block takes what the staging buffer holds at the end of the transfer is the model's choice of log 14. -/
def Obligations.CancelledTransferEnds : Prop :=
  ∀ (s : State) (p : Port), s.chipReset = false →
    (∀ (u : CopyIn) (m : Message), s.arbiter.inProgress = some (sendRequester p) → (s.port p).sendUnit = some u →
      u.cancelled = true → s.record u.record = .filling m → m.count = 1 →
      ∃ t, exec .blockTransferEnd s = .next t ∧ s.CopyInGone t p u.record m ∧
        t.arbiter = ({ s.arbiter with inProgress := none } : Arbiter).grant ∧
        ∀ b, s.MemoryLaw → m.blocks[u.next]? = some b → s.BlockWritten t b (s.port p).staging m.length u.next) ∧
    ∀ (u : CopyOut) (m : Message) (dl : Option Time), s.arbiter.inProgress = some (fetchRequester p) →
      (s.port p).fetchUnit = some u → u.cancelled = true → s.record u.record = .live m dl →
      ∃ t, exec .blockTransferEnd s = .next t ∧ s.FetchGone t p u.record (s.afterRead m u.next) dl ∧
        s.SameMemory t ∧ t.arbiter = ({ s.arbiter with inProgress := none } : Arbiter).grant

/-! ## Lifetimes, receipts and expiries -/

/-- The effective lifetime of a message. -/
def Obligations.EffectiveLifetime : Prop :=
  (∀ cap asked : Nat, effectiveLifetime false cap asked = 0) ∧
  (∀ asked : Nat, effectiveLifetime true 0 asked = asked) ∧
  (∀ cap : Nat, cap ≠ 0 → effectiveLifetime true cap 0 = cap) ∧
  (∀ cap asked : Nat, cap ≠ 0 → asked ≠ 0 → asked ≤ cap → effectiveLifetime true cap asked = asked) ∧
  ∀ cap asked : Nat, cap ≠ 0 → cap < asked → effectiveLifetime true cap asked = cap

/-- The receipt hand-off of a release: to the port of the record's origin when its receipt requested is yes, and none
otherwise; a claim that leaves no holder releases the record with the cause it carries, and one that leaves some only
lowers the count; a bulk discard hands off the receipts of the records it releases, with cause DISCARDED. The hand-off
is a posting with RECEIPT when the port is ONLINE and holds a reservation, else a drop that lowers the count when it
can; and the outcome of a receipt by kind, cause and tallies. -/
def Obligations.ReceiptHandOff : Prop :=
  (∀ (s : State) (p : Port) (rc : Receipt),
    (s.online p = true → 0 < (s.port p).receipts.reserved →
      s.handOff p rc =
        (s.modPort p fun x =>
          { x with
            receipts := { queue := x.receipts.queue ++ [rc], reserved := x.receipts.reserved - 1 } }).setPortCond p
          .receipt) ∧
    (s.online p = false ∨ (s.port p).receipts.reserved = 0 →
      s.handOff p rc =
        s.modPort p fun x => { x with receipts := { x.receipts with reserved := x.receipts.reserved - 1 } })) ∧
  (∀ (s : State) (r : RecId) (m : Message) (cause : Cause),
    s.Released (s.release r m cause) r m ∧ s.HandedOff (s.release r m cause) (m.receiptAt cause) ∧
    ((s.record r).message? = some m →
      (∀ (n : Nat) (k : TallyKind),
        (m.count ≤ n → s.claim r n (some k) cause = s.release r (m.ended n k) cause) ∧
        (n < m.count →
          s.claim r n (some k) cause = s.setRecord r ((s.record r).mapMessage fun _ => m.ended n k)) ∧
        s.HandedOff (s.claim r n (some k) cause) (m.receiptAfter n k cause)) ∧
      (m.count = 1 →
        s.claim r 1 none cause = s.release r { m with count := 0 } cause ∧
          s.HandedOff (s.claim r 1 none cause) (m.receiptAt cause)))) ∧
  (∀ (s : State) (l : List EpId),
    s.HandedOff (s.bulkDiscard l) (s.discardReceipts (l.flatMap fun e => (s.role e).queue))) ∧
  ∀ (m : Message) (cause : Cause),
    (receiptOf m cause).endpoint = localOf m.origin ∧ (receiptOf m cause).link = m.link.toLinkId ∧
    (receiptOf m cause).sequence = m.sequence ∧ (receiptOf m cause).tag = m.tag ∧
    (receiptOf m cause).damaged = m.damaged ∧
    (∀ c d, m.link = .channel c d →
      (cause = .fetched → (receiptOf m cause).outcome = .fetched) ∧
      (cause = .expired → (receiptOf m cause).outcome = .expired) ∧
      (cause = .discarded → (receiptOf m cause).outcome = .discarded)) ∧
    ∀ g, m.link = .group g →
      (receiptOf m cause).outcome =
        if cause = .discarded ∧ m.tallies.fetched = 0 ∧ m.tallies.expired = 0 ∧ m.tallies.discarded = 0 ∧
            m.tallies.skipped = 0 then .discarded
        else .group m.tallies

/-- The open timeout, the drain expiry and the holdoff expiry: taken when the count has reached a deadline that still
exists, and else nothing. -/
def Obligations.DeadlinesExpire : Prop :=
  (∀ (s : State) (c : ChanId), s.chipReset = false →
    (∀ a b o d, s.channel c = .requested a b o d → reached s.now d = true → s.online (portOf b) = true →
      exec (.openTimeoutExpiry c) s =
        .next ((((s.setChannel c .free).failCaller a .timeout).withdrawCallee b .timeout).reevaluate (portOf b))) ∧
    (∀ a b o d, s.channel c = .requested a b o d → reached s.now d = true → s.online (portOf b) = false →
      exec (.openTimeoutExpiry c) s = .next (((s.setChannel c .free).failCaller a .timeout).setRole b .idle)) ∧
    ((∀ a b o d, s.channel c = .requested a b o d → reached s.now d = false) →
      exec (.openTimeoutExpiry c) s = .next s) ∧
    (∀ l cl d, s.channel c = .draining l cl (some d) → reached s.now d = true →
      exec (.drainExpiry c) s = .next (s.teardownLive c l cl .drainExpired .drainExpired)) ∧
    ((∀ l cl d, s.channel c = .draining l cl (some d) → reached s.now d = false) →
      exec (.drainExpiry c) s = .next s)) ∧
  (∀ (s : State) (p : Port), s.chipReset = false →
    let n := (s.port p).notification
    (∀ d, n.state = .gathering → n.deadline = some d → reached s.now d = true →
      exec (.holdoffExpiry p) s =
        .next
          (s.modPort p fun x =>
            { x with
              notification := { x.notification with state := .raised, bulkCount := 0, deadline := none } })) ∧
    (n.state ≠ .gathering ∨ (∀ d, n.deadline = some d → reached s.now d = false) →
      exec (.holdoffExpiry p) s = .next s))

/-- The lifetime expiry: the deadline is gone, every entry of the record leaves its queue, the others close up, and
the record loses as many holders as entries, with its receipt of cause EXPIRED when none is left; for a CHANNEL record
the credit of an OPEN or DRAINING channel returns and the drain completion test follows. -/
def Obligations.LifetimeExpiryRemovesEntries : Prop :=
  ∀ (s : State) (r : RecId), s.chipReset = false →
    ((∀ m d, s.record r = .live m (some d) → reached s.now d = false) → exec (.lifetimeExpiry r) s = .next s) ∧
    ∀ (m : Message) (d : Time), s.record r = .live m (some d) → reached s.now d = true →
      let k := ((List.finRange 32).filter fun e => (s.role e).queue.contains r).length
      ∃ t, exec (.lifetimeExpiry r) s = .next t ∧ s.SameMemory t ∧ s.SameClock t ∧ s.SameTransfers t ∧
        t.groups = s.groups ∧ (∀ r', r' ≠ r → t.record r' = s.record r') ∧
        (∀ e, (t.role e).queue = (s.role e).queue.filter (· ≠ r)) ∧
        (k = 0 → t = s.setRecord r (.live m none)) ∧
        (0 < k → m.count ≤ k → t.record r = .free) ∧
        (0 < k → k < m.count → t.record r = .live (m.ended k .expired) none) ∧
        (0 < k → s.HandedOff t (m.receiptAfter k .expired .expired)) ∧
        (∀ c dn, 0 < k → m.link = .channel c dn →
          s.MessageEnded t c dn false fun e => (s.role e).queue.filter (· ≠ r)) ∧
        ∀ g, m.link = .group g →
          t.channels = s.channels ∧
          ∀ e, t.endpoint e = { s.endpoint e with role := (s.role e).withQueue ((s.role e).queue.filter (· ≠ r)) }

/-! ## The shares of a port reset -/

/-- The shares of the Memory Manager, the Receipt Unit, the Attention Unit and the Endpoint Table, each with its report;
a share that is not due changes nothing. After the Endpoint Table's share the port's eight endpoints are IDLE with
their queues discarded and their outcomes none, and the view selector is 0; a credit has returned for each entry to a
channel that keeps its directions, and each record has as many holders less as it had entries, in its discarded tally
when it is a GROUP record, and its receipt of cause DISCARDED handed off when none is left. -/
def Obligations.UnitAndEndpointResetShares : Prop :=
  (∀ (s : State) (p : Port), s.chipReset = false →
    (s.awaits p (.share .memoryManager) = true →
      ∃ t : State, exec (.memoryManagerResetShare p) s = .next (t.report p (.share .memoryManager)) ∧
        t = { s with records := t.records } ∧
        ∀ r, t.record r =
          match s.record r with
          | .free => .free
          | .filling m => .filling (if portOf m.origin = p then { m with receiptRequested := false } else m)
          | .live m d => .live (if portOf m.origin = p then { m with receiptRequested := false } else m) d) ∧
    (s.awaits p (.share .receiptUnit) = true →
      exec (.receiptUnitResetShare p) s =
        .next ((s.modPort p fun x => { x with receipts := { queue := [], reserved := 0 } }).report p (.share .receiptUnit))) ∧
    (s.awaits p (.share .attention) = true →
      exec (.attentionResetShare p) s =
        .next
          ((s.modPort p fun x =>
            { x with
              attention := { sets := Vector.replicate 9 0#16, nudgers := 0#4, list := [] }
              notification :=
                { x.notification with state := .quiet, masked := true, bulkCount := 0, deadline := none } }).report p
            (.share .attention))) ∧
    (s.awaits p (.share .memoryManager) = false → exec (.memoryManagerResetShare p) s = .next s) ∧
    (s.awaits p (.share .receiptUnit) = false → exec (.receiptUnitResetShare p) s = .next s) ∧
    (s.awaits p (.share .attention) = false → exec (.attentionResetShare p) s = .next s)) ∧
  (∀ (s : State) (p : Port), s.chipReset = false →
    (s.awaits p (.share .endpointTable) = false → exec (.endpointTableResetShare p) s = .next s) ∧
    (s.awaits p (.share .endpointTable) = true →
      let entries := (List.finRange 8).flatMap fun e => (s.role (globalOf p e)).queue
      ∃ t, exec (.endpointTableResetShare p) s = .next t ∧ t.awaits p (.share .endpointTable) = false ∧
        (∀ e : EpIndex,
          t.endpoint (globalOf p e) =
            { role := .idle, openOutcome := .none, withdrawOutcome := .none, closeOutcome := .none, discarded := 0 }) ∧
        (∀ e : EpId, portOf e ≠ p → t.endpoint e = s.endpoint e) ∧ (t.port p).host.viewSel = 0 ∧
        (∀ q, q ≠ p → (t.port q).host = (s.port q).host) ∧ t.groups = s.groups ∧ t.arbiter = s.arbiter ∧
        s.SameMemory t ∧ s.SameClock t ∧ s.SameTransfers t ∧
        (∀ c,
          t.channel c =
            (s.channel c).mapLive fun l =>
              { l with
                toCallee := l.toCallee.refunded (s.entriesOn entries c .callerToCallee)
                toCaller := l.toCaller.refunded (s.entriesOn entries c .calleeToCaller) }) ∧
        (∀ r m dl, r ∈ entries → s.record r = .live m dl → t.record r = m.discardedTimes (entries.count r) dl) ∧
        s.HandedOff t (s.discardReceipts entries) ∧
        (∀ r, (∀ e : EpIndex, r ∉ (s.role (globalOf p e)).queue) → t.record r = s.record r) ∧
        ∀ r m, (∃ e : EpIndex, r ∈ (s.role (globalOf p e)).queue) → (s.record r).message? = some m → m.count ≤ 1 →
          t.record r = .free))

/-- The share of the Channel Controller: a request with an end at the port is withdrawn and a channel is torn down,
the ends at the port are IDLE with nothing written, and the ends at other ports in service are told: the caller of a
request PEER_RESET with OPEN_FAILED, its callee CALLER_RESET with WITHDRAWN, listening again with REQUEST cleared, the
end of a channel PEER_RESET with CLOSED. The share of the Group Controller: a group published at the port dissolves,
with GROUP_GONE, and any other loses its members there, with MEMBERS at the publisher. In a coherent state the
receipts of the records that either share releases are handed off, in the order of its channels or groups. What does
not concern the port stays. -/
def Obligations.LinkResetShares : Prop :=
  ∀ (s : State) (p : Port), s.chipReset = false →
    (s.awaits p (.share .channelController) = false → exec (.channelControllerResetShare p) s = .next s) ∧
    (s.awaits p (.share .channelController) = true →
      ∃ t, exec (.channelControllerResetShare p) s = .next t ∧ t.awaits p (.share .channelController) = false ∧
        (∀ c, ¬(t.channel c).EndsAt p) ∧ (∀ c, ¬(s.channel c).EndsAt p → t.channel c = s.channel c) ∧
        t.groups = s.groups ∧ t.arbiter = s.arbiter ∧ s.SameMemory t ∧ s.SameClock t ∧ s.SameTransfers t ∧
        (∀ c, (s.channel c).EndsAt p →
          (∀ a b o dl, s.channel c = .requested a b o dl → t.channel c = .free) ∧
          (∀ l, s.channel c = .opened l →
            t.channel c =
              if l.transfers = 0 then .free
              else .aborting l.caller l.callee { caller := false, callee := false } l.transfers) ∧
          ∀ l cl dl, s.channel c = .draining l cl dl →
            t.channel c = if l.transfers = 0 then .free else .aborting l.caller l.callee cl l.transfers) ∧
        (∀ e, (∀ c, ¬s.EndConcerned p c e) → t.endpoint e = s.endpoint e) ∧
        (∀ e c, s.EndConcerned p c e → s.online (portOf e) = false →
          t.endpoint e = { s.endpoint e with role := .idle }) ∧
        (∀ a c b o dl, s.EndOfOne p c a → s.online (portOf a) = true → s.channel c = .requested a b o dl →
          t.endpoint a = { s.endpoint a with role := .idle, openOutcome := .peerReset } ∧
            t.HasCond (portOf a) (itemOf (localOf a)) .openFailed) ∧
        (∀ b c a o dl k x f y, s.EndOfOne p c b → s.online (portOf b) = true → s.channel c = .requested a b o dl →
          s.role b = .offered k x f y →
          t.endpoint b = { s.endpoint b with role := .listening f, withdrawOutcome := .callerReset } ∧
            t.HasCond (portOf b) (itemOf (localOf b)) .withdrawn ∧
            ¬t.HasCond (portOf b) (itemOf (localOf b)) .request) ∧
        (∀ e c l, s.EndOfOne p c e → s.online (portOf e) = true → (s.channel c).live? = some l →
          t.endpoint e =
              { s.endpoint e with
                role := .idle, closeOutcome := .peerReset, discarded := (s.role e).queue.length } ∧
            t.HasCond (portOf e) (itemOf (localOf e)) .closed) ∧
        (∀ r, (∀ c l e, s.EndConcerned p c e → (s.channel c).live? = some l → r ∉ (s.role e).queue) →
          t.record r = s.record r) ∧
        (∀ r m c l e, s.EndOfOne p c e → (s.channel c).live? = some l → r ∈ (s.role e).queue →
          (s.record r).message? = some m → m.count ≤ 1 → t.record r = .free) ∧
        (s.Coherent → s.HandedOff t (s.discardReceipts (s.tornEntries p)))) ∧
    (s.awaits p (.share .groupController) = false → exec (.groupControllerResetShare p) s = .next s) ∧
    (s.awaits p (.share .groupController) = true →
      let entries := (s.leavingGroups p).flatMap fun e => (s.role e).queue
      ∃ t, exec (.groupControllerResetShare p) s = .next t ∧ t.awaits p (.share .groupController) = false ∧
        (∀ g x, t.group g = .active x → portOf x.publisher ≠ p ∧ ∀ m ∈ x.members, portOf m ≠ p) ∧
        (∀ g x, s.group g = .active x → portOf x.publisher ≠ p → (∀ m ∈ x.members, portOf m ≠ p) →
          t.group g = s.group g) ∧
        (∀ g x, s.group g = .active x → portOf x.publisher = p →
          t.group g = if x.copyInFlight then .dissolving else .free) ∧
        (∀ g, s.group g = .dissolving → t.group g = .dissolving) ∧
        t.channels = s.channels ∧ t.arbiter = s.arbiter ∧ s.SameMemory t ∧ s.SameClock t ∧ s.SameTransfers t ∧
        (∀ g x, s.group g = .active x → portOf x.publisher ≠ p →
          t.group g = .active { x with members := x.members.filter fun m => portOf m ≠ p } ∧
          ((∃ m ∈ x.members, portOf m = p) → s.online (portOf x.publisher) = true →
            t.HasCond (portOf x.publisher) (itemOf (localOf x.publisher)) .members)) ∧
        (∀ e ∈ s.leavingGroups p, t.endpoint e = { s.endpoint e with role := .idle }) ∧
        (∀ e, e ∉ s.leavingGroups p → t.endpoint e = s.endpoint e) ∧
        (∀ g x, s.group g = .active x → portOf x.publisher = p →
          ∀ m ∈ x.members, s.online (portOf m) = true → t.HasCond (portOf m) (itemOf (localOf m)) .groupGone) ∧
        (∀ r, r ∉ entries → t.record r = s.record r) ∧
        (s.Coherent → s.HandedOff t (s.discardReceipts (s.leftEntries p))) ∧
        ((∀ g x, s.group g = .active x → x.members.Nodup ∧ (s.role x.publisher).queue = []) →
          ∀ r m dl, r ∈ entries → s.record r = .live m dl → t.record r = m.discardedTimes (entries.count r) dl))
end

