-- ==== Sys2Proof/Laws/State.lean ====
section
/-! SUPPORT. What each update of the state leaves alone, one lemma for each part of the state, by rfl; and
what reading the updated part gives. -/

namespace Sys2Proof.Machine

/-- Configuration, clock, chip reset and queue, as one value. -/
def State.fixed (s : State) : DeviceConfig × Time × Nat × Bool × List Instr :=
  (s.config, s.now, s.periodsLeft, s.chipReset, s.pending)

/-- Message memory and check codes, as one value. -/
def State.store (s : State) : List Host.Cell × Vector Bool 128 :=
  (s.memory, s.badChecks)

theorem config_of_fixed {s t : State} (h : t.fixed = s.fixed) : t.config = s.config := congrArg (·.1) h
theorem now_of_fixed {s t : State} (h : t.fixed = s.fixed) : t.now = s.now := congrArg (·.2.1) h
theorem periodsLeft_of_fixed {s t : State} (h : t.fixed = s.fixed) : t.periodsLeft = s.periodsLeft :=
  congrArg (·.2.2.1) h
theorem chipReset_of_fixed {s t : State} (h : t.fixed = s.fixed) : t.chipReset = s.chipReset :=
  congrArg (·.2.2.2.1) h
theorem pending_of_fixed {s t : State} (h : t.fixed = s.fixed) : t.pending = s.pending :=
  congrArg (·.2.2.2.2) h
theorem memory_of_store {s t : State} (h : t.store = s.store) : t.memory = s.memory := congrArg (·.1) h
theorem badChecks_of_store {s t : State} (h : t.store = s.store) : t.badChecks = s.badChecks := congrArg (·.2) h

/-- What a port holds besides its receipts, its conditions, its Notification Unit and its account. -/
def PortRec.core (x : PortRec) :
    PortState × Bool × Bool × HostInterface × Staging × Option CopyIn × SendOutcome × ReadBuffer × Option CopyOut ×
      FetchOutcome :=
  (x.state, x.resetInput, x.resetPin, x.host, x.staging, x.sendUnit, x.sendOutcome, x.readBuffer, x.fetchUnit,
    x.fetchOutcome)

def State.cores (s : State) (q : Port) :
    PortState × Bool × Bool × HostInterface × Staging × Option CopyIn × SendOutcome × ReadBuffer × Option CopyOut ×
      FetchOutcome :=
  (s.port q).core

@[simp] theorem port_modPort_self (s : State) (p : Port) (f : PortRec → PortRec) :
    (s.modPort p f).port p = f (s.port p) := by
  simp [State.port, State.modPort]

@[simp] theorem port_modPort_ne (s : State) {p q : Port} (f : PortRec → PortRec) (h : q ≠ p) :
    (s.modPort p f).port q = s.port q := by
  have h' : p.val ≠ q.val := fun e => h (Fin.ext e.symm)
  simp [State.port, State.modPort, h']

/-- A change of a port that keeps its core keeps every core. -/
theorem cores_modPort (s : State) (p : Port) (f : PortRec → PortRec) (h : (f (s.port p)).core = (s.port p).core) :
    (s.modPort p f).cores = s.cores := by
  funext q
  by_cases e : q = p
  · subst e; simpa [State.cores] using h
  · simp [State.cores, e]

theorem core_of_cores {s t : State} (h : t.cores = s.cores) (q : Port) : (t.port q).core = (s.port q).core :=
  congrFun h q

theorem state_of_cores {s t : State} (h : t.cores = s.cores) (q : Port) : (t.port q).state = (s.port q).state :=
  congrArg (·.1) (congrFun h q)

theorem host_of_cores {s t : State} (h : t.cores = s.cores) (q : Port) : (t.port q).host = (s.port q).host :=
  congrArg (·.2.2.2.1) (congrFun h q)

theorem online_of_cores {s t : State} (h : t.cores = s.cores) (q : Port) : t.online q = s.online q := by
  simp [State.online, state_of_cores h q]

/-! ## What an update leaves alone -/

@[simp] theorem modPort_endpoints (s : State) (p : Port) (f : PortRec → PortRec) : (s.modPort p f).endpoints = s.endpoints := rfl
@[simp] theorem modPort_channels (s : State) (p : Port) (f : PortRec → PortRec) : (s.modPort p f).channels = s.channels := rfl
@[simp] theorem modPort_groups (s : State) (p : Port) (f : PortRec → PortRec) : (s.modPort p f).groups = s.groups := rfl
@[simp] theorem modPort_records (s : State) (p : Port) (f : PortRec → PortRec) : (s.modPort p f).records = s.records := rfl
@[simp] theorem modPort_blockPlaces (s : State) (p : Port) (f : PortRec → PortRec) : (s.modPort p f).blockPlaces = s.blockPlaces := rfl
@[simp] theorem modPort_arbiter (s : State) (p : Port) (f : PortRec → PortRec) : (s.modPort p f).arbiter = s.arbiter := rfl
@[simp] theorem modPort_store (s : State) (p : Port) (f : PortRec → PortRec) : (s.modPort p f).store = s.store := rfl
@[simp] theorem modPort_fixed (s : State) (p : Port) (f : PortRec → PortRec) : (s.modPort p f).fixed = s.fixed := rfl
@[simp] theorem modEndpoint_ports (s : State) (e : EpId) (f : Endpoint → Endpoint) : (s.modEndpoint e f).ports = s.ports := rfl
@[simp] theorem modEndpoint_channels (s : State) (e : EpId) (f : Endpoint → Endpoint) : (s.modEndpoint e f).channels = s.channels := rfl
@[simp] theorem modEndpoint_groups (s : State) (e : EpId) (f : Endpoint → Endpoint) : (s.modEndpoint e f).groups = s.groups := rfl
@[simp] theorem modEndpoint_records (s : State) (e : EpId) (f : Endpoint → Endpoint) : (s.modEndpoint e f).records = s.records := rfl
@[simp] theorem modEndpoint_blockPlaces (s : State) (e : EpId) (f : Endpoint → Endpoint) : (s.modEndpoint e f).blockPlaces = s.blockPlaces := rfl
@[simp] theorem modEndpoint_arbiter (s : State) (e : EpId) (f : Endpoint → Endpoint) : (s.modEndpoint e f).arbiter = s.arbiter := rfl
@[simp] theorem modEndpoint_store (s : State) (e : EpId) (f : Endpoint → Endpoint) : (s.modEndpoint e f).store = s.store := rfl
@[simp] theorem modEndpoint_fixed (s : State) (e : EpId) (f : Endpoint → Endpoint) : (s.modEndpoint e f).fixed = s.fixed := rfl
@[simp] theorem modEndpoint_cores (s : State) (e : EpId) (f : Endpoint → Endpoint) : (s.modEndpoint e f).cores = s.cores := rfl
@[simp] theorem setRole_ports (s : State) (e : EpId) (r : Role) : (s.setRole e r).ports = s.ports := rfl
@[simp] theorem setRole_channels (s : State) (e : EpId) (r : Role) : (s.setRole e r).channels = s.channels := rfl
@[simp] theorem setRole_groups (s : State) (e : EpId) (r : Role) : (s.setRole e r).groups = s.groups := rfl
@[simp] theorem setRole_records (s : State) (e : EpId) (r : Role) : (s.setRole e r).records = s.records := rfl
@[simp] theorem setRole_blockPlaces (s : State) (e : EpId) (r : Role) : (s.setRole e r).blockPlaces = s.blockPlaces := rfl
@[simp] theorem setRole_arbiter (s : State) (e : EpId) (r : Role) : (s.setRole e r).arbiter = s.arbiter := rfl
@[simp] theorem setRole_store (s : State) (e : EpId) (r : Role) : (s.setRole e r).store = s.store := rfl
@[simp] theorem setRole_fixed (s : State) (e : EpId) (r : Role) : (s.setRole e r).fixed = s.fixed := rfl
@[simp] theorem setRole_cores (s : State) (e : EpId) (r : Role) : (s.setRole e r).cores = s.cores := rfl
@[simp] theorem setChannel_ports (s : State) (c : ChanId) (x : Channel) : (s.setChannel c x).ports = s.ports := rfl
@[simp] theorem setChannel_endpoints (s : State) (c : ChanId) (x : Channel) : (s.setChannel c x).endpoints = s.endpoints := rfl
@[simp] theorem setChannel_groups (s : State) (c : ChanId) (x : Channel) : (s.setChannel c x).groups = s.groups := rfl
@[simp] theorem setChannel_records (s : State) (c : ChanId) (x : Channel) : (s.setChannel c x).records = s.records := rfl
@[simp] theorem setChannel_blockPlaces (s : State) (c : ChanId) (x : Channel) : (s.setChannel c x).blockPlaces = s.blockPlaces := rfl
@[simp] theorem setChannel_arbiter (s : State) (c : ChanId) (x : Channel) : (s.setChannel c x).arbiter = s.arbiter := rfl
@[simp] theorem setChannel_store (s : State) (c : ChanId) (x : Channel) : (s.setChannel c x).store = s.store := rfl
@[simp] theorem setChannel_fixed (s : State) (c : ChanId) (x : Channel) : (s.setChannel c x).fixed = s.fixed := rfl
@[simp] theorem setChannel_cores (s : State) (c : ChanId) (x : Channel) : (s.setChannel c x).cores = s.cores := rfl
@[simp] theorem setGroup_ports (s : State) (g : GroupId) (x : Group) : (s.setGroup g x).ports = s.ports := rfl
@[simp] theorem setGroup_endpoints (s : State) (g : GroupId) (x : Group) : (s.setGroup g x).endpoints = s.endpoints := rfl
@[simp] theorem setGroup_channels (s : State) (g : GroupId) (x : Group) : (s.setGroup g x).channels = s.channels := rfl
@[simp] theorem setGroup_records (s : State) (g : GroupId) (x : Group) : (s.setGroup g x).records = s.records := rfl
@[simp] theorem setGroup_blockPlaces (s : State) (g : GroupId) (x : Group) : (s.setGroup g x).blockPlaces = s.blockPlaces := rfl
@[simp] theorem setGroup_arbiter (s : State) (g : GroupId) (x : Group) : (s.setGroup g x).arbiter = s.arbiter := rfl
@[simp] theorem setGroup_store (s : State) (g : GroupId) (x : Group) : (s.setGroup g x).store = s.store := rfl
@[simp] theorem setGroup_fixed (s : State) (g : GroupId) (x : Group) : (s.setGroup g x).fixed = s.fixed := rfl
@[simp] theorem setGroup_cores (s : State) (g : GroupId) (x : Group) : (s.setGroup g x).cores = s.cores := rfl
@[simp] theorem setRecord_ports (s : State) (r : RecId) (x : MsgRecord) : (s.setRecord r x).ports = s.ports := rfl
@[simp] theorem setRecord_endpoints (s : State) (r : RecId) (x : MsgRecord) : (s.setRecord r x).endpoints = s.endpoints := rfl
@[simp] theorem setRecord_channels (s : State) (r : RecId) (x : MsgRecord) : (s.setRecord r x).channels = s.channels := rfl
@[simp] theorem setRecord_groups (s : State) (r : RecId) (x : MsgRecord) : (s.setRecord r x).groups = s.groups := rfl
@[simp] theorem setRecord_blockPlaces (s : State) (r : RecId) (x : MsgRecord) : (s.setRecord r x).blockPlaces = s.blockPlaces := rfl
@[simp] theorem setRecord_arbiter (s : State) (r : RecId) (x : MsgRecord) : (s.setRecord r x).arbiter = s.arbiter := rfl
@[simp] theorem setRecord_store (s : State) (r : RecId) (x : MsgRecord) : (s.setRecord r x).store = s.store := rfl
@[simp] theorem setRecord_fixed (s : State) (r : RecId) (x : MsgRecord) : (s.setRecord r x).fixed = s.fixed := rfl
@[simp] theorem setRecord_cores (s : State) (r : RecId) (x : MsgRecord) : (s.setRecord r x).cores = s.cores := rfl
@[simp] theorem placeBlock_ports (s : State) (b : BlockId) (x : BlockPlace) : (s.placeBlock b x).ports = s.ports := rfl
@[simp] theorem placeBlock_endpoints (s : State) (b : BlockId) (x : BlockPlace) : (s.placeBlock b x).endpoints = s.endpoints := rfl
@[simp] theorem placeBlock_channels (s : State) (b : BlockId) (x : BlockPlace) : (s.placeBlock b x).channels = s.channels := rfl
@[simp] theorem placeBlock_groups (s : State) (b : BlockId) (x : BlockPlace) : (s.placeBlock b x).groups = s.groups := rfl
@[simp] theorem placeBlock_records (s : State) (b : BlockId) (x : BlockPlace) : (s.placeBlock b x).records = s.records := rfl
@[simp] theorem placeBlock_arbiter (s : State) (b : BlockId) (x : BlockPlace) : (s.placeBlock b x).arbiter = s.arbiter := rfl
@[simp] theorem placeBlock_store (s : State) (b : BlockId) (x : BlockPlace) : (s.placeBlock b x).store = s.store := rfl
@[simp] theorem placeBlock_fixed (s : State) (b : BlockId) (x : BlockPlace) : (s.placeBlock b x).fixed = s.fixed := rfl
@[simp] theorem placeBlock_cores (s : State) (b : BlockId) (x : BlockPlace) : (s.placeBlock b x).cores = s.cores := rfl
@[simp] theorem placeRequest_ports (s : State) (q : Requester) : (s.placeRequest q).ports = s.ports := rfl
@[simp] theorem placeRequest_endpoints (s : State) (q : Requester) : (s.placeRequest q).endpoints = s.endpoints := rfl
@[simp] theorem placeRequest_channels (s : State) (q : Requester) : (s.placeRequest q).channels = s.channels := rfl
@[simp] theorem placeRequest_groups (s : State) (q : Requester) : (s.placeRequest q).groups = s.groups := rfl
@[simp] theorem placeRequest_records (s : State) (q : Requester) : (s.placeRequest q).records = s.records := rfl
@[simp] theorem placeRequest_blockPlaces (s : State) (q : Requester) : (s.placeRequest q).blockPlaces = s.blockPlaces := rfl
@[simp] theorem placeRequest_store (s : State) (q : Requester) : (s.placeRequest q).store = s.store := rfl
@[simp] theorem placeRequest_fixed (s : State) (q : Requester) : (s.placeRequest q).fixed = s.fixed := rfl
@[simp] theorem placeRequest_cores (s : State) (q : Requester) : (s.placeRequest q).cores = s.cores := rfl
@[simp] theorem dropRequest_ports (s : State) (q : Requester) : (s.dropRequest q).ports = s.ports := rfl
@[simp] theorem dropRequest_endpoints (s : State) (q : Requester) : (s.dropRequest q).endpoints = s.endpoints := rfl
@[simp] theorem dropRequest_channels (s : State) (q : Requester) : (s.dropRequest q).channels = s.channels := rfl
@[simp] theorem dropRequest_groups (s : State) (q : Requester) : (s.dropRequest q).groups = s.groups := rfl
@[simp] theorem dropRequest_records (s : State) (q : Requester) : (s.dropRequest q).records = s.records := rfl
@[simp] theorem dropRequest_blockPlaces (s : State) (q : Requester) : (s.dropRequest q).blockPlaces = s.blockPlaces := rfl
@[simp] theorem dropRequest_store (s : State) (q : Requester) : (s.dropRequest q).store = s.store := rfl
@[simp] theorem dropRequest_fixed (s : State) (q : Requester) : (s.dropRequest q).fixed = s.fixed := rfl
@[simp] theorem dropRequest_cores (s : State) (q : Requester) : (s.dropRequest q).cores = s.cores := rfl
@[simp] theorem grant_ports (s : State) : (s.grant).ports = s.ports := rfl
@[simp] theorem grant_endpoints (s : State) : (s.grant).endpoints = s.endpoints := rfl
@[simp] theorem grant_channels (s : State) : (s.grant).channels = s.channels := rfl
@[simp] theorem grant_groups (s : State) : (s.grant).groups = s.groups := rfl
@[simp] theorem grant_records (s : State) : (s.grant).records = s.records := rfl
@[simp] theorem grant_blockPlaces (s : State) : (s.grant).blockPlaces = s.blockPlaces := rfl
@[simp] theorem grant_store (s : State) : (s.grant).store = s.store := rfl
@[simp] theorem grant_fixed (s : State) : (s.grant).fixed = s.fixed := rfl
@[simp] theorem grant_cores (s : State) : (s.grant).cores = s.cores := rfl
@[simp] theorem setResult_endpoints (s : State) (p : Port) (code : ResultCode) (v : Word) : (s.setResult p code v).endpoints = s.endpoints := rfl
@[simp] theorem setResult_channels (s : State) (p : Port) (code : ResultCode) (v : Word) : (s.setResult p code v).channels = s.channels := rfl
@[simp] theorem setResult_groups (s : State) (p : Port) (code : ResultCode) (v : Word) : (s.setResult p code v).groups = s.groups := rfl
@[simp] theorem setResult_records (s : State) (p : Port) (code : ResultCode) (v : Word) : (s.setResult p code v).records = s.records := rfl
@[simp] theorem setResult_blockPlaces (s : State) (p : Port) (code : ResultCode) (v : Word) : (s.setResult p code v).blockPlaces = s.blockPlaces := rfl
@[simp] theorem setResult_arbiter (s : State) (p : Port) (code : ResultCode) (v : Word) : (s.setResult p code v).arbiter = s.arbiter := rfl
@[simp] theorem setResult_store (s : State) (p : Port) (code : ResultCode) (v : Word) : (s.setResult p code v).store = s.store := rfl
@[simp] theorem setResult_fixed (s : State) (p : Port) (code : ResultCode) (v : Word) : (s.setResult p code v).fixed = s.fixed := rfl
@[simp] theorem writeBlock_ports (s : State) (b : BlockId) (l : List Byte) : (s.writeBlock b l).ports = s.ports := rfl
@[simp] theorem writeBlock_endpoints (s : State) (b : BlockId) (l : List Byte) : (s.writeBlock b l).endpoints = s.endpoints := rfl
@[simp] theorem writeBlock_channels (s : State) (b : BlockId) (l : List Byte) : (s.writeBlock b l).channels = s.channels := rfl
@[simp] theorem writeBlock_groups (s : State) (b : BlockId) (l : List Byte) : (s.writeBlock b l).groups = s.groups := rfl
@[simp] theorem writeBlock_records (s : State) (b : BlockId) (l : List Byte) : (s.writeBlock b l).records = s.records := rfl
@[simp] theorem writeBlock_blockPlaces (s : State) (b : BlockId) (l : List Byte) : (s.writeBlock b l).blockPlaces = s.blockPlaces := rfl
@[simp] theorem writeBlock_arbiter (s : State) (b : BlockId) (l : List Byte) : (s.writeBlock b l).arbiter = s.arbiter := rfl
@[simp] theorem writeBlock_fixed (s : State) (b : BlockId) (l : List Byte) : (s.writeBlock b l).fixed = s.fixed := rfl
@[simp] theorem writeBlock_cores (s : State) (b : BlockId) (l : List Byte) : (s.writeBlock b l).cores = s.cores := rfl
@[simp] theorem removeConds_endpoints (s : State) (p : Port) (it : Item) (x : CondSet) : (s.removeConds p it x).endpoints = s.endpoints := rfl
@[simp] theorem removeConds_channels (s : State) (p : Port) (it : Item) (x : CondSet) : (s.removeConds p it x).channels = s.channels := rfl
@[simp] theorem removeConds_groups (s : State) (p : Port) (it : Item) (x : CondSet) : (s.removeConds p it x).groups = s.groups := rfl
@[simp] theorem removeConds_records (s : State) (p : Port) (it : Item) (x : CondSet) : (s.removeConds p it x).records = s.records := rfl
@[simp] theorem removeConds_blockPlaces (s : State) (p : Port) (it : Item) (x : CondSet) : (s.removeConds p it x).blockPlaces = s.blockPlaces := rfl
@[simp] theorem removeConds_arbiter (s : State) (p : Port) (it : Item) (x : CondSet) : (s.removeConds p it x).arbiter = s.arbiter := rfl
@[simp] theorem removeConds_store (s : State) (p : Port) (it : Item) (x : CondSet) : (s.removeConds p it x).store = s.store := rfl
@[simp] theorem removeConds_fixed (s : State) (p : Port) (it : Item) (x : CondSet) : (s.removeConds p it x).fixed = s.fixed := rfl
@[simp] theorem removeConds_cores (s : State) (p : Port) (it : Item) (x : CondSet) : (s.removeConds p it x).cores = s.cores :=
  cores_modPort _ _ _ rfl
@[simp] theorem reevaluate_endpoints (s : State) (p : Port) : (s.reevaluate p).endpoints = s.endpoints := rfl
@[simp] theorem reevaluate_channels (s : State) (p : Port) : (s.reevaluate p).channels = s.channels := rfl
@[simp] theorem reevaluate_groups (s : State) (p : Port) : (s.reevaluate p).groups = s.groups := rfl
@[simp] theorem reevaluate_records (s : State) (p : Port) : (s.reevaluate p).records = s.records := rfl
@[simp] theorem reevaluate_blockPlaces (s : State) (p : Port) : (s.reevaluate p).blockPlaces = s.blockPlaces := rfl
@[simp] theorem reevaluate_arbiter (s : State) (p : Port) : (s.reevaluate p).arbiter = s.arbiter := rfl
@[simp] theorem reevaluate_store (s : State) (p : Port) : (s.reevaluate p).store = s.store := rfl
@[simp] theorem reevaluate_fixed (s : State) (p : Port) : (s.reevaluate p).fixed = s.fixed := rfl
@[simp] theorem reevaluate_cores (s : State) (p : Port) : (s.reevaluate p).cores = s.cores :=
  cores_modPort _ _ _ rfl
@[simp] theorem report_endpoints (s : State) (p : Port) (r : Report) : (s.report p r).endpoints = s.endpoints := rfl
@[simp] theorem report_channels (s : State) (p : Port) (r : Report) : (s.report p r).channels = s.channels := rfl
@[simp] theorem report_groups (s : State) (p : Port) (r : Report) : (s.report p r).groups = s.groups := rfl
@[simp] theorem report_records (s : State) (p : Port) (r : Report) : (s.report p r).records = s.records := rfl
@[simp] theorem report_blockPlaces (s : State) (p : Port) (r : Report) : (s.report p r).blockPlaces = s.blockPlaces := rfl
@[simp] theorem report_arbiter (s : State) (p : Port) (r : Report) : (s.report p r).arbiter = s.arbiter := rfl
@[simp] theorem report_store (s : State) (p : Port) (r : Report) : (s.report p r).store = s.store := rfl
@[simp] theorem report_fixed (s : State) (p : Port) (r : Report) : (s.report p r).fixed = s.fixed := rfl
@[simp] theorem emptyQueue_ports (s : State) (e : EpId) : (s.emptyQueue e).ports = s.ports := rfl
@[simp] theorem emptyQueue_channels (s : State) (e : EpId) : (s.emptyQueue e).channels = s.channels := rfl
@[simp] theorem emptyQueue_groups (s : State) (e : EpId) : (s.emptyQueue e).groups = s.groups := rfl
@[simp] theorem emptyQueue_records (s : State) (e : EpId) : (s.emptyQueue e).records = s.records := rfl
@[simp] theorem emptyQueue_blockPlaces (s : State) (e : EpId) : (s.emptyQueue e).blockPlaces = s.blockPlaces := rfl
@[simp] theorem emptyQueue_arbiter (s : State) (e : EpId) : (s.emptyQueue e).arbiter = s.arbiter := rfl
@[simp] theorem emptyQueue_store (s : State) (e : EpId) : (s.emptyQueue e).store = s.store := rfl
@[simp] theorem emptyQueue_fixed (s : State) (e : EpId) : (s.emptyQueue e).fixed = s.fixed := rfl
@[simp] theorem emptyQueue_cores (s : State) (e : EpId) : (s.emptyQueue e).cores = s.cores := rfl
@[simp] theorem modMessage_ports (s : State) (r : RecId) (f : Message → Message) : (s.modMessage r f).ports = s.ports := rfl
@[simp] theorem modMessage_endpoints (s : State) (r : RecId) (f : Message → Message) : (s.modMessage r f).endpoints = s.endpoints := rfl
@[simp] theorem modMessage_channels (s : State) (r : RecId) (f : Message → Message) : (s.modMessage r f).channels = s.channels := rfl
@[simp] theorem modMessage_groups (s : State) (r : RecId) (f : Message → Message) : (s.modMessage r f).groups = s.groups := rfl
@[simp] theorem modMessage_blockPlaces (s : State) (r : RecId) (f : Message → Message) : (s.modMessage r f).blockPlaces = s.blockPlaces := rfl
@[simp] theorem modMessage_arbiter (s : State) (r : RecId) (f : Message → Message) : (s.modMessage r f).arbiter = s.arbiter := rfl
@[simp] theorem modMessage_store (s : State) (r : RecId) (f : Message → Message) : (s.modMessage r f).store = s.store := rfl
@[simp] theorem modMessage_fixed (s : State) (r : RecId) (f : Message → Message) : (s.modMessage r f).fixed = s.fixed := rfl
@[simp] theorem modMessage_cores (s : State) (r : RecId) (f : Message → Message) : (s.modMessage r f).cores = s.cores := rfl
@[simp] theorem modAccount_endpoints (s : State) (p : Port) (f : Account → Account) : (s.modAccount p f).endpoints = s.endpoints := rfl
@[simp] theorem modAccount_channels (s : State) (p : Port) (f : Account → Account) : (s.modAccount p f).channels = s.channels := rfl
@[simp] theorem modAccount_groups (s : State) (p : Port) (f : Account → Account) : (s.modAccount p f).groups = s.groups := rfl
@[simp] theorem modAccount_records (s : State) (p : Port) (f : Account → Account) : (s.modAccount p f).records = s.records := rfl
@[simp] theorem modAccount_blockPlaces (s : State) (p : Port) (f : Account → Account) : (s.modAccount p f).blockPlaces = s.blockPlaces := rfl
@[simp] theorem modAccount_arbiter (s : State) (p : Port) (f : Account → Account) : (s.modAccount p f).arbiter = s.arbiter := rfl
@[simp] theorem modAccount_store (s : State) (p : Port) (f : Account → Account) : (s.modAccount p f).store = s.store := rfl
@[simp] theorem modAccount_fixed (s : State) (p : Port) (f : Account → Account) : (s.modAccount p f).fixed = s.fixed := rfl
@[simp] theorem modAccount_cores (s : State) (p : Port) (f : Account → Account) : (s.modAccount p f).cores = s.cores :=
  cores_modPort _ _ _ rfl
@[simp] theorem reserveReceipt_endpoints (s : State) (p : Port) : (s.reserveReceipt p).endpoints = s.endpoints := rfl
@[simp] theorem reserveReceipt_channels (s : State) (p : Port) : (s.reserveReceipt p).channels = s.channels := rfl
@[simp] theorem reserveReceipt_groups (s : State) (p : Port) : (s.reserveReceipt p).groups = s.groups := rfl
@[simp] theorem reserveReceipt_records (s : State) (p : Port) : (s.reserveReceipt p).records = s.records := rfl
@[simp] theorem reserveReceipt_blockPlaces (s : State) (p : Port) : (s.reserveReceipt p).blockPlaces = s.blockPlaces := rfl
@[simp] theorem reserveReceipt_arbiter (s : State) (p : Port) : (s.reserveReceipt p).arbiter = s.arbiter := rfl
@[simp] theorem reserveReceipt_store (s : State) (p : Port) : (s.reserveReceipt p).store = s.store := rfl
@[simp] theorem reserveReceipt_fixed (s : State) (p : Port) : (s.reserveReceipt p).fixed = s.fixed := rfl
@[simp] theorem reserveReceipt_cores (s : State) (p : Port) : (s.reserveReceipt p).cores = s.cores :=
  cores_modPort _ _ _ rfl
@[simp] theorem badMark_ports (s : State) (r : RecId) (b : BlockId) : (s.badMark r b).ports = s.ports := rfl
@[simp] theorem badMark_endpoints (s : State) (r : RecId) (b : BlockId) : (s.badMark r b).endpoints = s.endpoints := rfl
@[simp] theorem badMark_channels (s : State) (r : RecId) (b : BlockId) : (s.badMark r b).channels = s.channels := rfl
@[simp] theorem badMark_groups (s : State) (r : RecId) (b : BlockId) : (s.badMark r b).groups = s.groups := rfl
@[simp] theorem badMark_blockPlaces (s : State) (r : RecId) (b : BlockId) : (s.badMark r b).blockPlaces = s.blockPlaces := rfl
@[simp] theorem badMark_arbiter (s : State) (r : RecId) (b : BlockId) : (s.badMark r b).arbiter = s.arbiter := rfl
@[simp] theorem badMark_store (s : State) (r : RecId) (b : BlockId) : (s.badMark r b).store = s.store := rfl
@[simp] theorem badMark_fixed (s : State) (r : RecId) (b : BlockId) : (s.badMark r b).fixed = s.fixed := rfl
@[simp] theorem badMark_cores (s : State) (r : RecId) (b : BlockId) : (s.badMark r b).cores = s.cores := rfl
@[simp] theorem modLive_ports (s : State) (c : ChanId) (f : LiveChannel → LiveChannel) : (s.modLive c f).ports = s.ports := rfl
@[simp] theorem modLive_endpoints (s : State) (c : ChanId) (f : LiveChannel → LiveChannel) : (s.modLive c f).endpoints = s.endpoints := rfl
@[simp] theorem modLive_groups (s : State) (c : ChanId) (f : LiveChannel → LiveChannel) : (s.modLive c f).groups = s.groups := rfl
@[simp] theorem modLive_records (s : State) (c : ChanId) (f : LiveChannel → LiveChannel) : (s.modLive c f).records = s.records := rfl
@[simp] theorem modLive_blockPlaces (s : State) (c : ChanId) (f : LiveChannel → LiveChannel) : (s.modLive c f).blockPlaces = s.blockPlaces := rfl
@[simp] theorem modLive_arbiter (s : State) (c : ChanId) (f : LiveChannel → LiveChannel) : (s.modLive c f).arbiter = s.arbiter := rfl
@[simp] theorem modLive_store (s : State) (c : ChanId) (f : LiveChannel → LiveChannel) : (s.modLive c f).store = s.store := rfl
@[simp] theorem modLive_fixed (s : State) (c : ChanId) (f : LiveChannel → LiveChannel) : (s.modLive c f).fixed = s.fixed := rfl
@[simp] theorem modLive_cores (s : State) (c : ChanId) (f : LiveChannel → LiveChannel) : (s.modLive c f).cores = s.cores := rfl
@[simp] theorem returnCredit_ports (s : State) (c : ChanId) (d : Dirn) : (s.returnCredit c d).ports = s.ports := rfl
@[simp] theorem returnCredit_endpoints (s : State) (c : ChanId) (d : Dirn) : (s.returnCredit c d).endpoints = s.endpoints := rfl
@[simp] theorem returnCredit_groups (s : State) (c : ChanId) (d : Dirn) : (s.returnCredit c d).groups = s.groups := rfl
@[simp] theorem returnCredit_records (s : State) (c : ChanId) (d : Dirn) : (s.returnCredit c d).records = s.records := rfl
@[simp] theorem returnCredit_blockPlaces (s : State) (c : ChanId) (d : Dirn) : (s.returnCredit c d).blockPlaces = s.blockPlaces := rfl
@[simp] theorem returnCredit_arbiter (s : State) (c : ChanId) (d : Dirn) : (s.returnCredit c d).arbiter = s.arbiter := rfl
@[simp] theorem returnCredit_store (s : State) (c : ChanId) (d : Dirn) : (s.returnCredit c d).store = s.store := rfl
@[simp] theorem returnCredit_fixed (s : State) (c : ChanId) (d : Dirn) : (s.returnCredit c d).fixed = s.fixed := rfl
@[simp] theorem returnCredit_cores (s : State) (c : ChanId) (d : Dirn) : (s.returnCredit c d).cores = s.cores := rfl
@[simp] theorem beginTransfer_ports (s : State) (c : ChanId) : (s.beginTransfer c).ports = s.ports := rfl
@[simp] theorem beginTransfer_endpoints (s : State) (c : ChanId) : (s.beginTransfer c).endpoints = s.endpoints := rfl
@[simp] theorem beginTransfer_groups (s : State) (c : ChanId) : (s.beginTransfer c).groups = s.groups := rfl
@[simp] theorem beginTransfer_records (s : State) (c : ChanId) : (s.beginTransfer c).records = s.records := rfl
@[simp] theorem beginTransfer_blockPlaces (s : State) (c : ChanId) : (s.beginTransfer c).blockPlaces = s.blockPlaces := rfl
@[simp] theorem beginTransfer_arbiter (s : State) (c : ChanId) : (s.beginTransfer c).arbiter = s.arbiter := rfl
@[simp] theorem beginTransfer_store (s : State) (c : ChanId) : (s.beginTransfer c).store = s.store := rfl
@[simp] theorem beginTransfer_fixed (s : State) (c : ChanId) : (s.beginTransfer c).fixed = s.fixed := rfl
@[simp] theorem beginTransfer_cores (s : State) (c : ChanId) : (s.beginTransfer c).cores = s.cores := rfl
@[simp] theorem endTransfer_ports (s : State) (c : ChanId) : (s.endTransfer c).ports = s.ports := rfl
@[simp] theorem endTransfer_endpoints (s : State) (c : ChanId) : (s.endTransfer c).endpoints = s.endpoints := rfl
@[simp] theorem endTransfer_groups (s : State) (c : ChanId) : (s.endTransfer c).groups = s.groups := rfl
@[simp] theorem endTransfer_records (s : State) (c : ChanId) : (s.endTransfer c).records = s.records := rfl
@[simp] theorem endTransfer_blockPlaces (s : State) (c : ChanId) : (s.endTransfer c).blockPlaces = s.blockPlaces := rfl
@[simp] theorem endTransfer_arbiter (s : State) (c : ChanId) : (s.endTransfer c).arbiter = s.arbiter := rfl
@[simp] theorem endTransfer_store (s : State) (c : ChanId) : (s.endTransfer c).store = s.store := rfl
@[simp] theorem endTransfer_fixed (s : State) (c : ChanId) : (s.endTransfer c).fixed = s.fixed := rfl
@[simp] theorem endTransfer_cores (s : State) (c : ChanId) : (s.endTransfer c).cores = s.cores := rfl
@[simp] theorem sendUnitDone_endpoints (s : State) (p : Port) : (s.sendUnitDone p).endpoints = s.endpoints := rfl
@[simp] theorem sendUnitDone_channels (s : State) (p : Port) : (s.sendUnitDone p).channels = s.channels := rfl
@[simp] theorem sendUnitDone_groups (s : State) (p : Port) : (s.sendUnitDone p).groups = s.groups := rfl
@[simp] theorem sendUnitDone_records (s : State) (p : Port) : (s.sendUnitDone p).records = s.records := rfl
@[simp] theorem sendUnitDone_blockPlaces (s : State) (p : Port) : (s.sendUnitDone p).blockPlaces = s.blockPlaces := rfl
@[simp] theorem sendUnitDone_arbiter (s : State) (p : Port) : (s.sendUnitDone p).arbiter = s.arbiter := rfl
@[simp] theorem sendUnitDone_store (s : State) (p : Port) : (s.sendUnitDone p).store = s.store := rfl
@[simp] theorem sendUnitDone_fixed (s : State) (p : Port) : (s.sendUnitDone p).fixed = s.fixed := rfl
@[simp] theorem storeRead_endpoints (s : State) (p : Port) (k : Nat) (b : BlockId) : (s.storeRead p k b).endpoints = s.endpoints := rfl
@[simp] theorem storeRead_channels (s : State) (p : Port) (k : Nat) (b : BlockId) : (s.storeRead p k b).channels = s.channels := rfl
@[simp] theorem storeRead_groups (s : State) (p : Port) (k : Nat) (b : BlockId) : (s.storeRead p k b).groups = s.groups := rfl
@[simp] theorem storeRead_records (s : State) (p : Port) (k : Nat) (b : BlockId) : (s.storeRead p k b).records = s.records := rfl
@[simp] theorem storeRead_blockPlaces (s : State) (p : Port) (k : Nat) (b : BlockId) : (s.storeRead p k b).blockPlaces = s.blockPlaces := rfl
@[simp] theorem storeRead_arbiter (s : State) (p : Port) (k : Nat) (b : BlockId) : (s.storeRead p k b).arbiter = s.arbiter := rfl
@[simp] theorem storeRead_store (s : State) (p : Port) (k : Nat) (b : BlockId) : (s.storeRead p k b).store = s.store := rfl
@[simp] theorem storeRead_fixed (s : State) (p : Port) (k : Nat) (b : BlockId) : (s.storeRead p k b).fixed = s.fixed := rfl
@[simp] theorem memoryManagerShare_ports (s : State) (p : Port) : (s.memoryManagerShare p).ports = s.ports := rfl
@[simp] theorem memoryManagerShare_endpoints (s : State) (p : Port) : (s.memoryManagerShare p).endpoints = s.endpoints := rfl
@[simp] theorem memoryManagerShare_channels (s : State) (p : Port) : (s.memoryManagerShare p).channels = s.channels := rfl
@[simp] theorem memoryManagerShare_groups (s : State) (p : Port) : (s.memoryManagerShare p).groups = s.groups := rfl
@[simp] theorem memoryManagerShare_blockPlaces (s : State) (p : Port) : (s.memoryManagerShare p).blockPlaces = s.blockPlaces := rfl
@[simp] theorem memoryManagerShare_arbiter (s : State) (p : Port) : (s.memoryManagerShare p).arbiter = s.arbiter := rfl
@[simp] theorem memoryManagerShare_store (s : State) (p : Port) : (s.memoryManagerShare p).store = s.store := rfl
@[simp] theorem memoryManagerShare_fixed (s : State) (p : Port) : (s.memoryManagerShare p).fixed = s.fixed := rfl
@[simp] theorem memoryManagerShare_cores (s : State) (p : Port) : (s.memoryManagerShare p).cores = s.cores := rfl
@[simp] theorem receiptUnitShare_endpoints (s : State) (p : Port) : (s.receiptUnitShare p).endpoints = s.endpoints := rfl
@[simp] theorem receiptUnitShare_channels (s : State) (p : Port) : (s.receiptUnitShare p).channels = s.channels := rfl
@[simp] theorem receiptUnitShare_groups (s : State) (p : Port) : (s.receiptUnitShare p).groups = s.groups := rfl
@[simp] theorem receiptUnitShare_records (s : State) (p : Port) : (s.receiptUnitShare p).records = s.records := rfl
@[simp] theorem receiptUnitShare_blockPlaces (s : State) (p : Port) : (s.receiptUnitShare p).blockPlaces = s.blockPlaces := rfl
@[simp] theorem receiptUnitShare_arbiter (s : State) (p : Port) : (s.receiptUnitShare p).arbiter = s.arbiter := rfl
@[simp] theorem receiptUnitShare_store (s : State) (p : Port) : (s.receiptUnitShare p).store = s.store := rfl
@[simp] theorem receiptUnitShare_fixed (s : State) (p : Port) : (s.receiptUnitShare p).fixed = s.fixed := rfl
@[simp] theorem attentionShare_endpoints (s : State) (p : Port) : (s.attentionShare p).endpoints = s.endpoints := rfl
@[simp] theorem attentionShare_channels (s : State) (p : Port) : (s.attentionShare p).channels = s.channels := rfl
@[simp] theorem attentionShare_groups (s : State) (p : Port) : (s.attentionShare p).groups = s.groups := rfl
@[simp] theorem attentionShare_records (s : State) (p : Port) : (s.attentionShare p).records = s.records := rfl
@[simp] theorem attentionShare_blockPlaces (s : State) (p : Port) : (s.attentionShare p).blockPlaces = s.blockPlaces := rfl
@[simp] theorem attentionShare_arbiter (s : State) (p : Port) : (s.attentionShare p).arbiter = s.arbiter := rfl
@[simp] theorem attentionShare_store (s : State) (p : Port) : (s.attentionShare p).store = s.store := rfl
@[simp] theorem attentionShare_fixed (s : State) (p : Port) : (s.attentionShare p).fixed = s.fixed := rfl

/-! ## Reading what an update wrote -/

theorem port_modPort (s : State) (p q : Port) (f : PortRec → PortRec) :
    (s.modPort p f).port q = if q = p then f (s.port p) else s.port q := by
  by_cases h : q = p
  · subst h; simp
  · simp [h]

@[simp] theorem endpoint_modEndpoint_self (s : State) (e : EpId) (f : Endpoint → Endpoint) :
    (s.modEndpoint e f).endpoint e = f (s.endpoint e) := by
  simp [State.endpoint, State.modEndpoint]

@[simp] theorem endpoint_modEndpoint_ne (s : State) {e k : EpId} (f : Endpoint → Endpoint) (h : k ≠ e) :
    (s.modEndpoint e f).endpoint k = s.endpoint k := by
  have h' : e.val ≠ k.val := fun x => h (Fin.ext x.symm)
  simp [State.endpoint, State.modEndpoint, h']

theorem endpoint_modEndpoint (s : State) (e k : EpId) (f : Endpoint → Endpoint) :
    (s.modEndpoint e f).endpoint k = if k = e then f (s.endpoint e) else s.endpoint k := by
  by_cases h : k = e
  · subst h; simp
  · simp [h]

@[simp] theorem channel_setChannel_self (s : State) (c : ChanId) (x : Channel) : (s.setChannel c x).channel c = x := by
  simp [State.channel, State.setChannel]

@[simp] theorem channel_setChannel_ne (s : State) {c k : ChanId} (x : Channel) (h : k ≠ c) :
    (s.setChannel c x).channel k = s.channel k := by
  have h' : c.val ≠ k.val := fun e => h (Fin.ext e.symm)
  simp [State.channel, State.setChannel, h']

@[simp] theorem group_setGroup_self (s : State) (g : GroupId) (x : Group) : (s.setGroup g x).group g = x := by
  simp [State.group, State.setGroup]

@[simp] theorem group_setGroup_ne (s : State) {g k : GroupId} (x : Group) (h : k ≠ g) :
    (s.setGroup g x).group k = s.group k := by
  have h' : g.val ≠ k.val := fun e => h (Fin.ext e.symm)
  simp [State.group, State.setGroup, h']

@[simp] theorem record_setRecord_self (s : State) (r : RecId) (x : MsgRecord) : (s.setRecord r x).record r = x := by
  simp [State.record, State.setRecord]

@[simp] theorem record_setRecord_ne (s : State) {r k : RecId} (x : MsgRecord) (h : k ≠ r) :
    (s.setRecord r x).record k = s.record k := by
  have h' : r.val ≠ k.val := fun e => h (Fin.ext e.symm)
  simp [State.record, State.setRecord, h']

@[simp] theorem place_placeBlock_self (s : State) (b : BlockId) (x : BlockPlace) :
    (s.placeBlock b x).blockPlaces[b] = x := by
  simp [State.placeBlock]

@[simp] theorem place_placeBlock_ne (s : State) {b k : BlockId} (x : BlockPlace) (h : k ≠ b) :
    (s.placeBlock b x).blockPlaces[k] = s.blockPlaces[k] := by
  have h' : b.val ≠ k.val := fun e => h (Fin.ext e.symm)
  simp [State.placeBlock, h']

/-- Reading a part of the state through its accessor depends on that part alone. -/
theorem port_congr {s t : State} (h : t.ports = s.ports) (p : Port) : t.port p = s.port p := by
  simp [State.port, h]

theorem endpoint_congr {s t : State} (h : t.endpoints = s.endpoints) (e : EpId) : t.endpoint e = s.endpoint e := by
  simp [State.endpoint, h]

theorem channel_congr {s t : State} (h : t.channels = s.channels) (c : ChanId) : t.channel c = s.channel c := by
  simp [State.channel, h]

theorem group_congr {s t : State} (h : t.groups = s.groups) (g : GroupId) : t.group g = s.group g := by
  simp [State.group, h]

theorem record_congr {s t : State} (h : t.records = s.records) (r : RecId) : t.record r = s.record r := by
  simp [State.record, h]

theorem mapVector_get {α β : Type} {n : Nat} (f : α → β) (v : Vector α n) (i : Fin n) :
    (mapVector f v)[i] = f v[i] := by
  simp [mapVector]

end Sys2Proof.Machine
end

