-- ==== Sys2Proof/Laws/Frames.lean ====
section
/-! SUPPORT. The frame of every shared operation: which parts of the state it leaves alone. -/

set_option linter.all false

namespace Sys2Proof.Machine

theorem foldl_keeps {α β : Type} (f : State → α → State) (g : State → β) (h : ∀ s a, g (f s a) = g s) :
    ∀ (l : List α) (s : State), g (l.foldl f s) = g s
  | [], _ => rfl
  | a :: l, s => by rw [List.foldl_cons, foldl_keeps f g h l, h]

theorem foldl_ports {α : Type} (f : State → α → State) (h : ∀ s a, (f s a).ports = s.ports) (l : List α) (s : State) :
    (l.foldl f s).ports = s.ports :=
  foldl_keeps f State.ports h l s

theorem foldl_endpoints {α : Type} (f : State → α → State) (h : ∀ s a, (f s a).endpoints = s.endpoints) (l : List α) (s : State) :
    (l.foldl f s).endpoints = s.endpoints :=
  foldl_keeps f State.endpoints h l s

theorem foldl_channels {α : Type} (f : State → α → State) (h : ∀ s a, (f s a).channels = s.channels) (l : List α) (s : State) :
    (l.foldl f s).channels = s.channels :=
  foldl_keeps f State.channels h l s

theorem foldl_groups {α : Type} (f : State → α → State) (h : ∀ s a, (f s a).groups = s.groups) (l : List α) (s : State) :
    (l.foldl f s).groups = s.groups :=
  foldl_keeps f State.groups h l s

theorem foldl_records {α : Type} (f : State → α → State) (h : ∀ s a, (f s a).records = s.records) (l : List α) (s : State) :
    (l.foldl f s).records = s.records :=
  foldl_keeps f State.records h l s

theorem foldl_blockPlaces {α : Type} (f : State → α → State) (h : ∀ s a, (f s a).blockPlaces = s.blockPlaces) (l : List α) (s : State) :
    (l.foldl f s).blockPlaces = s.blockPlaces :=
  foldl_keeps f State.blockPlaces h l s

theorem foldl_arbiter {α : Type} (f : State → α → State) (h : ∀ s a, (f s a).arbiter = s.arbiter) (l : List α) (s : State) :
    (l.foldl f s).arbiter = s.arbiter :=
  foldl_keeps f State.arbiter h l s

theorem foldl_store {α : Type} (f : State → α → State) (h : ∀ s a, (f s a).store = s.store) (l : List α) (s : State) :
    (l.foldl f s).store = s.store :=
  foldl_keeps f State.store h l s

theorem foldl_fixed {α : Type} (f : State → α → State) (h : ∀ s a, (f s a).fixed = s.fixed) (l : List α) (s : State) :
    (l.foldl f s).fixed = s.fixed :=
  foldl_keeps f State.fixed h l s

theorem foldl_cores {α : Type} (f : State → α → State) (h : ∀ s a, (f s a).cores = s.cores) (l : List α) (s : State) :
    (l.foldl f s).cores = s.cores :=
  foldl_keeps f State.cores h l s

@[simp] theorem setCond_endpoints (s : State) (p : Port) (it : Item) (c : Cond) : (s.setCond p it c).endpoints = s.endpoints := by
  unfold State.setCond; (repeat' split) <;> simp

@[simp] theorem setCond_channels (s : State) (p : Port) (it : Item) (c : Cond) : (s.setCond p it c).channels = s.channels := by
  unfold State.setCond; (repeat' split) <;> simp

@[simp] theorem setCond_groups (s : State) (p : Port) (it : Item) (c : Cond) : (s.setCond p it c).groups = s.groups := by
  unfold State.setCond; (repeat' split) <;> simp

@[simp] theorem setCond_records (s : State) (p : Port) (it : Item) (c : Cond) : (s.setCond p it c).records = s.records := by
  unfold State.setCond; (repeat' split) <;> simp

@[simp] theorem setCond_blockPlaces (s : State) (p : Port) (it : Item) (c : Cond) : (s.setCond p it c).blockPlaces = s.blockPlaces := by
  unfold State.setCond; (repeat' split) <;> simp

@[simp] theorem setCond_arbiter (s : State) (p : Port) (it : Item) (c : Cond) : (s.setCond p it c).arbiter = s.arbiter := by
  unfold State.setCond; (repeat' split) <;> simp

@[simp] theorem setCond_store (s : State) (p : Port) (it : Item) (c : Cond) : (s.setCond p it c).store = s.store := by
  unfold State.setCond; (repeat' split) <;> simp

@[simp] theorem setCond_fixed (s : State) (p : Port) (it : Item) (c : Cond) : (s.setCond p it c).fixed = s.fixed := by
  unfold State.setCond; (repeat' split) <;> simp

@[simp] theorem setCond_cores (s : State) (p : Port) (it : Item) (c : Cond) : (s.setCond p it c).cores = s.cores := by
  unfold State.setCond; split
  · exact cores_modPort _ _ _ rfl
  · rfl

@[simp] theorem setEndpointCond_endpoints (s : State) (e : EpId) (c : Cond) : (s.setEndpointCond e c).endpoints = s.endpoints := by
  unfold State.setEndpointCond; (repeat' split) <;> simp

@[simp] theorem setEndpointCond_channels (s : State) (e : EpId) (c : Cond) : (s.setEndpointCond e c).channels = s.channels := by
  unfold State.setEndpointCond; (repeat' split) <;> simp

@[simp] theorem setEndpointCond_groups (s : State) (e : EpId) (c : Cond) : (s.setEndpointCond e c).groups = s.groups := by
  unfold State.setEndpointCond; (repeat' split) <;> simp

@[simp] theorem setEndpointCond_records (s : State) (e : EpId) (c : Cond) : (s.setEndpointCond e c).records = s.records := by
  unfold State.setEndpointCond; (repeat' split) <;> simp

@[simp] theorem setEndpointCond_blockPlaces (s : State) (e : EpId) (c : Cond) : (s.setEndpointCond e c).blockPlaces = s.blockPlaces := by
  unfold State.setEndpointCond; (repeat' split) <;> simp

@[simp] theorem setEndpointCond_arbiter (s : State) (e : EpId) (c : Cond) : (s.setEndpointCond e c).arbiter = s.arbiter := by
  unfold State.setEndpointCond; (repeat' split) <;> simp

@[simp] theorem setEndpointCond_store (s : State) (e : EpId) (c : Cond) : (s.setEndpointCond e c).store = s.store := by
  unfold State.setEndpointCond; (repeat' split) <;> simp

@[simp] theorem setEndpointCond_fixed (s : State) (e : EpId) (c : Cond) : (s.setEndpointCond e c).fixed = s.fixed := by
  unfold State.setEndpointCond; (repeat' split) <;> simp

@[simp] theorem setEndpointCond_cores (s : State) (e : EpId) (c : Cond) : (s.setEndpointCond e c).cores = s.cores := by
  unfold State.setEndpointCond; (repeat' split) <;> simp

@[simp] theorem setPortCond_endpoints (s : State) (p : Port) (c : Cond) : (s.setPortCond p c).endpoints = s.endpoints := by
  unfold State.setPortCond; (repeat' split) <;> simp

@[simp] theorem setPortCond_channels (s : State) (p : Port) (c : Cond) : (s.setPortCond p c).channels = s.channels := by
  unfold State.setPortCond; (repeat' split) <;> simp

@[simp] theorem setPortCond_groups (s : State) (p : Port) (c : Cond) : (s.setPortCond p c).groups = s.groups := by
  unfold State.setPortCond; (repeat' split) <;> simp

@[simp] theorem setPortCond_records (s : State) (p : Port) (c : Cond) : (s.setPortCond p c).records = s.records := by
  unfold State.setPortCond; (repeat' split) <;> simp

@[simp] theorem setPortCond_blockPlaces (s : State) (p : Port) (c : Cond) : (s.setPortCond p c).blockPlaces = s.blockPlaces := by
  unfold State.setPortCond; (repeat' split) <;> simp

@[simp] theorem setPortCond_arbiter (s : State) (p : Port) (c : Cond) : (s.setPortCond p c).arbiter = s.arbiter := by
  unfold State.setPortCond; (repeat' split) <;> simp

@[simp] theorem setPortCond_store (s : State) (p : Port) (c : Cond) : (s.setPortCond p c).store = s.store := by
  unfold State.setPortCond; (repeat' split) <;> simp

@[simp] theorem setPortCond_fixed (s : State) (p : Port) (c : Cond) : (s.setPortCond p c).fixed = s.fixed := by
  unfold State.setPortCond; (repeat' split) <;> simp

@[simp] theorem setPortCond_cores (s : State) (p : Port) (c : Cond) : (s.setPortCond p c).cores = s.cores := by
  unfold State.setPortCond; (repeat' split) <;> simp

@[simp] theorem reevaluateAll_endpoints (s : State) : (s.reevaluateAll).endpoints = s.endpoints := by
  unfold State.reevaluateAll
  repeat' first
    | (simp; done)
    | (intros; simp; done)
    | rw [foldl_endpoints]
    | split
    | (simp only []; split)
    | (simp; rw [foldl_endpoints])
    | (simp; split)

@[simp] theorem reevaluateAll_channels (s : State) : (s.reevaluateAll).channels = s.channels := by
  unfold State.reevaluateAll
  repeat' first
    | (simp; done)
    | (intros; simp; done)
    | rw [foldl_channels]
    | split
    | (simp only []; split)
    | (simp; rw [foldl_channels])
    | (simp; split)

@[simp] theorem reevaluateAll_groups (s : State) : (s.reevaluateAll).groups = s.groups := by
  unfold State.reevaluateAll
  repeat' first
    | (simp; done)
    | (intros; simp; done)
    | rw [foldl_groups]
    | split
    | (simp only []; split)
    | (simp; rw [foldl_groups])
    | (simp; split)

@[simp] theorem reevaluateAll_records (s : State) : (s.reevaluateAll).records = s.records := by
  unfold State.reevaluateAll
  repeat' first
    | (simp; done)
    | (intros; simp; done)
    | rw [foldl_records]
    | split
    | (simp only []; split)
    | (simp; rw [foldl_records])
    | (simp; split)

@[simp] theorem reevaluateAll_blockPlaces (s : State) : (s.reevaluateAll).blockPlaces = s.blockPlaces := by
  unfold State.reevaluateAll
  repeat' first
    | (simp; done)
    | (intros; simp; done)
    | rw [foldl_blockPlaces]
    | split
    | (simp only []; split)
    | (simp; rw [foldl_blockPlaces])
    | (simp; split)

@[simp] theorem reevaluateAll_arbiter (s : State) : (s.reevaluateAll).arbiter = s.arbiter := by
  unfold State.reevaluateAll
  repeat' first
    | (simp; done)
    | (intros; simp; done)
    | rw [foldl_arbiter]
    | split
    | (simp only []; split)
    | (simp; rw [foldl_arbiter])
    | (simp; split)

@[simp] theorem reevaluateAll_store (s : State) : (s.reevaluateAll).store = s.store := by
  unfold State.reevaluateAll
  repeat' first
    | (simp; done)
    | (intros; simp; done)
    | rw [foldl_store]
    | split
    | (simp only []; split)
    | (simp; rw [foldl_store])
    | (simp; split)

@[simp] theorem reevaluateAll_fixed (s : State) : (s.reevaluateAll).fixed = s.fixed := by
  unfold State.reevaluateAll
  repeat' first
    | (simp; done)
    | (intros; simp; done)
    | rw [foldl_fixed]
    | split
    | (simp only []; split)
    | (simp; rw [foldl_fixed])
    | (simp; split)

@[simp] theorem reevaluateAll_cores (s : State) : (s.reevaluateAll).cores = s.cores := by
  unfold State.reevaluateAll
  repeat' first
    | (simp; done)
    | (intros; simp; done)
    | rw [foldl_cores]
    | split
    | (simp only []; split)
    | (simp; rw [foldl_cores])
    | (simp; split)

@[simp] theorem tellPeers_endpoints (s : State) (p : Port) : (s.tellPeers p).endpoints = s.endpoints := by
  unfold State.tellPeers
  repeat' first
    | (simp; done)
    | (intros; simp; done)
    | rw [foldl_endpoints]
    | split
    | (simp only []; split)
    | (simp; rw [foldl_endpoints])
    | (simp; split)

@[simp] theorem tellPeers_channels (s : State) (p : Port) : (s.tellPeers p).channels = s.channels := by
  unfold State.tellPeers
  repeat' first
    | (simp; done)
    | (intros; simp; done)
    | rw [foldl_channels]
    | split
    | (simp only []; split)
    | (simp; rw [foldl_channels])
    | (simp; split)

@[simp] theorem tellPeers_groups (s : State) (p : Port) : (s.tellPeers p).groups = s.groups := by
  unfold State.tellPeers
  repeat' first
    | (simp; done)
    | (intros; simp; done)
    | rw [foldl_groups]
    | split
    | (simp only []; split)
    | (simp; rw [foldl_groups])
    | (simp; split)

@[simp] theorem tellPeers_records (s : State) (p : Port) : (s.tellPeers p).records = s.records := by
  unfold State.tellPeers
  repeat' first
    | (simp; done)
    | (intros; simp; done)
    | rw [foldl_records]
    | split
    | (simp only []; split)
    | (simp; rw [foldl_records])
    | (simp; split)

@[simp] theorem tellPeers_blockPlaces (s : State) (p : Port) : (s.tellPeers p).blockPlaces = s.blockPlaces := by
  unfold State.tellPeers
  repeat' first
    | (simp; done)
    | (intros; simp; done)
    | rw [foldl_blockPlaces]
    | split
    | (simp only []; split)
    | (simp; rw [foldl_blockPlaces])
    | (simp; split)

@[simp] theorem tellPeers_arbiter (s : State) (p : Port) : (s.tellPeers p).arbiter = s.arbiter := by
  unfold State.tellPeers
  repeat' first
    | (simp; done)
    | (intros; simp; done)
    | rw [foldl_arbiter]
    | split
    | (simp only []; split)
    | (simp; rw [foldl_arbiter])
    | (simp; split)

@[simp] theorem tellPeers_store (s : State) (p : Port) : (s.tellPeers p).store = s.store := by
  unfold State.tellPeers
  repeat' first
    | (simp; done)
    | (intros; simp; done)
    | rw [foldl_store]
    | split
    | (simp only []; split)
    | (simp; rw [foldl_store])
    | (simp; split)

@[simp] theorem tellPeers_fixed (s : State) (p : Port) : (s.tellPeers p).fixed = s.fixed := by
  unfold State.tellPeers
  repeat' first
    | (simp; done)
    | (intros; simp; done)
    | rw [foldl_fixed]
    | split
    | (simp only []; split)
    | (simp; rw [foldl_fixed])
    | (simp; split)

@[simp] theorem tellPeers_cores (s : State) (p : Port) : (s.tellPeers p).cores = s.cores := by
  unfold State.tellPeers
  repeat' first
    | (simp; done)
    | (intros; simp; done)
    | rw [foldl_cores]
    | split
    | (simp only []; split)
    | (simp; rw [foldl_cores])
    | (simp; split)

@[simp] theorem append_channels (s : State) (e : EpId) (r : RecId) : (s.append e r).channels = s.channels := by
  unfold State.append; (repeat' split) <;> simp

@[simp] theorem append_groups (s : State) (e : EpId) (r : RecId) : (s.append e r).groups = s.groups := by
  unfold State.append; (repeat' split) <;> simp

@[simp] theorem append_records (s : State) (e : EpId) (r : RecId) : (s.append e r).records = s.records := by
  unfold State.append; (repeat' split) <;> simp

@[simp] theorem append_blockPlaces (s : State) (e : EpId) (r : RecId) : (s.append e r).blockPlaces = s.blockPlaces := by
  unfold State.append; (repeat' split) <;> simp

@[simp] theorem append_arbiter (s : State) (e : EpId) (r : RecId) : (s.append e r).arbiter = s.arbiter := by
  unfold State.append; (repeat' split) <;> simp

@[simp] theorem append_store (s : State) (e : EpId) (r : RecId) : (s.append e r).store = s.store := by
  unfold State.append; (repeat' split) <;> simp

@[simp] theorem append_fixed (s : State) (e : EpId) (r : RecId) : (s.append e r).fixed = s.fixed := by
  unfold State.append; (repeat' split) <;> simp

@[simp] theorem append_cores (s : State) (e : EpId) (r : RecId) : (s.append e r).cores = s.cores := by
  unfold State.append; (repeat' split) <;> simp

@[simp] theorem allocate_endpoints (s : State) (r : RecId) (m : Message) : (s.allocate r m).endpoints = s.endpoints := by
  unfold State.allocate
  repeat' first
    | (simp; done)
    | (intros; simp; done)
    | rw [foldl_endpoints]
    | split
    | (simp only []; split)
    | (simp; rw [foldl_endpoints])
    | (simp; split)

@[simp] theorem allocate_channels (s : State) (r : RecId) (m : Message) : (s.allocate r m).channels = s.channels := by
  unfold State.allocate
  repeat' first
    | (simp; done)
    | (intros; simp; done)
    | rw [foldl_channels]
    | split
    | (simp only []; split)
    | (simp; rw [foldl_channels])
    | (simp; split)

@[simp] theorem allocate_groups (s : State) (r : RecId) (m : Message) : (s.allocate r m).groups = s.groups := by
  unfold State.allocate
  repeat' first
    | (simp; done)
    | (intros; simp; done)
    | rw [foldl_groups]
    | split
    | (simp only []; split)
    | (simp; rw [foldl_groups])
    | (simp; split)

@[simp] theorem allocate_arbiter (s : State) (r : RecId) (m : Message) : (s.allocate r m).arbiter = s.arbiter := by
  unfold State.allocate
  repeat' first
    | (simp; done)
    | (intros; simp; done)
    | rw [foldl_arbiter]
    | split
    | (simp only []; split)
    | (simp; rw [foldl_arbiter])
    | (simp; split)

@[simp] theorem allocate_store (s : State) (r : RecId) (m : Message) : (s.allocate r m).store = s.store := by
  unfold State.allocate
  repeat' first
    | (simp; done)
    | (intros; simp; done)
    | rw [foldl_store]
    | split
    | (simp only []; split)
    | (simp; rw [foldl_store])
    | (simp; split)

@[simp] theorem allocate_fixed (s : State) (r : RecId) (m : Message) : (s.allocate r m).fixed = s.fixed := by
  unfold State.allocate
  repeat' first
    | (simp; done)
    | (intros; simp; done)
    | rw [foldl_fixed]
    | split
    | (simp only []; split)
    | (simp; rw [foldl_fixed])
    | (simp; split)

@[simp] theorem allocate_cores (s : State) (r : RecId) (m : Message) : (s.allocate r m).cores = s.cores := by
  unfold State.allocate
  repeat' first
    | (simp; done)
    | (intros; simp; done)
    | rw [foldl_cores]
    | split
    | (simp only []; split)
    | (simp; rw [foldl_cores])
    | (simp; split)

@[simp] theorem handOff_endpoints (s : State) (p : Port) (rc : Receipt) : (s.handOff p rc).endpoints = s.endpoints := by
  unfold State.handOff; (repeat' split) <;> simp

@[simp] theorem handOff_channels (s : State) (p : Port) (rc : Receipt) : (s.handOff p rc).channels = s.channels := by
  unfold State.handOff; (repeat' split) <;> simp

@[simp] theorem handOff_groups (s : State) (p : Port) (rc : Receipt) : (s.handOff p rc).groups = s.groups := by
  unfold State.handOff; (repeat' split) <;> simp

@[simp] theorem handOff_records (s : State) (p : Port) (rc : Receipt) : (s.handOff p rc).records = s.records := by
  unfold State.handOff; (repeat' split) <;> simp

@[simp] theorem handOff_blockPlaces (s : State) (p : Port) (rc : Receipt) : (s.handOff p rc).blockPlaces = s.blockPlaces := by
  unfold State.handOff; (repeat' split) <;> simp

@[simp] theorem handOff_arbiter (s : State) (p : Port) (rc : Receipt) : (s.handOff p rc).arbiter = s.arbiter := by
  unfold State.handOff; (repeat' split) <;> simp

@[simp] theorem handOff_store (s : State) (p : Port) (rc : Receipt) : (s.handOff p rc).store = s.store := by
  unfold State.handOff; (repeat' split) <;> simp

@[simp] theorem handOff_fixed (s : State) (p : Port) (rc : Receipt) : (s.handOff p rc).fixed = s.fixed := by
  unfold State.handOff; (repeat' split) <;> simp

@[simp] theorem handOff_cores (s : State) (p : Port) (rc : Receipt) : (s.handOff p rc).cores = s.cores := by
  unfold State.handOff; split
  · rw [setPortCond_cores]; exact cores_modPort _ _ _ rfl
  · exact cores_modPort _ _ _ rfl

@[simp] theorem release_endpoints (s : State) (r : RecId) (m : Message) (cause : Cause) : (s.release r m cause).endpoints = s.endpoints := by
  unfold State.release
  repeat' first
    | (simp; done)
    | (intros; simp; done)
    | rw [foldl_endpoints]
    | split
    | (simp only []; split)
    | (simp; rw [foldl_endpoints])
    | (simp; split)

@[simp] theorem release_channels (s : State) (r : RecId) (m : Message) (cause : Cause) : (s.release r m cause).channels = s.channels := by
  unfold State.release
  repeat' first
    | (simp; done)
    | (intros; simp; done)
    | rw [foldl_channels]
    | split
    | (simp only []; split)
    | (simp; rw [foldl_channels])
    | (simp; split)

@[simp] theorem release_groups (s : State) (r : RecId) (m : Message) (cause : Cause) : (s.release r m cause).groups = s.groups := by
  unfold State.release
  repeat' first
    | (simp; done)
    | (intros; simp; done)
    | rw [foldl_groups]
    | split
    | (simp only []; split)
    | (simp; rw [foldl_groups])
    | (simp; split)

@[simp] theorem release_arbiter (s : State) (r : RecId) (m : Message) (cause : Cause) : (s.release r m cause).arbiter = s.arbiter := by
  unfold State.release
  repeat' first
    | (simp; done)
    | (intros; simp; done)
    | rw [foldl_arbiter]
    | split
    | (simp only []; split)
    | (simp; rw [foldl_arbiter])
    | (simp; split)

@[simp] theorem release_store (s : State) (r : RecId) (m : Message) (cause : Cause) : (s.release r m cause).store = s.store := by
  unfold State.release
  repeat' first
    | (simp; done)
    | (intros; simp; done)
    | rw [foldl_store]
    | split
    | (simp only []; split)
    | (simp; rw [foldl_store])
    | (simp; split)

@[simp] theorem release_fixed (s : State) (r : RecId) (m : Message) (cause : Cause) : (s.release r m cause).fixed = s.fixed := by
  unfold State.release
  repeat' first
    | (simp; done)
    | (intros; simp; done)
    | rw [foldl_fixed]
    | split
    | (simp only []; split)
    | (simp; rw [foldl_fixed])
    | (simp; split)

@[simp] theorem release_cores (s : State) (r : RecId) (m : Message) (cause : Cause) : (s.release r m cause).cores = s.cores := by
  unfold State.release
  repeat' first
    | (simp; done)
    | (intros; simp; done)
    | rw [foldl_cores]
    | split
    | (simp only []; split)
    | (simp; rw [foldl_cores])
    | (simp; split)

@[simp] theorem claim_endpoints (s : State) (r : RecId) (n : Nat) (k : Option TallyKind) (cause : Cause) : (s.claim r n k cause).endpoints = s.endpoints := by
  unfold State.claim
  repeat' first
    | (simp; done)
    | split
    | (simp only []; split)
    | (simp; split)

@[simp] theorem claim_channels (s : State) (r : RecId) (n : Nat) (k : Option TallyKind) (cause : Cause) : (s.claim r n k cause).channels = s.channels := by
  unfold State.claim
  repeat' first
    | (simp; done)
    | split
    | (simp only []; split)
    | (simp; split)

@[simp] theorem claim_groups (s : State) (r : RecId) (n : Nat) (k : Option TallyKind) (cause : Cause) : (s.claim r n k cause).groups = s.groups := by
  unfold State.claim
  repeat' first
    | (simp; done)
    | split
    | (simp only []; split)
    | (simp; split)

@[simp] theorem claim_arbiter (s : State) (r : RecId) (n : Nat) (k : Option TallyKind) (cause : Cause) : (s.claim r n k cause).arbiter = s.arbiter := by
  unfold State.claim
  repeat' first
    | (simp; done)
    | split
    | (simp only []; split)
    | (simp; split)

@[simp] theorem claim_store (s : State) (r : RecId) (n : Nat) (k : Option TallyKind) (cause : Cause) : (s.claim r n k cause).store = s.store := by
  unfold State.claim
  repeat' first
    | (simp; done)
    | split
    | (simp only []; split)
    | (simp; split)

@[simp] theorem claim_fixed (s : State) (r : RecId) (n : Nat) (k : Option TallyKind) (cause : Cause) : (s.claim r n k cause).fixed = s.fixed := by
  unfold State.claim
  repeat' first
    | (simp; done)
    | split
    | (simp only []; split)
    | (simp; split)

@[simp] theorem claim_cores (s : State) (r : RecId) (n : Nat) (k : Option TallyKind) (cause : Cause) : (s.claim r n k cause).cores = s.cores := by
  unfold State.claim
  repeat' first
    | (simp; done)
    | split
    | (simp only []; split)
    | (simp; split)

@[simp] theorem bulkDiscard_channels (s : State) (l : List EpId) : (s.bulkDiscard l).channels = s.channels := by
  unfold State.bulkDiscard
  repeat' first
    | (simp; done)
    | (intros; simp; done)
    | rw [foldl_channels]
    | split
    | (simp only []; split)
    | (simp; rw [foldl_channels])
    | (simp; split)

@[simp] theorem bulkDiscard_groups (s : State) (l : List EpId) : (s.bulkDiscard l).groups = s.groups := by
  unfold State.bulkDiscard
  repeat' first
    | (simp; done)
    | (intros; simp; done)
    | rw [foldl_groups]
    | split
    | (simp only []; split)
    | (simp; rw [foldl_groups])
    | (simp; split)

@[simp] theorem bulkDiscard_arbiter (s : State) (l : List EpId) : (s.bulkDiscard l).arbiter = s.arbiter := by
  unfold State.bulkDiscard
  repeat' first
    | (simp; done)
    | (intros; simp; done)
    | rw [foldl_arbiter]
    | split
    | (simp only []; split)
    | (simp; rw [foldl_arbiter])
    | (simp; split)

@[simp] theorem bulkDiscard_store (s : State) (l : List EpId) : (s.bulkDiscard l).store = s.store := by
  unfold State.bulkDiscard
  repeat' first
    | (simp; done)
    | (intros; simp; done)
    | rw [foldl_store]
    | split
    | (simp only []; split)
    | (simp; rw [foldl_store])
    | (simp; split)

@[simp] theorem bulkDiscard_fixed (s : State) (l : List EpId) : (s.bulkDiscard l).fixed = s.fixed := by
  unfold State.bulkDiscard
  repeat' first
    | (simp; done)
    | (intros; simp; done)
    | rw [foldl_fixed]
    | split
    | (simp only []; split)
    | (simp; rw [foldl_fixed])
    | (simp; split)

@[simp] theorem bulkDiscard_cores (s : State) (l : List EpId) : (s.bulkDiscard l).cores = s.cores := by
  unfold State.bulkDiscard
  repeat' first
    | (simp; done)
    | (intros; simp; done)
    | rw [foldl_cores]
    | split
    | (simp only []; split)
    | (simp; rw [foldl_cores])
    | (simp; split)

@[simp] theorem makeLive_ports (s : State) (r : RecId) (d life : Nat) : (s.makeLive r d life).ports = s.ports := by
  unfold State.makeLive; (repeat' split) <;> simp

@[simp] theorem makeLive_endpoints (s : State) (r : RecId) (d life : Nat) : (s.makeLive r d life).endpoints = s.endpoints := by
  unfold State.makeLive; (repeat' split) <;> simp

@[simp] theorem makeLive_channels (s : State) (r : RecId) (d life : Nat) : (s.makeLive r d life).channels = s.channels := by
  unfold State.makeLive; (repeat' split) <;> simp

@[simp] theorem makeLive_groups (s : State) (r : RecId) (d life : Nat) : (s.makeLive r d life).groups = s.groups := by
  unfold State.makeLive; (repeat' split) <;> simp

@[simp] theorem makeLive_blockPlaces (s : State) (r : RecId) (d life : Nat) : (s.makeLive r d life).blockPlaces = s.blockPlaces := by
  unfold State.makeLive; (repeat' split) <;> simp

@[simp] theorem makeLive_arbiter (s : State) (r : RecId) (d life : Nat) : (s.makeLive r d life).arbiter = s.arbiter := by
  unfold State.makeLive; (repeat' split) <;> simp

@[simp] theorem makeLive_store (s : State) (r : RecId) (d life : Nat) : (s.makeLive r d life).store = s.store := by
  unfold State.makeLive; (repeat' split) <;> simp

@[simp] theorem makeLive_fixed (s : State) (r : RecId) (d life : Nat) : (s.makeLive r d life).fixed = s.fixed := by
  unfold State.makeLive; (repeat' split) <;> simp

@[simp] theorem makeLive_cores (s : State) (r : RecId) (d life : Nat) : (s.makeLive r d life).cores = s.cores := by
  unfold State.makeLive; (repeat' split) <;> simp

@[simp] theorem closeAt_channels (s : State) (e : EpId) (o : CloseOutcome) (n : Nat) : (s.closeAt e o n).channels = s.channels := by
  unfold State.closeAt; (repeat' split) <;> simp

@[simp] theorem closeAt_groups (s : State) (e : EpId) (o : CloseOutcome) (n : Nat) : (s.closeAt e o n).groups = s.groups := by
  unfold State.closeAt; (repeat' split) <;> simp

@[simp] theorem closeAt_records (s : State) (e : EpId) (o : CloseOutcome) (n : Nat) : (s.closeAt e o n).records = s.records := by
  unfold State.closeAt; (repeat' split) <;> simp

@[simp] theorem closeAt_blockPlaces (s : State) (e : EpId) (o : CloseOutcome) (n : Nat) : (s.closeAt e o n).blockPlaces = s.blockPlaces := by
  unfold State.closeAt; (repeat' split) <;> simp

@[simp] theorem closeAt_arbiter (s : State) (e : EpId) (o : CloseOutcome) (n : Nat) : (s.closeAt e o n).arbiter = s.arbiter := by
  unfold State.closeAt; (repeat' split) <;> simp

@[simp] theorem closeAt_store (s : State) (e : EpId) (o : CloseOutcome) (n : Nat) : (s.closeAt e o n).store = s.store := by
  unfold State.closeAt; (repeat' split) <;> simp

@[simp] theorem closeAt_fixed (s : State) (e : EpId) (o : CloseOutcome) (n : Nat) : (s.closeAt e o n).fixed = s.fixed := by
  unfold State.closeAt; (repeat' split) <;> simp

@[simp] theorem closeAt_cores (s : State) (e : EpId) (o : CloseOutcome) (n : Nat) : (s.closeAt e o n).cores = s.cores := by
  unfold State.closeAt; (repeat' split) <;> simp

@[simp] theorem drainTest_groups (s : State) (c : ChanId) : (s.drainTest c).groups = s.groups := by
  unfold State.drainTest; (repeat' split) <;> simp

@[simp] theorem drainTest_records (s : State) (c : ChanId) : (s.drainTest c).records = s.records := by
  unfold State.drainTest; (repeat' split) <;> simp

@[simp] theorem drainTest_blockPlaces (s : State) (c : ChanId) : (s.drainTest c).blockPlaces = s.blockPlaces := by
  unfold State.drainTest; (repeat' split) <;> simp

@[simp] theorem drainTest_arbiter (s : State) (c : ChanId) : (s.drainTest c).arbiter = s.arbiter := by
  unfold State.drainTest; (repeat' split) <;> simp

@[simp] theorem drainTest_store (s : State) (c : ChanId) : (s.drainTest c).store = s.store := by
  unfold State.drainTest; (repeat' split) <;> simp

@[simp] theorem drainTest_fixed (s : State) (c : ChanId) : (s.drainTest c).fixed = s.fixed := by
  unfold State.drainTest; (repeat' split) <;> simp

@[simp] theorem drainTest_cores (s : State) (c : ChanId) : (s.drainTest c).cores = s.cores := by
  unfold State.drainTest; (repeat' split) <;> simp

@[simp] theorem endMessageTransfer_groups (s : State) (c : ChanId) (d : Dirn) (b : Bool) : (s.endMessageTransfer c d b).groups = s.groups := by
  unfold State.endMessageTransfer; (repeat' split) <;> simp

@[simp] theorem endMessageTransfer_records (s : State) (c : ChanId) (d : Dirn) (b : Bool) : (s.endMessageTransfer c d b).records = s.records := by
  unfold State.endMessageTransfer; (repeat' split) <;> simp

@[simp] theorem endMessageTransfer_blockPlaces (s : State) (c : ChanId) (d : Dirn) (b : Bool) : (s.endMessageTransfer c d b).blockPlaces = s.blockPlaces := by
  unfold State.endMessageTransfer; (repeat' split) <;> simp

@[simp] theorem endMessageTransfer_arbiter (s : State) (c : ChanId) (d : Dirn) (b : Bool) : (s.endMessageTransfer c d b).arbiter = s.arbiter := by
  unfold State.endMessageTransfer; (repeat' split) <;> simp

@[simp] theorem endMessageTransfer_store (s : State) (c : ChanId) (d : Dirn) (b : Bool) : (s.endMessageTransfer c d b).store = s.store := by
  unfold State.endMessageTransfer; (repeat' split) <;> simp

@[simp] theorem endMessageTransfer_fixed (s : State) (c : ChanId) (d : Dirn) (b : Bool) : (s.endMessageTransfer c d b).fixed = s.fixed := by
  unfold State.endMessageTransfer; (repeat' split) <;> simp

@[simp] theorem endMessageTransfer_cores (s : State) (c : ChanId) (d : Dirn) (b : Bool) : (s.endMessageTransfer c d b).cores = s.cores := by
  unfold State.endMessageTransfer; (repeat' split) <;> simp

@[simp] theorem teardownLive_groups (s : State) (c : ChanId) (l : LiveChannel) (cl : Closers) (o o' : CloseOutcome) : (s.teardownLive c l cl o o').groups = s.groups := by
  unfold State.teardownLive; (repeat' split) <;> simp

@[simp] theorem teardownLive_arbiter (s : State) (c : ChanId) (l : LiveChannel) (cl : Closers) (o o' : CloseOutcome) : (s.teardownLive c l cl o o').arbiter = s.arbiter := by
  unfold State.teardownLive; (repeat' split) <;> simp

@[simp] theorem teardownLive_store (s : State) (c : ChanId) (l : LiveChannel) (cl : Closers) (o o' : CloseOutcome) : (s.teardownLive c l cl o o').store = s.store := by
  unfold State.teardownLive; (repeat' split) <;> simp

@[simp] theorem teardownLive_fixed (s : State) (c : ChanId) (l : LiveChannel) (cl : Closers) (o o' : CloseOutcome) : (s.teardownLive c l cl o o').fixed = s.fixed := by
  unfold State.teardownLive; (repeat' split) <;> simp

@[simp] theorem teardownLive_cores (s : State) (c : ChanId) (l : LiveChannel) (cl : Closers) (o o' : CloseOutcome) : (s.teardownLive c l cl o o').cores = s.cores := by
  unfold State.teardownLive; (repeat' split) <;> simp

@[simp] theorem teardown_groups (s : State) (c : ChanId) (o o' : CloseOutcome) : (s.teardown c o o').groups = s.groups := by
  unfold State.teardown; (repeat' split) <;> simp

@[simp] theorem teardown_arbiter (s : State) (c : ChanId) (o o' : CloseOutcome) : (s.teardown c o o').arbiter = s.arbiter := by
  unfold State.teardown; (repeat' split) <;> simp

@[simp] theorem teardown_store (s : State) (c : ChanId) (o o' : CloseOutcome) : (s.teardown c o o').store = s.store := by
  unfold State.teardown; (repeat' split) <;> simp

@[simp] theorem teardown_fixed (s : State) (c : ChanId) (o o' : CloseOutcome) : (s.teardown c o o').fixed = s.fixed := by
  unfold State.teardown; (repeat' split) <;> simp

@[simp] theorem teardown_cores (s : State) (c : ChanId) (o o' : CloseOutcome) : (s.teardown c o o').cores = s.cores := by
  unfold State.teardown; (repeat' split) <;> simp

@[simp] theorem failCaller_channels (s : State) (a : EpId) (o : OpenOutcome) : (s.failCaller a o).channels = s.channels := by
  unfold State.failCaller; (repeat' split) <;> simp

@[simp] theorem failCaller_groups (s : State) (a : EpId) (o : OpenOutcome) : (s.failCaller a o).groups = s.groups := by
  unfold State.failCaller; (repeat' split) <;> simp

@[simp] theorem failCaller_records (s : State) (a : EpId) (o : OpenOutcome) : (s.failCaller a o).records = s.records := by
  unfold State.failCaller; (repeat' split) <;> simp

@[simp] theorem failCaller_blockPlaces (s : State) (a : EpId) (o : OpenOutcome) : (s.failCaller a o).blockPlaces = s.blockPlaces := by
  unfold State.failCaller; (repeat' split) <;> simp

@[simp] theorem failCaller_arbiter (s : State) (a : EpId) (o : OpenOutcome) : (s.failCaller a o).arbiter = s.arbiter := by
  unfold State.failCaller; (repeat' split) <;> simp

@[simp] theorem failCaller_store (s : State) (a : EpId) (o : OpenOutcome) : (s.failCaller a o).store = s.store := by
  unfold State.failCaller; (repeat' split) <;> simp

@[simp] theorem failCaller_fixed (s : State) (a : EpId) (o : OpenOutcome) : (s.failCaller a o).fixed = s.fixed := by
  unfold State.failCaller; (repeat' split) <;> simp

@[simp] theorem failCaller_cores (s : State) (a : EpId) (o : OpenOutcome) : (s.failCaller a o).cores = s.cores := by
  unfold State.failCaller; (repeat' split) <;> simp

@[simp] theorem withdrawCallee_channels (s : State) (b : EpId) (o : WithdrawOutcome) : (s.withdrawCallee b o).channels = s.channels := by
  unfold State.withdrawCallee; (repeat' split) <;> simp

@[simp] theorem withdrawCallee_groups (s : State) (b : EpId) (o : WithdrawOutcome) : (s.withdrawCallee b o).groups = s.groups := by
  unfold State.withdrawCallee; (repeat' split) <;> simp

@[simp] theorem withdrawCallee_records (s : State) (b : EpId) (o : WithdrawOutcome) : (s.withdrawCallee b o).records = s.records := by
  unfold State.withdrawCallee; (repeat' split) <;> simp

@[simp] theorem withdrawCallee_blockPlaces (s : State) (b : EpId) (o : WithdrawOutcome) : (s.withdrawCallee b o).blockPlaces = s.blockPlaces := by
  unfold State.withdrawCallee; (repeat' split) <;> simp

@[simp] theorem withdrawCallee_arbiter (s : State) (b : EpId) (o : WithdrawOutcome) : (s.withdrawCallee b o).arbiter = s.arbiter := by
  unfold State.withdrawCallee; (repeat' split) <;> simp

@[simp] theorem withdrawCallee_store (s : State) (b : EpId) (o : WithdrawOutcome) : (s.withdrawCallee b o).store = s.store := by
  unfold State.withdrawCallee; (repeat' split) <;> simp

@[simp] theorem withdrawCallee_fixed (s : State) (b : EpId) (o : WithdrawOutcome) : (s.withdrawCallee b o).fixed = s.fixed := by
  unfold State.withdrawCallee; (repeat' split) <;> simp

@[simp] theorem withdrawCallee_cores (s : State) (b : EpId) (o : WithdrawOutcome) : (s.withdrawCallee b o).cores = s.cores := by
  unfold State.withdrawCallee; (repeat' split) <;> simp

@[simp] theorem modActive_ports (s : State) (g : GroupId) (f : ActiveGroup → ActiveGroup) : (s.modActive g f).ports = s.ports := by
  unfold State.modActive; (repeat' split) <;> simp

@[simp] theorem modActive_endpoints (s : State) (g : GroupId) (f : ActiveGroup → ActiveGroup) : (s.modActive g f).endpoints = s.endpoints := by
  unfold State.modActive; (repeat' split) <;> simp

@[simp] theorem modActive_channels (s : State) (g : GroupId) (f : ActiveGroup → ActiveGroup) : (s.modActive g f).channels = s.channels := by
  unfold State.modActive; (repeat' split) <;> simp

@[simp] theorem modActive_records (s : State) (g : GroupId) (f : ActiveGroup → ActiveGroup) : (s.modActive g f).records = s.records := by
  unfold State.modActive; (repeat' split) <;> simp

@[simp] theorem modActive_blockPlaces (s : State) (g : GroupId) (f : ActiveGroup → ActiveGroup) : (s.modActive g f).blockPlaces = s.blockPlaces := by
  unfold State.modActive; (repeat' split) <;> simp

@[simp] theorem modActive_arbiter (s : State) (g : GroupId) (f : ActiveGroup → ActiveGroup) : (s.modActive g f).arbiter = s.arbiter := by
  unfold State.modActive; (repeat' split) <;> simp

@[simp] theorem modActive_store (s : State) (g : GroupId) (f : ActiveGroup → ActiveGroup) : (s.modActive g f).store = s.store := by
  unfold State.modActive; (repeat' split) <;> simp

@[simp] theorem modActive_fixed (s : State) (g : GroupId) (f : ActiveGroup → ActiveGroup) : (s.modActive g f).fixed = s.fixed := by
  unfold State.modActive; (repeat' split) <;> simp

@[simp] theorem modActive_cores (s : State) (g : GroupId) (f : ActiveGroup → ActiveGroup) : (s.modActive g f).cores = s.cores := by
  unfold State.modActive; (repeat' split) <;> simp

@[simp] theorem endGroupCopy_ports (s : State) (g : GroupId) : (s.endGroupCopy g).ports = s.ports := by
  unfold State.endGroupCopy; (repeat' split) <;> simp

@[simp] theorem endGroupCopy_endpoints (s : State) (g : GroupId) : (s.endGroupCopy g).endpoints = s.endpoints := by
  unfold State.endGroupCopy; (repeat' split) <;> simp

@[simp] theorem endGroupCopy_channels (s : State) (g : GroupId) : (s.endGroupCopy g).channels = s.channels := by
  unfold State.endGroupCopy; (repeat' split) <;> simp

@[simp] theorem endGroupCopy_records (s : State) (g : GroupId) : (s.endGroupCopy g).records = s.records := by
  unfold State.endGroupCopy; (repeat' split) <;> simp

@[simp] theorem endGroupCopy_blockPlaces (s : State) (g : GroupId) : (s.endGroupCopy g).blockPlaces = s.blockPlaces := by
  unfold State.endGroupCopy; (repeat' split) <;> simp

@[simp] theorem endGroupCopy_arbiter (s : State) (g : GroupId) : (s.endGroupCopy g).arbiter = s.arbiter := by
  unfold State.endGroupCopy; (repeat' split) <;> simp

@[simp] theorem endGroupCopy_store (s : State) (g : GroupId) : (s.endGroupCopy g).store = s.store := by
  unfold State.endGroupCopy; (repeat' split) <;> simp

@[simp] theorem endGroupCopy_fixed (s : State) (g : GroupId) : (s.endGroupCopy g).fixed = s.fixed := by
  unfold State.endGroupCopy; (repeat' split) <;> simp

@[simp] theorem endGroupCopy_cores (s : State) (g : GroupId) : (s.endGroupCopy g).cores = s.cores := by
  unfold State.endGroupCopy; (repeat' split) <;> simp

@[simp] theorem dissolve_channels (s : State) (g : GroupId) (x : ActiveGroup) : (s.dissolve g x).channels = s.channels := by
  unfold State.dissolve
  repeat' first
    | (simp; done)
    | (intros; simp; done)
    | rw [foldl_channels]
    | split
    | (simp only []; split)
    | (simp; rw [foldl_channels])
    | (simp; split)

@[simp] theorem dissolve_arbiter (s : State) (g : GroupId) (x : ActiveGroup) : (s.dissolve g x).arbiter = s.arbiter := by
  unfold State.dissolve
  repeat' first
    | (simp; done)
    | (intros; simp; done)
    | rw [foldl_arbiter]
    | split
    | (simp only []; split)
    | (simp; rw [foldl_arbiter])
    | (simp; split)

@[simp] theorem dissolve_store (s : State) (g : GroupId) (x : ActiveGroup) : (s.dissolve g x).store = s.store := by
  unfold State.dissolve
  repeat' first
    | (simp; done)
    | (intros; simp; done)
    | rw [foldl_store]
    | split
    | (simp only []; split)
    | (simp; rw [foldl_store])
    | (simp; split)

@[simp] theorem dissolve_fixed (s : State) (g : GroupId) (x : ActiveGroup) : (s.dissolve g x).fixed = s.fixed := by
  unfold State.dissolve
  repeat' first
    | (simp; done)
    | (intros; simp; done)
    | rw [foldl_fixed]
    | split
    | (simp only []; split)
    | (simp; rw [foldl_fixed])
    | (simp; split)

@[simp] theorem dissolve_cores (s : State) (g : GroupId) (x : ActiveGroup) : (s.dissolve g x).cores = s.cores := by
  unfold State.dissolve
  repeat' first
    | (simp; done)
    | (intros; simp; done)
    | rw [foldl_cores]
    | split
    | (simp only []; split)
    | (simp; rw [foldl_cores])
    | (simp; split)

@[simp] theorem removeMembers_channels (s : State) (g : GroupId) (x : ActiveGroup) (l : List EpId) : (s.removeMembers g x l).channels = s.channels := by
  unfold State.removeMembers
  repeat' first
    | (simp; done)
    | (intros; simp; done)
    | rw [foldl_channels]
    | split
    | (simp only []; split)
    | (simp; rw [foldl_channels])
    | (simp; split)

@[simp] theorem removeMembers_arbiter (s : State) (g : GroupId) (x : ActiveGroup) (l : List EpId) : (s.removeMembers g x l).arbiter = s.arbiter := by
  unfold State.removeMembers
  repeat' first
    | (simp; done)
    | (intros; simp; done)
    | rw [foldl_arbiter]
    | split
    | (simp only []; split)
    | (simp; rw [foldl_arbiter])
    | (simp; split)

@[simp] theorem removeMembers_store (s : State) (g : GroupId) (x : ActiveGroup) (l : List EpId) : (s.removeMembers g x l).store = s.store := by
  unfold State.removeMembers
  repeat' first
    | (simp; done)
    | (intros; simp; done)
    | rw [foldl_store]
    | split
    | (simp only []; split)
    | (simp; rw [foldl_store])
    | (simp; split)

@[simp] theorem removeMembers_fixed (s : State) (g : GroupId) (x : ActiveGroup) (l : List EpId) : (s.removeMembers g x l).fixed = s.fixed := by
  unfold State.removeMembers
  repeat' first
    | (simp; done)
    | (intros; simp; done)
    | rw [foldl_fixed]
    | split
    | (simp only []; split)
    | (simp; rw [foldl_fixed])
    | (simp; split)

@[simp] theorem removeMembers_cores (s : State) (g : GroupId) (x : ActiveGroup) (l : List EpId) : (s.removeMembers g x l).cores = s.cores := by
  unfold State.removeMembers
  repeat' first
    | (simp; done)
    | (intros; simp; done)
    | rw [foldl_cores]
    | split
    | (simp only []; split)
    | (simp; rw [foldl_cores])
    | (simp; split)

@[simp] theorem writeSendOutcome_endpoints (s : State) (p : Port) (m : Message) (o : SendEnd) (n : Nat) : (s.writeSendOutcome p m o n).endpoints = s.endpoints := by
  unfold State.writeSendOutcome; (repeat' split) <;> simp

@[simp] theorem writeSendOutcome_channels (s : State) (p : Port) (m : Message) (o : SendEnd) (n : Nat) : (s.writeSendOutcome p m o n).channels = s.channels := by
  unfold State.writeSendOutcome; (repeat' split) <;> simp

@[simp] theorem writeSendOutcome_groups (s : State) (p : Port) (m : Message) (o : SendEnd) (n : Nat) : (s.writeSendOutcome p m o n).groups = s.groups := by
  unfold State.writeSendOutcome; (repeat' split) <;> simp

@[simp] theorem writeSendOutcome_records (s : State) (p : Port) (m : Message) (o : SendEnd) (n : Nat) : (s.writeSendOutcome p m o n).records = s.records := by
  unfold State.writeSendOutcome; (repeat' split) <;> simp

@[simp] theorem writeSendOutcome_blockPlaces (s : State) (p : Port) (m : Message) (o : SendEnd) (n : Nat) : (s.writeSendOutcome p m o n).blockPlaces = s.blockPlaces := by
  unfold State.writeSendOutcome; (repeat' split) <;> simp

@[simp] theorem writeSendOutcome_arbiter (s : State) (p : Port) (m : Message) (o : SendEnd) (n : Nat) : (s.writeSendOutcome p m o n).arbiter = s.arbiter := by
  unfold State.writeSendOutcome; (repeat' split) <;> simp

@[simp] theorem writeSendOutcome_store (s : State) (p : Port) (m : Message) (o : SendEnd) (n : Nat) : (s.writeSendOutcome p m o n).store = s.store := by
  unfold State.writeSendOutcome; (repeat' split) <;> simp

@[simp] theorem writeSendOutcome_fixed (s : State) (p : Port) (m : Message) (o : SendEnd) (n : Nat) : (s.writeSendOutcome p m o n).fixed = s.fixed := by
  unfold State.writeSendOutcome; (repeat' split) <;> simp

@[simp] theorem deliver_groups (s : State) (p : Port) (r : RecId) (m : Message) (c : ChanId) (e : EpId) (n : Nat) (b : Bool) : (s.deliver p r m c e n b).groups = s.groups := by
  unfold State.deliver; (repeat' split) <;> simp

@[simp] theorem deliver_blockPlaces (s : State) (p : Port) (r : RecId) (m : Message) (c : ChanId) (e : EpId) (n : Nat) (b : Bool) : (s.deliver p r m c e n b).blockPlaces = s.blockPlaces := by
  unfold State.deliver; (repeat' split) <;> simp

@[simp] theorem deliver_arbiter (s : State) (p : Port) (r : RecId) (m : Message) (c : ChanId) (e : EpId) (n : Nat) (b : Bool) : (s.deliver p r m c e n b).arbiter = s.arbiter := by
  unfold State.deliver; (repeat' split) <;> simp

@[simp] theorem deliver_store (s : State) (p : Port) (r : RecId) (m : Message) (c : ChanId) (e : EpId) (n : Nat) (b : Bool) : (s.deliver p r m c e n b).store = s.store := by
  unfold State.deliver; (repeat' split) <;> simp

@[simp] theorem deliver_fixed (s : State) (p : Port) (r : RecId) (m : Message) (c : ChanId) (e : EpId) (n : Nat) (b : Bool) : (s.deliver p r m c e n b).fixed = s.fixed := by
  unfold State.deliver; (repeat' split) <;> simp

@[simp] theorem discardCopyIn_groups (s : State) (p : Port) (r : RecId) (m : Message) (c : ChanId) (d : Dirn) (b : Bool) : (s.discardCopyIn p r m c d b).groups = s.groups := by
  unfold State.discardCopyIn; (repeat' split) <;> simp

@[simp] theorem discardCopyIn_arbiter (s : State) (p : Port) (r : RecId) (m : Message) (c : ChanId) (d : Dirn) (b : Bool) : (s.discardCopyIn p r m c d b).arbiter = s.arbiter := by
  unfold State.discardCopyIn; (repeat' split) <;> simp

@[simp] theorem discardCopyIn_store (s : State) (p : Port) (r : RecId) (m : Message) (c : ChanId) (d : Dirn) (b : Bool) : (s.discardCopyIn p r m c d b).store = s.store := by
  unfold State.discardCopyIn; (repeat' split) <;> simp

@[simp] theorem discardCopyIn_fixed (s : State) (p : Port) (r : RecId) (m : Message) (c : ChanId) (d : Dirn) (b : Bool) : (s.discardCopyIn p r m c d b).fixed = s.fixed := by
  unfold State.discardCopyIn; (repeat' split) <;> simp

@[simp] theorem completeChannelCopy_groups (s : State) (p : Port) (r : RecId) (m : Message) (c : ChanId) (d : Dirn) (n : Nat) (b : Bool) : (s.completeChannelCopy p r m c d n b).groups = s.groups := by
  unfold State.completeChannelCopy; (repeat' split) <;> simp

@[simp] theorem completeChannelCopy_arbiter (s : State) (p : Port) (r : RecId) (m : Message) (c : ChanId) (d : Dirn) (n : Nat) (b : Bool) : (s.completeChannelCopy p r m c d n b).arbiter = s.arbiter := by
  unfold State.completeChannelCopy; (repeat' split) <;> simp

@[simp] theorem completeChannelCopy_store (s : State) (p : Port) (r : RecId) (m : Message) (c : ChanId) (d : Dirn) (n : Nat) (b : Bool) : (s.completeChannelCopy p r m c d n b).store = s.store := by
  unfold State.completeChannelCopy; (repeat' split) <;> simp

@[simp] theorem completeChannelCopy_fixed (s : State) (p : Port) (r : RecId) (m : Message) (c : ChanId) (d : Dirn) (n : Nat) (b : Bool) : (s.completeChannelCopy p r m c d n b).fixed = s.fixed := by
  unfold State.completeChannelCopy; (repeat' split) <;> simp

@[simp] theorem fanOut_channels (s : State) (p : Port) (r : RecId) (m : Message) (g : GroupId) (x : ActiveGroup) (n : Nat) : (s.fanOut p r m g x n).channels = s.channels := by
  unfold State.fanOut
  repeat' first
    | (simp; done)
    | (intros; simp; done)
    | rw [foldl_channels]
    | split
    | (simp only []; split)
    | (simp; rw [foldl_channels])
    | (simp; split)

@[simp] theorem fanOut_arbiter (s : State) (p : Port) (r : RecId) (m : Message) (g : GroupId) (x : ActiveGroup) (n : Nat) : (s.fanOut p r m g x n).arbiter = s.arbiter := by
  unfold State.fanOut
  repeat' first
    | (simp; done)
    | (intros; simp; done)
    | rw [foldl_arbiter]
    | split
    | (simp only []; split)
    | (simp; rw [foldl_arbiter])
    | (simp; split)

@[simp] theorem fanOut_store (s : State) (p : Port) (r : RecId) (m : Message) (g : GroupId) (x : ActiveGroup) (n : Nat) : (s.fanOut p r m g x n).store = s.store := by
  unfold State.fanOut
  repeat' first
    | (simp; done)
    | (intros; simp; done)
    | rw [foldl_store]
    | split
    | (simp only []; split)
    | (simp; rw [foldl_store])
    | (simp; split)

@[simp] theorem fanOut_fixed (s : State) (p : Port) (r : RecId) (m : Message) (g : GroupId) (x : ActiveGroup) (n : Nat) : (s.fanOut p r m g x n).fixed = s.fixed := by
  unfold State.fanOut
  repeat' first
    | (simp; done)
    | (intros; simp; done)
    | rw [foldl_fixed]
    | split
    | (simp only []; split)
    | (simp; rw [foldl_fixed])
    | (simp; split)

@[simp] theorem completeGroupCopy_channels (s : State) (p : Port) (r : RecId) (m : Message) (g : GroupId) (n : Nat) : (s.completeGroupCopy p r m g n).channels = s.channels := by
  unfold State.completeGroupCopy; (repeat' split) <;> simp

@[simp] theorem completeGroupCopy_arbiter (s : State) (p : Port) (r : RecId) (m : Message) (g : GroupId) (n : Nat) : (s.completeGroupCopy p r m g n).arbiter = s.arbiter := by
  unfold State.completeGroupCopy; (repeat' split) <;> simp

@[simp] theorem completeGroupCopy_store (s : State) (p : Port) (r : RecId) (m : Message) (g : GroupId) (n : Nat) : (s.completeGroupCopy p r m g n).store = s.store := by
  unfold State.completeGroupCopy; (repeat' split) <;> simp

@[simp] theorem completeGroupCopy_fixed (s : State) (p : Port) (r : RecId) (m : Message) (g : GroupId) (n : Nat) : (s.completeGroupCopy p r m g n).fixed = s.fixed := by
  unfold State.completeGroupCopy; (repeat' split) <;> simp

@[simp] theorem completeCopyIn_arbiter (s : State) (p : Port) (r : RecId) (n : Nat) (b : Bool) : (s.completeCopyIn p r n b).arbiter = s.arbiter := by
  unfold State.completeCopyIn; (repeat' split) <;> simp

@[simp] theorem completeCopyIn_store (s : State) (p : Port) (r : RecId) (n : Nat) (b : Bool) : (s.completeCopyIn p r n b).store = s.store := by
  unfold State.completeCopyIn; (repeat' split) <;> simp

@[simp] theorem completeCopyIn_fixed (s : State) (p : Port) (r : RecId) (n : Nat) (b : Bool) : (s.completeCopyIn p r n b).fixed = s.fixed := by
  unfold State.completeCopyIn; (repeat' split) <;> simp

@[simp] theorem startCopyIn_endpoints (s : State) (p : Port) (r : RecId) (k : MsgKind) (n life : Nat) : (s.startCopyIn p r k n life).endpoints = s.endpoints := by
  unfold State.startCopyIn; (repeat' split) <;> simp

@[simp] theorem startCopyIn_channels (s : State) (p : Port) (r : RecId) (k : MsgKind) (n life : Nat) : (s.startCopyIn p r k n life).channels = s.channels := by
  unfold State.startCopyIn; (repeat' split) <;> simp

@[simp] theorem startCopyIn_groups (s : State) (p : Port) (r : RecId) (k : MsgKind) (n life : Nat) : (s.startCopyIn p r k n life).groups = s.groups := by
  unfold State.startCopyIn; (repeat' split) <;> simp

@[simp] theorem startCopyIn_records (s : State) (p : Port) (r : RecId) (k : MsgKind) (n life : Nat) : (s.startCopyIn p r k n life).records = s.records := by
  unfold State.startCopyIn; (repeat' split) <;> simp

@[simp] theorem startCopyIn_blockPlaces (s : State) (p : Port) (r : RecId) (k : MsgKind) (n life : Nat) : (s.startCopyIn p r k n life).blockPlaces = s.blockPlaces := by
  unfold State.startCopyIn; (repeat' split) <;> simp

@[simp] theorem startCopyIn_store (s : State) (p : Port) (r : RecId) (k : MsgKind) (n life : Nat) : (s.startCopyIn p r k n life).store = s.store := by
  unfold State.startCopyIn; (repeat' split) <;> simp

@[simp] theorem startCopyIn_fixed (s : State) (p : Port) (r : RecId) (k : MsgKind) (n life : Nat) : (s.startCopyIn p r k n life).fixed = s.fixed := by
  unfold State.startCopyIn; (repeat' split) <;> simp

@[simp] theorem cancelCopyIn_arbiter (s : State) (p : Port) (r : RecId) : (s.cancelCopyIn p r).arbiter = s.arbiter := by
  unfold State.cancelCopyIn; (repeat' split) <;> simp

@[simp] theorem cancelCopyIn_store (s : State) (p : Port) (r : RecId) : (s.cancelCopyIn p r).store = s.store := by
  unfold State.cancelCopyIn; (repeat' split) <;> simp

@[simp] theorem cancelCopyIn_fixed (s : State) (p : Port) (r : RecId) : (s.cancelCopyIn p r).fixed = s.fixed := by
  unfold State.cancelCopyIn; (repeat' split) <;> simp

@[simp] theorem writePosition_ports (s : State) (p : Port) (r : RecId) (k : Nat) : (s.writePosition p r k).ports = s.ports := by
  unfold State.writePosition; (repeat' split) <;> simp

@[simp] theorem writePosition_endpoints (s : State) (p : Port) (r : RecId) (k : Nat) : (s.writePosition p r k).endpoints = s.endpoints := by
  unfold State.writePosition; (repeat' split) <;> simp

@[simp] theorem writePosition_channels (s : State) (p : Port) (r : RecId) (k : Nat) : (s.writePosition p r k).channels = s.channels := by
  unfold State.writePosition; (repeat' split) <;> simp

@[simp] theorem writePosition_groups (s : State) (p : Port) (r : RecId) (k : Nat) : (s.writePosition p r k).groups = s.groups := by
  unfold State.writePosition; (repeat' split) <;> simp

@[simp] theorem writePosition_records (s : State) (p : Port) (r : RecId) (k : Nat) : (s.writePosition p r k).records = s.records := by
  unfold State.writePosition; (repeat' split) <;> simp

@[simp] theorem writePosition_blockPlaces (s : State) (p : Port) (r : RecId) (k : Nat) : (s.writePosition p r k).blockPlaces = s.blockPlaces := by
  unfold State.writePosition; (repeat' split) <;> simp

@[simp] theorem writePosition_arbiter (s : State) (p : Port) (r : RecId) (k : Nat) : (s.writePosition p r k).arbiter = s.arbiter := by
  unfold State.writePosition; (repeat' split) <;> simp

@[simp] theorem writePosition_fixed (s : State) (p : Port) (r : RecId) (k : Nat) : (s.writePosition p r k).fixed = s.fixed := by
  unfold State.writePosition; (repeat' split) <;> simp

@[simp] theorem writePosition_cores (s : State) (p : Port) (r : RecId) (k : Nat) : (s.writePosition p r k).cores = s.cores := by
  unfold State.writePosition; (repeat' split) <;> simp

@[simp] theorem sendTransferEnd_fixed (s : State) (p : Port) (u : CopyIn) : (s.sendTransferEnd p u).fixed = s.fixed := by
  unfold State.sendTransferEnd; (repeat' split) <;> simp

@[simp] theorem writeFetchOutcome_endpoints (s : State) (p : Port) (e : EpIndex) (m : Message) : (s.writeFetchOutcome p e m).endpoints = s.endpoints := by
  unfold State.writeFetchOutcome; (repeat' split) <;> simp

@[simp] theorem writeFetchOutcome_channels (s : State) (p : Port) (e : EpIndex) (m : Message) : (s.writeFetchOutcome p e m).channels = s.channels := by
  unfold State.writeFetchOutcome; (repeat' split) <;> simp

@[simp] theorem writeFetchOutcome_groups (s : State) (p : Port) (e : EpIndex) (m : Message) : (s.writeFetchOutcome p e m).groups = s.groups := by
  unfold State.writeFetchOutcome; (repeat' split) <;> simp

@[simp] theorem writeFetchOutcome_records (s : State) (p : Port) (e : EpIndex) (m : Message) : (s.writeFetchOutcome p e m).records = s.records := by
  unfold State.writeFetchOutcome; (repeat' split) <;> simp

@[simp] theorem writeFetchOutcome_blockPlaces (s : State) (p : Port) (e : EpIndex) (m : Message) : (s.writeFetchOutcome p e m).blockPlaces = s.blockPlaces := by
  unfold State.writeFetchOutcome; (repeat' split) <;> simp

@[simp] theorem writeFetchOutcome_arbiter (s : State) (p : Port) (e : EpIndex) (m : Message) : (s.writeFetchOutcome p e m).arbiter = s.arbiter := by
  unfold State.writeFetchOutcome; (repeat' split) <;> simp

@[simp] theorem writeFetchOutcome_store (s : State) (p : Port) (e : EpIndex) (m : Message) : (s.writeFetchOutcome p e m).store = s.store := by
  unfold State.writeFetchOutcome; (repeat' split) <;> simp

@[simp] theorem writeFetchOutcome_fixed (s : State) (p : Port) (e : EpIndex) (m : Message) : (s.writeFetchOutcome p e m).fixed = s.fixed := by
  unfold State.writeFetchOutcome; (repeat' split) <;> simp

@[simp] theorem endFetchOn_groups (s : State) (k : RecLink) (b : Bool) : (s.endFetchOn k b).groups = s.groups := by
  unfold State.endFetchOn; (repeat' split) <;> simp

@[simp] theorem endFetchOn_records (s : State) (k : RecLink) (b : Bool) : (s.endFetchOn k b).records = s.records := by
  unfold State.endFetchOn; (repeat' split) <;> simp

@[simp] theorem endFetchOn_blockPlaces (s : State) (k : RecLink) (b : Bool) : (s.endFetchOn k b).blockPlaces = s.blockPlaces := by
  unfold State.endFetchOn; (repeat' split) <;> simp

@[simp] theorem endFetchOn_arbiter (s : State) (k : RecLink) (b : Bool) : (s.endFetchOn k b).arbiter = s.arbiter := by
  unfold State.endFetchOn; (repeat' split) <;> simp

@[simp] theorem endFetchOn_store (s : State) (k : RecLink) (b : Bool) : (s.endFetchOn k b).store = s.store := by
  unfold State.endFetchOn; (repeat' split) <;> simp

@[simp] theorem endFetchOn_fixed (s : State) (k : RecLink) (b : Bool) : (s.endFetchOn k b).fixed = s.fixed := by
  unfold State.endFetchOn; (repeat' split) <;> simp

@[simp] theorem endFetchOn_cores (s : State) (k : RecLink) (b : Bool) : (s.endFetchOn k b).cores = s.cores := by
  unfold State.endFetchOn; (repeat' split) <;> simp

@[simp] theorem completeFetch_groups (s : State) (p : Port) (e : EpIndex) (r : RecId) (b : Bool) : (s.completeFetch p e r b).groups = s.groups := by
  unfold State.completeFetch; (repeat' split) <;> simp

@[simp] theorem completeFetch_arbiter (s : State) (p : Port) (e : EpIndex) (r : RecId) (b : Bool) : (s.completeFetch p e r b).arbiter = s.arbiter := by
  unfold State.completeFetch; (repeat' split) <;> simp

@[simp] theorem completeFetch_store (s : State) (p : Port) (e : EpIndex) (r : RecId) (b : Bool) : (s.completeFetch p e r b).store = s.store := by
  unfold State.completeFetch; (repeat' split) <;> simp

@[simp] theorem completeFetch_fixed (s : State) (p : Port) (e : EpIndex) (r : RecId) (b : Bool) : (s.completeFetch p e r b).fixed = s.fixed := by
  unfold State.completeFetch; (repeat' split) <;> simp

@[simp] theorem cancelFetch_groups (s : State) (p : Port) (r : RecId) : (s.cancelFetch p r).groups = s.groups := by
  unfold State.cancelFetch; (repeat' split) <;> simp

@[simp] theorem cancelFetch_arbiter (s : State) (p : Port) (r : RecId) : (s.cancelFetch p r).arbiter = s.arbiter := by
  unfold State.cancelFetch; (repeat' split) <;> simp

@[simp] theorem cancelFetch_store (s : State) (p : Port) (r : RecId) : (s.cancelFetch p r).store = s.store := by
  unfold State.cancelFetch; (repeat' split) <;> simp

@[simp] theorem cancelFetch_fixed (s : State) (p : Port) (r : RecId) : (s.cancelFetch p r).fixed = s.fixed := by
  unfold State.cancelFetch; (repeat' split) <;> simp

@[simp] theorem failActions_endpoints (s : State) (p : Port) (r : RecId) (b : BlockId) : (s.failActions p r b).endpoints = s.endpoints := by
  unfold State.failActions; (repeat' split) <;> simp

@[simp] theorem failActions_channels (s : State) (p : Port) (r : RecId) (b : BlockId) : (s.failActions p r b).channels = s.channels := by
  unfold State.failActions; (repeat' split) <;> simp

@[simp] theorem failActions_groups (s : State) (p : Port) (r : RecId) (b : BlockId) : (s.failActions p r b).groups = s.groups := by
  unfold State.failActions; (repeat' split) <;> simp

@[simp] theorem failActions_blockPlaces (s : State) (p : Port) (r : RecId) (b : BlockId) : (s.failActions p r b).blockPlaces = s.blockPlaces := by
  unfold State.failActions; (repeat' split) <;> simp

@[simp] theorem failActions_arbiter (s : State) (p : Port) (r : RecId) (b : BlockId) : (s.failActions p r b).arbiter = s.arbiter := by
  unfold State.failActions; (repeat' split) <;> simp

@[simp] theorem failActions_store (s : State) (p : Port) (r : RecId) (b : BlockId) : (s.failActions p r b).store = s.store := by
  unfold State.failActions; (repeat' split) <;> simp

@[simp] theorem failActions_fixed (s : State) (p : Port) (r : RecId) (b : BlockId) : (s.failActions p r b).fixed = s.fixed := by
  unfold State.failActions; (repeat' split) <;> simp

@[simp] theorem takeRead_endpoints (s : State) (p : Port) (u : CopyOut) : (s.takeRead p u).endpoints = s.endpoints := by
  unfold State.takeRead; (repeat' split) <;> simp

@[simp] theorem takeRead_channels (s : State) (p : Port) (u : CopyOut) : (s.takeRead p u).channels = s.channels := by
  unfold State.takeRead; (repeat' split) <;> simp

@[simp] theorem takeRead_groups (s : State) (p : Port) (u : CopyOut) : (s.takeRead p u).groups = s.groups := by
  unfold State.takeRead; (repeat' split) <;> simp

@[simp] theorem takeRead_blockPlaces (s : State) (p : Port) (u : CopyOut) : (s.takeRead p u).blockPlaces = s.blockPlaces := by
  unfold State.takeRead; (repeat' split) <;> simp

@[simp] theorem takeRead_arbiter (s : State) (p : Port) (u : CopyOut) : (s.takeRead p u).arbiter = s.arbiter := by
  unfold State.takeRead; (repeat' split) <;> simp

@[simp] theorem takeRead_store (s : State) (p : Port) (u : CopyOut) : (s.takeRead p u).store = s.store := by
  unfold State.takeRead; (repeat' split) <;> simp

@[simp] theorem takeRead_fixed (s : State) (p : Port) (u : CopyOut) : (s.takeRead p u).fixed = s.fixed := by
  unfold State.takeRead; (repeat' split) <;> simp

@[simp] theorem takeCancelledRead_ports (s : State) (u : CopyOut) : (s.takeCancelledRead u).ports = s.ports := by
  unfold State.takeCancelledRead; (repeat' split) <;> simp

@[simp] theorem takeCancelledRead_endpoints (s : State) (u : CopyOut) : (s.takeCancelledRead u).endpoints = s.endpoints := by
  unfold State.takeCancelledRead; (repeat' split) <;> simp

@[simp] theorem takeCancelledRead_channels (s : State) (u : CopyOut) : (s.takeCancelledRead u).channels = s.channels := by
  unfold State.takeCancelledRead; (repeat' split) <;> simp

@[simp] theorem takeCancelledRead_groups (s : State) (u : CopyOut) : (s.takeCancelledRead u).groups = s.groups := by
  unfold State.takeCancelledRead; (repeat' split) <;> simp

@[simp] theorem takeCancelledRead_blockPlaces (s : State) (u : CopyOut) : (s.takeCancelledRead u).blockPlaces = s.blockPlaces := by
  unfold State.takeCancelledRead; (repeat' split) <;> simp

@[simp] theorem takeCancelledRead_arbiter (s : State) (u : CopyOut) : (s.takeCancelledRead u).arbiter = s.arbiter := by
  unfold State.takeCancelledRead; (repeat' split) <;> simp

@[simp] theorem takeCancelledRead_store (s : State) (u : CopyOut) : (s.takeCancelledRead u).store = s.store := by
  unfold State.takeCancelledRead; (repeat' split) <;> simp

@[simp] theorem takeCancelledRead_fixed (s : State) (u : CopyOut) : (s.takeCancelledRead u).fixed = s.fixed := by
  unfold State.takeCancelledRead; (repeat' split) <;> simp

@[simp] theorem takeCancelledRead_cores (s : State) (u : CopyOut) : (s.takeCancelledRead u).cores = s.cores := by
  unfold State.takeCancelledRead; (repeat' split) <;> simp

@[simp] theorem fetchTransferEnd_groups (s : State) (p : Port) (u : CopyOut) : (s.fetchTransferEnd p u).groups = s.groups := by
  unfold State.fetchTransferEnd; (repeat' split) <;> simp

@[simp] theorem fetchTransferEnd_store (s : State) (p : Port) (u : CopyOut) : (s.fetchTransferEnd p u).store = s.store := by
  unfold State.fetchTransferEnd; (repeat' split) <;> simp

@[simp] theorem fetchTransferEnd_fixed (s : State) (p : Port) (u : CopyOut) : (s.fetchTransferEnd p u).fixed = s.fixed := by
  unfold State.fetchTransferEnd; (repeat' split) <;> simp

@[simp] theorem unitTransferEnd_fixed (s : State) (q : Requester) : (s.unitTransferEnd q).fixed = s.fixed := by
  unfold State.unitTransferEnd
  repeat' first
    | (simp; done)
    | split
    | (simp only []; split)
    | (simp; split)

@[simp] theorem blockTransferEnd_fixed (s : State) : (s.blockTransferEnd).fixed = s.fixed := by
  unfold State.blockTransferEnd; split
  · rfl
  · rw [grant_fixed, unitTransferEnd_fixed]; rfl

@[simp] theorem refundEntry_ports (s : State) (r : RecId) : (s.refundEntry r).ports = s.ports := by
  unfold State.refundEntry; (repeat' split) <;> simp

@[simp] theorem refundEntry_endpoints (s : State) (r : RecId) : (s.refundEntry r).endpoints = s.endpoints := by
  unfold State.refundEntry; (repeat' split) <;> simp

@[simp] theorem refundEntry_groups (s : State) (r : RecId) : (s.refundEntry r).groups = s.groups := by
  unfold State.refundEntry; (repeat' split) <;> simp

@[simp] theorem refundEntry_records (s : State) (r : RecId) : (s.refundEntry r).records = s.records := by
  unfold State.refundEntry; (repeat' split) <;> simp

@[simp] theorem refundEntry_blockPlaces (s : State) (r : RecId) : (s.refundEntry r).blockPlaces = s.blockPlaces := by
  unfold State.refundEntry; (repeat' split) <;> simp

@[simp] theorem refundEntry_arbiter (s : State) (r : RecId) : (s.refundEntry r).arbiter = s.arbiter := by
  unfold State.refundEntry; (repeat' split) <;> simp

@[simp] theorem refundEntry_store (s : State) (r : RecId) : (s.refundEntry r).store = s.store := by
  unfold State.refundEntry; (repeat' split) <;> simp

@[simp] theorem refundEntry_fixed (s : State) (r : RecId) : (s.refundEntry r).fixed = s.fixed := by
  unfold State.refundEntry; (repeat' split) <;> simp

@[simp] theorem refundEntry_cores (s : State) (r : RecId) : (s.refundEntry r).cores = s.cores := by
  unfold State.refundEntry; (repeat' split) <;> simp

@[simp] theorem endpointTableShare_groups (s : State) (p : Port) : (s.endpointTableShare p).groups = s.groups := by
  unfold State.endpointTableShare
  repeat' first
    | (simp; done)
    | (intros; simp; done)
    | rw [foldl_groups]
    | split
    | (simp only []; split)
    | (simp; rw [foldl_groups])
    | (simp; split)

@[simp] theorem endpointTableShare_arbiter (s : State) (p : Port) : (s.endpointTableShare p).arbiter = s.arbiter := by
  unfold State.endpointTableShare
  repeat' first
    | (simp; done)
    | (intros; simp; done)
    | rw [foldl_arbiter]
    | split
    | (simp only []; split)
    | (simp; rw [foldl_arbiter])
    | (simp; split)

@[simp] theorem endpointTableShare_store (s : State) (p : Port) : (s.endpointTableShare p).store = s.store := by
  unfold State.endpointTableShare
  repeat' first
    | (simp; done)
    | (intros; simp; done)
    | rw [foldl_store]
    | split
    | (simp only []; split)
    | (simp; rw [foldl_store])
    | (simp; split)

@[simp] theorem endpointTableShare_fixed (s : State) (p : Port) : (s.endpointTableShare p).fixed = s.fixed := by
  unfold State.endpointTableShare
  repeat' first
    | (simp; done)
    | (intros; simp; done)
    | rw [foldl_fixed]
    | split
    | (simp only []; split)
    | (simp; rw [foldl_fixed])
    | (simp; split)

@[simp] theorem resetRequest_groups (s : State) (c : ChanId) (a b : EpId) (p : Port) : (s.resetRequest c a b p).groups = s.groups := by
  unfold State.resetRequest; (repeat' split) <;> simp

@[simp] theorem resetRequest_records (s : State) (c : ChanId) (a b : EpId) (p : Port) : (s.resetRequest c a b p).records = s.records := by
  unfold State.resetRequest; (repeat' split) <;> simp

@[simp] theorem resetRequest_blockPlaces (s : State) (c : ChanId) (a b : EpId) (p : Port) : (s.resetRequest c a b p).blockPlaces = s.blockPlaces := by
  unfold State.resetRequest; (repeat' split) <;> simp

@[simp] theorem resetRequest_arbiter (s : State) (c : ChanId) (a b : EpId) (p : Port) : (s.resetRequest c a b p).arbiter = s.arbiter := by
  unfold State.resetRequest; (repeat' split) <;> simp

@[simp] theorem resetRequest_store (s : State) (c : ChanId) (a b : EpId) (p : Port) : (s.resetRequest c a b p).store = s.store := by
  unfold State.resetRequest; (repeat' split) <;> simp

@[simp] theorem resetRequest_fixed (s : State) (c : ChanId) (a b : EpId) (p : Port) : (s.resetRequest c a b p).fixed = s.fixed := by
  unfold State.resetRequest; (repeat' split) <;> simp

@[simp] theorem resetRequest_cores (s : State) (c : ChanId) (a b : EpId) (p : Port) : (s.resetRequest c a b p).cores = s.cores := by
  unfold State.resetRequest; (repeat' split) <;> simp

@[simp] theorem resetChannel_groups (s : State) (p : Port) (c : ChanId) : (State.resetChannel p s c).groups = s.groups := by
  unfold State.resetChannel; (repeat' split) <;> simp

@[simp] theorem resetChannel_arbiter (s : State) (p : Port) (c : ChanId) : (State.resetChannel p s c).arbiter = s.arbiter := by
  unfold State.resetChannel; (repeat' split) <;> simp

@[simp] theorem resetChannel_store (s : State) (p : Port) (c : ChanId) : (State.resetChannel p s c).store = s.store := by
  unfold State.resetChannel; (repeat' split) <;> simp

@[simp] theorem resetChannel_fixed (s : State) (p : Port) (c : ChanId) : (State.resetChannel p s c).fixed = s.fixed := by
  unfold State.resetChannel; (repeat' split) <;> simp

@[simp] theorem resetChannel_cores (s : State) (p : Port) (c : ChanId) : (State.resetChannel p s c).cores = s.cores := by
  unfold State.resetChannel; (repeat' split) <;> simp

@[simp] theorem channelControllerShare_groups (s : State) (p : Port) : (s.channelControllerShare p).groups = s.groups := by
  unfold State.channelControllerShare
  repeat' first
    | (simp; done)
    | (intros; simp; done)
    | rw [foldl_groups]
    | split
    | (simp only []; split)
    | (simp; rw [foldl_groups])
    | (simp; split)

@[simp] theorem channelControllerShare_arbiter (s : State) (p : Port) : (s.channelControllerShare p).arbiter = s.arbiter := by
  unfold State.channelControllerShare
  repeat' first
    | (simp; done)
    | (intros; simp; done)
    | rw [foldl_arbiter]
    | split
    | (simp only []; split)
    | (simp; rw [foldl_arbiter])
    | (simp; split)

@[simp] theorem channelControllerShare_store (s : State) (p : Port) : (s.channelControllerShare p).store = s.store := by
  unfold State.channelControllerShare
  repeat' first
    | (simp; done)
    | (intros; simp; done)
    | rw [foldl_store]
    | split
    | (simp only []; split)
    | (simp; rw [foldl_store])
    | (simp; split)

@[simp] theorem channelControllerShare_fixed (s : State) (p : Port) : (s.channelControllerShare p).fixed = s.fixed := by
  unfold State.channelControllerShare
  repeat' first
    | (simp; done)
    | (intros; simp; done)
    | rw [foldl_fixed]
    | split
    | (simp only []; split)
    | (simp; rw [foldl_fixed])
    | (simp; split)

@[simp] theorem channelControllerShare_cores (s : State) (p : Port) : (s.channelControllerShare p).cores = s.cores := by
  unfold State.channelControllerShare
  repeat' first
    | (simp; done)
    | (intros; simp; done)
    | rw [foldl_cores]
    | split
    | (simp only []; split)
    | (simp; rw [foldl_cores])
    | (simp; split)

@[simp] theorem resetGroup_channels (s : State) (p : Port) (g : GroupId) : (State.resetGroup p s g).channels = s.channels := by
  unfold State.resetGroup
  repeat' first
    | (simp; done)
    | split
    | (simp only []; split)
    | (simp; split)

@[simp] theorem resetGroup_arbiter (s : State) (p : Port) (g : GroupId) : (State.resetGroup p s g).arbiter = s.arbiter := by
  unfold State.resetGroup
  repeat' first
    | (simp; done)
    | split
    | (simp only []; split)
    | (simp; split)

@[simp] theorem resetGroup_store (s : State) (p : Port) (g : GroupId) : (State.resetGroup p s g).store = s.store := by
  unfold State.resetGroup
  repeat' first
    | (simp; done)
    | split
    | (simp only []; split)
    | (simp; split)

@[simp] theorem resetGroup_fixed (s : State) (p : Port) (g : GroupId) : (State.resetGroup p s g).fixed = s.fixed := by
  unfold State.resetGroup
  repeat' first
    | (simp; done)
    | split
    | (simp only []; split)
    | (simp; split)

@[simp] theorem resetGroup_cores (s : State) (p : Port) (g : GroupId) : (State.resetGroup p s g).cores = s.cores := by
  unfold State.resetGroup
  repeat' first
    | (simp; done)
    | split
    | (simp only []; split)
    | (simp; split)

@[simp] theorem groupControllerShare_channels (s : State) (p : Port) : (s.groupControllerShare p).channels = s.channels := by
  unfold State.groupControllerShare
  repeat' first
    | (simp; done)
    | (intros; simp; done)
    | rw [foldl_channels]
    | split
    | (simp only []; split)
    | (simp; rw [foldl_channels])
    | (simp; split)

@[simp] theorem groupControllerShare_arbiter (s : State) (p : Port) : (s.groupControllerShare p).arbiter = s.arbiter := by
  unfold State.groupControllerShare
  repeat' first
    | (simp; done)
    | (intros; simp; done)
    | rw [foldl_arbiter]
    | split
    | (simp only []; split)
    | (simp; rw [foldl_arbiter])
    | (simp; split)

@[simp] theorem groupControllerShare_store (s : State) (p : Port) : (s.groupControllerShare p).store = s.store := by
  unfold State.groupControllerShare
  repeat' first
    | (simp; done)
    | (intros; simp; done)
    | rw [foldl_store]
    | split
    | (simp only []; split)
    | (simp; rw [foldl_store])
    | (simp; split)

@[simp] theorem groupControllerShare_fixed (s : State) (p : Port) : (s.groupControllerShare p).fixed = s.fixed := by
  unfold State.groupControllerShare
  repeat' first
    | (simp; done)
    | (intros; simp; done)
    | rw [foldl_fixed]
    | split
    | (simp only []; split)
    | (simp; rw [foldl_fixed])
    | (simp; split)

@[simp] theorem groupControllerShare_cores (s : State) (p : Port) : (s.groupControllerShare p).cores = s.cores := by
  unfold State.groupControllerShare
  repeat' first
    | (simp; done)
    | (intros; simp; done)
    | rw [foldl_cores]
    | split
    | (simp only []; split)
    | (simp; rw [foldl_cores])
    | (simp; split)

@[simp] theorem shareOf_arbiter (s : State) (p : Port) (b : ShareBlock) : (s.shareOf p b).arbiter = s.arbiter := by
  unfold State.shareOf; (repeat' split) <;> simp

@[simp] theorem shareOf_store (s : State) (p : Port) (b : ShareBlock) : (s.shareOf p b).store = s.store := by
  unfold State.shareOf; (repeat' split) <;> simp

@[simp] theorem shareOf_fixed (s : State) (p : Port) (b : ShareBlock) : (s.shareOf p b).fixed = s.fixed := by
  unfold State.shareOf; (repeat' split) <;> simp

@[simp] theorem takeShare_arbiter (s : State) (p : Port) (b : ShareBlock) : (State.takeShare p s b).arbiter = s.arbiter := by
  unfold State.takeShare; (repeat' split) <;> simp

@[simp] theorem takeShare_store (s : State) (p : Port) (b : ShareBlock) : (State.takeShare p s b).store = s.store := by
  unfold State.takeShare; (repeat' split) <;> simp

@[simp] theorem takeShare_fixed (s : State) (p : Port) (b : ShareBlock) : (State.takeShare p s b).fixed = s.fixed := by
  unfold State.takeShare; (repeat' split) <;> simp

@[simp] theorem stopSendUnit_store (s : State) (p : Port) : (s.stopSendUnit p).store = s.store := by
  unfold State.stopSendUnit; (repeat' split) <;> simp

@[simp] theorem stopSendUnit_fixed (s : State) (p : Port) : (s.stopSendUnit p).fixed = s.fixed := by
  unfold State.stopSendUnit; (repeat' split) <;> simp

@[simp] theorem stopFetchUnit_groups (s : State) (p : Port) : (s.stopFetchUnit p).groups = s.groups := by
  unfold State.stopFetchUnit; (repeat' split) <;> simp

@[simp] theorem stopFetchUnit_store (s : State) (p : Port) : (s.stopFetchUnit p).store = s.store := by
  unfold State.stopFetchUnit; (repeat' split) <;> simp

@[simp] theorem stopFetchUnit_fixed (s : State) (p : Port) : (s.stopFetchUnit p).fixed = s.fixed := by
  unfold State.stopFetchUnit; (repeat' split) <;> simp

@[simp] theorem enterReset_store (s : State) (p : Port) (d : Bool) (l : List ShareBlock) : (s.enterReset p d l).store = s.store := by
  unfold State.enterReset
  repeat' first
    | (simp; done)
    | (intros; simp; done)
    | rw [foldl_store]
    | split
    | (simp only []; split)
    | (simp; rw [foldl_store])
    | (simp; split)

@[simp] theorem enterReset_fixed (s : State) (p : Port) (d : Bool) (l : List ShareBlock) : (s.enterReset p d l).fixed = s.fixed := by
  unfold State.enterReset
  repeat' first
    | (simp; done)
    | (intros; simp; done)
    | rw [foldl_fixed]
    | split
    | (simp only []; split)
    | (simp; rw [foldl_fixed])
    | (simp; split)

@[simp] theorem placeRequestOn_groups (s : State) (c : ChanId) (a b : EpId) (o : Offer) : (s.placeRequestOn c a b o).groups = s.groups := by
  unfold State.placeRequestOn; (repeat' split) <;> simp

@[simp] theorem placeRequestOn_records (s : State) (c : ChanId) (a b : EpId) (o : Offer) : (s.placeRequestOn c a b o).records = s.records := by
  unfold State.placeRequestOn; (repeat' split) <;> simp

@[simp] theorem placeRequestOn_blockPlaces (s : State) (c : ChanId) (a b : EpId) (o : Offer) : (s.placeRequestOn c a b o).blockPlaces = s.blockPlaces := by
  unfold State.placeRequestOn; (repeat' split) <;> simp

@[simp] theorem placeRequestOn_arbiter (s : State) (c : ChanId) (a b : EpId) (o : Offer) : (s.placeRequestOn c a b o).arbiter = s.arbiter := by
  unfold State.placeRequestOn; (repeat' split) <;> simp

@[simp] theorem placeRequestOn_store (s : State) (c : ChanId) (a b : EpId) (o : Offer) : (s.placeRequestOn c a b o).store = s.store := by
  unfold State.placeRequestOn; (repeat' split) <;> simp

@[simp] theorem placeRequestOn_fixed (s : State) (c : ChanId) (a b : EpId) (o : Offer) : (s.placeRequestOn c a b o).fixed = s.fixed := by
  unfold State.placeRequestOn; (repeat' split) <;> simp

@[simp] theorem placeRequestOn_cores (s : State) (c : ChanId) (a b : EpId) (o : Offer) : (s.placeRequestOn c a b o).cores = s.cores := by
  unfold State.placeRequestOn; (repeat' split) <;> simp

@[simp] theorem openAgreed_groups (s : State) (c : ChanId) (l : LiveChannel) : (s.openAgreed c l).groups = s.groups := by
  unfold State.openAgreed; (repeat' split) <;> simp

@[simp] theorem openAgreed_records (s : State) (c : ChanId) (l : LiveChannel) : (s.openAgreed c l).records = s.records := by
  unfold State.openAgreed; (repeat' split) <;> simp

@[simp] theorem openAgreed_blockPlaces (s : State) (c : ChanId) (l : LiveChannel) : (s.openAgreed c l).blockPlaces = s.blockPlaces := by
  unfold State.openAgreed; (repeat' split) <;> simp

@[simp] theorem openAgreed_arbiter (s : State) (c : ChanId) (l : LiveChannel) : (s.openAgreed c l).arbiter = s.arbiter := by
  unfold State.openAgreed; (repeat' split) <;> simp

@[simp] theorem openAgreed_store (s : State) (c : ChanId) (l : LiveChannel) : (s.openAgreed c l).store = s.store := by
  unfold State.openAgreed; (repeat' split) <;> simp

@[simp] theorem openAgreed_fixed (s : State) (c : ChanId) (l : LiveChannel) : (s.openAgreed c l).fixed = s.fixed := by
  unfold State.openAgreed; (repeat' split) <;> simp

@[simp] theorem openAgreed_cores (s : State) (c : ChanId) (l : LiveChannel) : (s.openAgreed c l).cores = s.cores := by
  unfold State.openAgreed; (repeat' split) <;> simp

@[simp] theorem rejectAt_groups (s : State) (e : EpId) (w : Word) : (s.rejectAt e w).groups = s.groups := by
  unfold State.rejectAt; (repeat' split) <;> simp

@[simp] theorem rejectAt_records (s : State) (e : EpId) (w : Word) : (s.rejectAt e w).records = s.records := by
  unfold State.rejectAt; (repeat' split) <;> simp

@[simp] theorem rejectAt_blockPlaces (s : State) (e : EpId) (w : Word) : (s.rejectAt e w).blockPlaces = s.blockPlaces := by
  unfold State.rejectAt; (repeat' split) <;> simp

@[simp] theorem rejectAt_arbiter (s : State) (e : EpId) (w : Word) : (s.rejectAt e w).arbiter = s.arbiter := by
  unfold State.rejectAt; (repeat' split) <;> simp

@[simp] theorem rejectAt_store (s : State) (e : EpId) (w : Word) : (s.rejectAt e w).store = s.store := by
  unfold State.rejectAt; (repeat' split) <;> simp

@[simp] theorem rejectAt_fixed (s : State) (e : EpId) (w : Word) : (s.rejectAt e w).fixed = s.fixed := by
  unfold State.rejectAt; (repeat' split) <;> simp

@[simp] theorem rejectAt_cores (s : State) (e : EpId) (w : Word) : (s.rejectAt e w).cores = s.cores := by
  unfold State.rejectAt; (repeat' split) <;> simp

@[simp] theorem closeOffered_groups (s : State) (e : EpId) (c : ChanId) (a : EpId) : (s.closeOffered e c a).groups = s.groups := by
  unfold State.closeOffered; (repeat' split) <;> simp

@[simp] theorem closeOffered_records (s : State) (e : EpId) (c : ChanId) (a : EpId) : (s.closeOffered e c a).records = s.records := by
  unfold State.closeOffered; (repeat' split) <;> simp

@[simp] theorem closeOffered_blockPlaces (s : State) (e : EpId) (c : ChanId) (a : EpId) : (s.closeOffered e c a).blockPlaces = s.blockPlaces := by
  unfold State.closeOffered; (repeat' split) <;> simp

@[simp] theorem closeOffered_arbiter (s : State) (e : EpId) (c : ChanId) (a : EpId) : (s.closeOffered e c a).arbiter = s.arbiter := by
  unfold State.closeOffered; (repeat' split) <;> simp

@[simp] theorem closeOffered_store (s : State) (e : EpId) (c : ChanId) (a : EpId) : (s.closeOffered e c a).store = s.store := by
  unfold State.closeOffered; (repeat' split) <;> simp

@[simp] theorem closeOffered_fixed (s : State) (e : EpId) (c : ChanId) (a : EpId) : (s.closeOffered e c a).fixed = s.fixed := by
  unfold State.closeOffered; (repeat' split) <;> simp

@[simp] theorem closeOffered_cores (s : State) (e : EpId) (c : ChanId) (a : EpId) : (s.closeOffered e c a).cores = s.cores := by
  unfold State.closeOffered; (repeat' split) <;> simp

@[simp] theorem closeCalling_groups (s : State) (e : EpId) (c : ChanId) (b : EpId) : (s.closeCalling e c b).groups = s.groups := by
  unfold State.closeCalling; (repeat' split) <;> simp

@[simp] theorem closeCalling_records (s : State) (e : EpId) (c : ChanId) (b : EpId) : (s.closeCalling e c b).records = s.records := by
  unfold State.closeCalling; (repeat' split) <;> simp

@[simp] theorem closeCalling_blockPlaces (s : State) (e : EpId) (c : ChanId) (b : EpId) : (s.closeCalling e c b).blockPlaces = s.blockPlaces := by
  unfold State.closeCalling; (repeat' split) <;> simp

@[simp] theorem closeCalling_arbiter (s : State) (e : EpId) (c : ChanId) (b : EpId) : (s.closeCalling e c b).arbiter = s.arbiter := by
  unfold State.closeCalling; (repeat' split) <;> simp

@[simp] theorem closeCalling_store (s : State) (e : EpId) (c : ChanId) (b : EpId) : (s.closeCalling e c b).store = s.store := by
  unfold State.closeCalling; (repeat' split) <;> simp

@[simp] theorem closeCalling_fixed (s : State) (e : EpId) (c : ChanId) (b : EpId) : (s.closeCalling e c b).fixed = s.fixed := by
  unfold State.closeCalling; (repeat' split) <;> simp

@[simp] theorem closeCalling_cores (s : State) (e : EpId) (c : ChanId) (b : EpId) : (s.closeCalling e c b).cores = s.cores := by
  unfold State.closeCalling; (repeat' split) <;> simp

@[simp] theorem abortAt_groups (s : State) (e : EpId) (c : ChanId) (l : LiveChannel) : (s.abortAt e c l).groups = s.groups := by
  unfold State.abortAt; (repeat' split) <;> simp

@[simp] theorem abortAt_arbiter (s : State) (e : EpId) (c : ChanId) (l : LiveChannel) : (s.abortAt e c l).arbiter = s.arbiter := by
  unfold State.abortAt; (repeat' split) <;> simp

@[simp] theorem abortAt_store (s : State) (e : EpId) (c : ChanId) (l : LiveChannel) : (s.abortAt e c l).store = s.store := by
  unfold State.abortAt; (repeat' split) <;> simp

@[simp] theorem abortAt_fixed (s : State) (e : EpId) (c : ChanId) (l : LiveChannel) : (s.abortAt e c l).fixed = s.fixed := by
  unfold State.abortAt; (repeat' split) <;> simp

@[simp] theorem abortAt_cores (s : State) (e : EpId) (c : ChanId) (l : LiveChannel) : (s.abortAt e c l).cores = s.cores := by
  unfold State.abortAt; (repeat' split) <;> simp

@[simp] theorem beginDrain_groups (s : State) (e : EpId) (c : ChanId) (l : LiveChannel) : (s.beginDrain e c l).groups = s.groups := by
  unfold State.beginDrain
  repeat' first
    | (simp; done)
    | split
    | (simp only []; split)
    | (simp; split)

@[simp] theorem beginDrain_records (s : State) (e : EpId) (c : ChanId) (l : LiveChannel) : (s.beginDrain e c l).records = s.records := by
  unfold State.beginDrain
  repeat' first
    | (simp; done)
    | split
    | (simp only []; split)
    | (simp; split)

@[simp] theorem beginDrain_blockPlaces (s : State) (e : EpId) (c : ChanId) (l : LiveChannel) : (s.beginDrain e c l).blockPlaces = s.blockPlaces := by
  unfold State.beginDrain
  repeat' first
    | (simp; done)
    | split
    | (simp only []; split)
    | (simp; split)

@[simp] theorem beginDrain_arbiter (s : State) (e : EpId) (c : ChanId) (l : LiveChannel) : (s.beginDrain e c l).arbiter = s.arbiter := by
  unfold State.beginDrain
  repeat' first
    | (simp; done)
    | split
    | (simp only []; split)
    | (simp; split)

@[simp] theorem beginDrain_store (s : State) (e : EpId) (c : ChanId) (l : LiveChannel) : (s.beginDrain e c l).store = s.store := by
  unfold State.beginDrain
  repeat' first
    | (simp; done)
    | split
    | (simp only []; split)
    | (simp; split)

@[simp] theorem beginDrain_fixed (s : State) (e : EpId) (c : ChanId) (l : LiveChannel) : (s.beginDrain e c l).fixed = s.fixed := by
  unfold State.beginDrain
  repeat' first
    | (simp; done)
    | split
    | (simp only []; split)
    | (simp; split)

@[simp] theorem beginDrain_cores (s : State) (e : EpId) (c : ChanId) (l : LiveChannel) : (s.beginDrain e c l).cores = s.cores := by
  unfold State.beginDrain
  repeat' first
    | (simp; done)
    | split
    | (simp only []; split)
    | (simp; split)

@[simp] theorem joinDrain_endpoints (s : State) (e : EpId) (c : ChanId) (l : LiveChannel) (cl : Closers) (d : Option Time) : (s.joinDrain e c l cl d).endpoints = s.endpoints := by
  unfold State.joinDrain; (repeat' split) <;> simp

@[simp] theorem joinDrain_groups (s : State) (e : EpId) (c : ChanId) (l : LiveChannel) (cl : Closers) (d : Option Time) : (s.joinDrain e c l cl d).groups = s.groups := by
  unfold State.joinDrain; (repeat' split) <;> simp

@[simp] theorem joinDrain_records (s : State) (e : EpId) (c : ChanId) (l : LiveChannel) (cl : Closers) (d : Option Time) : (s.joinDrain e c l cl d).records = s.records := by
  unfold State.joinDrain; (repeat' split) <;> simp

@[simp] theorem joinDrain_blockPlaces (s : State) (e : EpId) (c : ChanId) (l : LiveChannel) (cl : Closers) (d : Option Time) : (s.joinDrain e c l cl d).blockPlaces = s.blockPlaces := by
  unfold State.joinDrain; (repeat' split) <;> simp

@[simp] theorem joinDrain_arbiter (s : State) (e : EpId) (c : ChanId) (l : LiveChannel) (cl : Closers) (d : Option Time) : (s.joinDrain e c l cl d).arbiter = s.arbiter := by
  unfold State.joinDrain; (repeat' split) <;> simp

@[simp] theorem joinDrain_store (s : State) (e : EpId) (c : ChanId) (l : LiveChannel) (cl : Closers) (d : Option Time) : (s.joinDrain e c l cl d).store = s.store := by
  unfold State.joinDrain; (repeat' split) <;> simp

@[simp] theorem joinDrain_fixed (s : State) (e : EpId) (c : ChanId) (l : LiveChannel) (cl : Closers) (d : Option Time) : (s.joinDrain e c l cl d).fixed = s.fixed := by
  unfold State.joinDrain; (repeat' split) <;> simp

@[simp] theorem joinDrain_cores (s : State) (e : EpId) (c : ChanId) (l : LiveChannel) (cl : Closers) (d : Option Time) : (s.joinDrain e c l cl d).cores = s.cores := by
  unfold State.joinDrain; (repeat' split) <;> simp

@[simp] theorem closeChannelEnd_groups (s : State) (e : EpId) (c : ChanId) (b : Bool) : (s.closeChannelEnd e c b).groups = s.groups := by
  unfold State.closeChannelEnd; (repeat' split) <;> simp

@[simp] theorem closeChannelEnd_arbiter (s : State) (e : EpId) (c : ChanId) (b : Bool) : (s.closeChannelEnd e c b).arbiter = s.arbiter := by
  unfold State.closeChannelEnd; (repeat' split) <;> simp

@[simp] theorem closeChannelEnd_store (s : State) (e : EpId) (c : ChanId) (b : Bool) : (s.closeChannelEnd e c b).store = s.store := by
  unfold State.closeChannelEnd; (repeat' split) <;> simp

@[simp] theorem closeChannelEnd_fixed (s : State) (e : EpId) (c : ChanId) (b : Bool) : (s.closeChannelEnd e c b).fixed = s.fixed := by
  unfold State.closeChannelEnd; (repeat' split) <;> simp

@[simp] theorem closeChannelEnd_cores (s : State) (e : EpId) (c : ChanId) (b : Bool) : (s.closeChannelEnd e c b).cores = s.cores := by
  unfold State.closeChannelEnd; (repeat' split) <;> simp

@[simp] theorem closePublisher_channels (s : State) (g : GroupId) : (s.closePublisher g).channels = s.channels := by
  unfold State.closePublisher; (repeat' split) <;> simp

@[simp] theorem closePublisher_arbiter (s : State) (g : GroupId) : (s.closePublisher g).arbiter = s.arbiter := by
  unfold State.closePublisher; (repeat' split) <;> simp

@[simp] theorem closePublisher_store (s : State) (g : GroupId) : (s.closePublisher g).store = s.store := by
  unfold State.closePublisher; (repeat' split) <;> simp

@[simp] theorem closePublisher_fixed (s : State) (g : GroupId) : (s.closePublisher g).fixed = s.fixed := by
  unfold State.closePublisher; (repeat' split) <;> simp

@[simp] theorem closePublisher_cores (s : State) (g : GroupId) : (s.closePublisher g).cores = s.cores := by
  unfold State.closePublisher; (repeat' split) <;> simp

@[simp] theorem closeMember_channels (s : State) (e : EpId) (g : GroupId) : (s.closeMember e g).channels = s.channels := by
  unfold State.closeMember; (repeat' split) <;> simp

@[simp] theorem closeMember_arbiter (s : State) (e : EpId) (g : GroupId) : (s.closeMember e g).arbiter = s.arbiter := by
  unfold State.closeMember; (repeat' split) <;> simp

@[simp] theorem closeMember_store (s : State) (e : EpId) (g : GroupId) : (s.closeMember e g).store = s.store := by
  unfold State.closeMember; (repeat' split) <;> simp

@[simp] theorem closeMember_fixed (s : State) (e : EpId) (g : GroupId) : (s.closeMember e g).fixed = s.fixed := by
  unfold State.closeMember; (repeat' split) <;> simp

@[simp] theorem closeMember_cores (s : State) (e : EpId) (g : GroupId) : (s.closeMember e g).cores = s.cores := by
  unfold State.closeMember; (repeat' split) <;> simp

@[simp] theorem closeAtRole_arbiter (s : State) (e : EpId) (b : Bool) : (s.closeAtRole e b).arbiter = s.arbiter := by
  unfold State.closeAtRole; (repeat' split) <;> simp

@[simp] theorem closeAtRole_store (s : State) (e : EpId) (b : Bool) : (s.closeAtRole e b).store = s.store := by
  unfold State.closeAtRole; (repeat' split) <;> simp

@[simp] theorem closeAtRole_fixed (s : State) (e : EpId) (b : Bool) : (s.closeAtRole e b).fixed = s.fixed := by
  unfold State.closeAtRole; (repeat' split) <;> simp

@[simp] theorem closeAtRole_cores (s : State) (e : EpId) (b : Bool) : (s.closeAtRole e b).cores = s.cores := by
  unfold State.closeAtRole; (repeat' split) <;> simp

@[simp] theorem acceptChannelMessage_endpoints (s : State) (p : Port) (r : RecId) (e : EpId) (c : ChanId) (l : LiveChannel) : (s.acceptChannelMessage p r e c l).endpoints = s.endpoints := by
  unfold State.acceptChannelMessage
  repeat' first
    | (simp; done)
    | split
    | (simp only []; split)
    | (simp; split)

@[simp] theorem acceptChannelMessage_groups (s : State) (p : Port) (r : RecId) (e : EpId) (c : ChanId) (l : LiveChannel) : (s.acceptChannelMessage p r e c l).groups = s.groups := by
  unfold State.acceptChannelMessage
  repeat' first
    | (simp; done)
    | split
    | (simp only []; split)
    | (simp; split)

@[simp] theorem acceptChannelMessage_arbiter (s : State) (p : Port) (r : RecId) (e : EpId) (c : ChanId) (l : LiveChannel) : (s.acceptChannelMessage p r e c l).arbiter = s.arbiter := by
  unfold State.acceptChannelMessage
  repeat' first
    | (simp; done)
    | split
    | (simp only []; split)
    | (simp; split)

@[simp] theorem acceptChannelMessage_store (s : State) (p : Port) (r : RecId) (e : EpId) (c : ChanId) (l : LiveChannel) : (s.acceptChannelMessage p r e c l).store = s.store := by
  unfold State.acceptChannelMessage
  repeat' first
    | (simp; done)
    | split
    | (simp only []; split)
    | (simp; split)

@[simp] theorem acceptChannelMessage_fixed (s : State) (p : Port) (r : RecId) (e : EpId) (c : ChanId) (l : LiveChannel) : (s.acceptChannelMessage p r e c l).fixed = s.fixed := by
  unfold State.acceptChannelMessage
  repeat' first
    | (simp; done)
    | split
    | (simp only []; split)
    | (simp; split)

@[simp] theorem acceptChannelMessage_cores (s : State) (p : Port) (r : RecId) (e : EpId) (c : ChanId) (l : LiveChannel) : (s.acceptChannelMessage p r e c l).cores = s.cores := by
  unfold State.acceptChannelMessage
  repeat' first
    | (simp; done)
    | split
    | (simp only []; split)
    | (simp; split)

@[simp] theorem beginChannelCopy_store (s : State) (p : Port) (r : RecId) (c : ChanId) (n life : Nat) : (s.beginChannelCopy p r c n life).store = s.store := by
  unfold State.beginChannelCopy; (repeat' split) <;> simp

@[simp] theorem beginChannelCopy_fixed (s : State) (p : Port) (r : RecId) (c : ChanId) (n life : Nat) : (s.beginChannelCopy p r c n life).fixed = s.fixed := by
  unfold State.beginChannelCopy; (repeat' split) <;> simp

@[simp] theorem removeHead_ports (s : State) (e : EpId) : (s.removeHead e).ports = s.ports := by
  unfold State.removeHead; (repeat' split) <;> simp

@[simp] theorem removeHead_channels (s : State) (e : EpId) : (s.removeHead e).channels = s.channels := by
  unfold State.removeHead; (repeat' split) <;> simp

@[simp] theorem removeHead_groups (s : State) (e : EpId) : (s.removeHead e).groups = s.groups := by
  unfold State.removeHead; (repeat' split) <;> simp

@[simp] theorem removeHead_records (s : State) (e : EpId) : (s.removeHead e).records = s.records := by
  unfold State.removeHead; (repeat' split) <;> simp

@[simp] theorem removeHead_blockPlaces (s : State) (e : EpId) : (s.removeHead e).blockPlaces = s.blockPlaces := by
  unfold State.removeHead; (repeat' split) <;> simp

@[simp] theorem removeHead_arbiter (s : State) (e : EpId) : (s.removeHead e).arbiter = s.arbiter := by
  unfold State.removeHead; (repeat' split) <;> simp

@[simp] theorem removeHead_store (s : State) (e : EpId) : (s.removeHead e).store = s.store := by
  unfold State.removeHead; (repeat' split) <;> simp

@[simp] theorem removeHead_fixed (s : State) (e : EpId) : (s.removeHead e).fixed = s.fixed := by
  unfold State.removeHead; (repeat' split) <;> simp

@[simp] theorem removeHead_cores (s : State) (e : EpId) : (s.removeHead e).cores = s.cores := by
  unfold State.removeHead; (repeat' split) <;> simp

@[simp] theorem beginFetchOn_ports (s : State) (k : RecLink) : (s.beginFetchOn k).ports = s.ports := by
  unfold State.beginFetchOn; (repeat' split) <;> simp

@[simp] theorem beginFetchOn_endpoints (s : State) (k : RecLink) : (s.beginFetchOn k).endpoints = s.endpoints := by
  unfold State.beginFetchOn; (repeat' split) <;> simp

@[simp] theorem beginFetchOn_groups (s : State) (k : RecLink) : (s.beginFetchOn k).groups = s.groups := by
  unfold State.beginFetchOn; (repeat' split) <;> simp

@[simp] theorem beginFetchOn_records (s : State) (k : RecLink) : (s.beginFetchOn k).records = s.records := by
  unfold State.beginFetchOn; (repeat' split) <;> simp

@[simp] theorem beginFetchOn_blockPlaces (s : State) (k : RecLink) : (s.beginFetchOn k).blockPlaces = s.blockPlaces := by
  unfold State.beginFetchOn; (repeat' split) <;> simp

@[simp] theorem beginFetchOn_arbiter (s : State) (k : RecLink) : (s.beginFetchOn k).arbiter = s.arbiter := by
  unfold State.beginFetchOn; (repeat' split) <;> simp

@[simp] theorem beginFetchOn_store (s : State) (k : RecLink) : (s.beginFetchOn k).store = s.store := by
  unfold State.beginFetchOn; (repeat' split) <;> simp

@[simp] theorem beginFetchOn_fixed (s : State) (k : RecLink) : (s.beginFetchOn k).fixed = s.fixed := by
  unfold State.beginFetchOn; (repeat' split) <;> simp

@[simp] theorem beginFetchOn_cores (s : State) (k : RecLink) : (s.beginFetchOn k).cores = s.cores := by
  unfold State.beginFetchOn; (repeat' split) <;> simp

@[simp] theorem fetchHead_groups (s : State) (p : Port) (e : EpId) (r : RecId) (m : Message) : (s.fetchHead p e r m).groups = s.groups := by
  unfold State.fetchHead
  repeat' first
    | (simp; done)
    | split
    | (simp only []; split)
    | (simp; split)

@[simp] theorem fetchHead_store (s : State) (p : Port) (e : EpId) (r : RecId) (m : Message) : (s.fetchHead p e r m).store = s.store := by
  unfold State.fetchHead
  repeat' first
    | (simp; done)
    | split
    | (simp only []; split)
    | (simp; split)

@[simp] theorem fetchHead_fixed (s : State) (p : Port) (e : EpId) (r : RecId) (m : Message) : (s.fetchHead p e r m).fixed = s.fixed := by
  unfold State.fetchHead
  repeat' first
    | (simp; done)
    | split
    | (simp only []; split)
    | (simp; split)

@[simp] theorem acceptGroupMessage_endpoints (s : State) (p : Port) (r : RecId) (e : EpId) (g : GroupId) (x : ActiveGroup) : (s.acceptGroupMessage p r e g x).endpoints = s.endpoints := by
  unfold State.acceptGroupMessage
  repeat' first
    | (simp; done)
    | split
    | (simp only []; split)
    | (simp; split)

@[simp] theorem acceptGroupMessage_channels (s : State) (p : Port) (r : RecId) (e : EpId) (g : GroupId) (x : ActiveGroup) : (s.acceptGroupMessage p r e g x).channels = s.channels := by
  unfold State.acceptGroupMessage
  repeat' first
    | (simp; done)
    | split
    | (simp only []; split)
    | (simp; split)

@[simp] theorem acceptGroupMessage_arbiter (s : State) (p : Port) (r : RecId) (e : EpId) (g : GroupId) (x : ActiveGroup) : (s.acceptGroupMessage p r e g x).arbiter = s.arbiter := by
  unfold State.acceptGroupMessage
  repeat' first
    | (simp; done)
    | split
    | (simp only []; split)
    | (simp; split)

@[simp] theorem acceptGroupMessage_store (s : State) (p : Port) (r : RecId) (e : EpId) (g : GroupId) (x : ActiveGroup) : (s.acceptGroupMessage p r e g x).store = s.store := by
  unfold State.acceptGroupMessage
  repeat' first
    | (simp; done)
    | split
    | (simp only []; split)
    | (simp; split)

@[simp] theorem acceptGroupMessage_fixed (s : State) (p : Port) (r : RecId) (e : EpId) (g : GroupId) (x : ActiveGroup) : (s.acceptGroupMessage p r e g x).fixed = s.fixed := by
  unfold State.acceptGroupMessage
  repeat' first
    | (simp; done)
    | split
    | (simp only []; split)
    | (simp; split)

@[simp] theorem acceptGroupMessage_cores (s : State) (p : Port) (r : RecId) (e : EpId) (g : GroupId) (x : ActiveGroup) : (s.acceptGroupMessage p r e g x).cores = s.cores := by
  unfold State.acceptGroupMessage
  repeat' first
    | (simp; done)
    | split
    | (simp only []; split)
    | (simp; split)

@[simp] theorem beginGroupCopy_store (s : State) (p : Port) (r : RecId) (g : GroupId) (n life : Nat) : (s.beginGroupCopy p r g n life).store = s.store := by
  unfold State.beginGroupCopy; (repeat' split) <;> simp

@[simp] theorem beginGroupCopy_fixed (s : State) (p : Port) (r : RecId) (g : GroupId) (n life : Nat) : (s.beginGroupCopy p r g n life).fixed = s.fixed := by
  unfold State.beginGroupCopy; (repeat' split) <;> simp

@[simp] theorem setPolicy_ports (s : State) (e : EpId) (x : GroupPolicy) : (s.setPolicy e x).ports = s.ports := by
  unfold State.setPolicy; (repeat' split) <;> simp

@[simp] theorem setPolicy_endpoints (s : State) (e : EpId) (x : GroupPolicy) : (s.setPolicy e x).endpoints = s.endpoints := by
  unfold State.setPolicy; (repeat' split) <;> simp

@[simp] theorem setPolicy_channels (s : State) (e : EpId) (x : GroupPolicy) : (s.setPolicy e x).channels = s.channels := by
  unfold State.setPolicy; (repeat' split) <;> simp

@[simp] theorem setPolicy_records (s : State) (e : EpId) (x : GroupPolicy) : (s.setPolicy e x).records = s.records := by
  unfold State.setPolicy; (repeat' split) <;> simp

@[simp] theorem setPolicy_blockPlaces (s : State) (e : EpId) (x : GroupPolicy) : (s.setPolicy e x).blockPlaces = s.blockPlaces := by
  unfold State.setPolicy; (repeat' split) <;> simp

@[simp] theorem setPolicy_arbiter (s : State) (e : EpId) (x : GroupPolicy) : (s.setPolicy e x).arbiter = s.arbiter := by
  unfold State.setPolicy; (repeat' split) <;> simp

@[simp] theorem setPolicy_store (s : State) (e : EpId) (x : GroupPolicy) : (s.setPolicy e x).store = s.store := by
  unfold State.setPolicy; (repeat' split) <;> simp

@[simp] theorem setPolicy_fixed (s : State) (e : EpId) (x : GroupPolicy) : (s.setPolicy e x).fixed = s.fixed := by
  unfold State.setPolicy; (repeat' split) <;> simp

@[simp] theorem setPolicy_cores (s : State) (e : EpId) (x : GroupPolicy) : (s.setPolicy e x).cores = s.cores := by
  unfold State.setPolicy; (repeat' split) <;> simp

@[simp] theorem nudgeFrom_endpoints (s : State) (q p : Port) : (s.nudgeFrom q p).endpoints = s.endpoints := by
  unfold State.nudgeFrom; (repeat' split) <;> simp

@[simp] theorem nudgeFrom_channels (s : State) (q p : Port) : (s.nudgeFrom q p).channels = s.channels := by
  unfold State.nudgeFrom; (repeat' split) <;> simp

@[simp] theorem nudgeFrom_groups (s : State) (q p : Port) : (s.nudgeFrom q p).groups = s.groups := by
  unfold State.nudgeFrom; (repeat' split) <;> simp

@[simp] theorem nudgeFrom_records (s : State) (q p : Port) : (s.nudgeFrom q p).records = s.records := by
  unfold State.nudgeFrom; (repeat' split) <;> simp

@[simp] theorem nudgeFrom_blockPlaces (s : State) (q p : Port) : (s.nudgeFrom q p).blockPlaces = s.blockPlaces := by
  unfold State.nudgeFrom; (repeat' split) <;> simp

@[simp] theorem nudgeFrom_arbiter (s : State) (q p : Port) : (s.nudgeFrom q p).arbiter = s.arbiter := by
  unfold State.nudgeFrom; (repeat' split) <;> simp

@[simp] theorem nudgeFrom_store (s : State) (q p : Port) : (s.nudgeFrom q p).store = s.store := by
  unfold State.nudgeFrom; (repeat' split) <;> simp

@[simp] theorem nudgeFrom_fixed (s : State) (q p : Port) : (s.nudgeFrom q p).fixed = s.fixed := by
  unfold State.nudgeFrom; (repeat' split) <;> simp

@[simp] theorem nudgeFrom_cores (s : State) (q p : Port) : (s.nudgeFrom q p).cores = s.cores := by
  unfold State.nudgeFrom; rw [setPortCond_cores]; exact cores_modPort _ _ _ rfl

@[simp] theorem disableTarget_store (s : State) (p : Port) (l : List ShareBlock) : (s.disableTarget p l).store = s.store := by
  unfold State.disableTarget; (repeat' split) <;> simp

@[simp] theorem disableTarget_fixed (s : State) (p : Port) (l : List ShareBlock) : (s.disableTarget p l).fixed = s.fixed := by
  unfold State.disableTarget; (repeat' split) <;> simp

@[simp] theorem timeOutRequest_groups (s : State) (c : ChanId) (a b : EpId) : (s.timeOutRequest c a b).groups = s.groups := by
  unfold State.timeOutRequest; (repeat' split) <;> simp

@[simp] theorem timeOutRequest_records (s : State) (c : ChanId) (a b : EpId) : (s.timeOutRequest c a b).records = s.records := by
  unfold State.timeOutRequest; (repeat' split) <;> simp

@[simp] theorem timeOutRequest_blockPlaces (s : State) (c : ChanId) (a b : EpId) : (s.timeOutRequest c a b).blockPlaces = s.blockPlaces := by
  unfold State.timeOutRequest; (repeat' split) <;> simp

@[simp] theorem timeOutRequest_arbiter (s : State) (c : ChanId) (a b : EpId) : (s.timeOutRequest c a b).arbiter = s.arbiter := by
  unfold State.timeOutRequest; (repeat' split) <;> simp

@[simp] theorem timeOutRequest_store (s : State) (c : ChanId) (a b : EpId) : (s.timeOutRequest c a b).store = s.store := by
  unfold State.timeOutRequest; (repeat' split) <;> simp

@[simp] theorem timeOutRequest_fixed (s : State) (c : ChanId) (a b : EpId) : (s.timeOutRequest c a b).fixed = s.fixed := by
  unfold State.timeOutRequest; (repeat' split) <;> simp

@[simp] theorem timeOutRequest_cores (s : State) (c : ChanId) (a b : EpId) : (s.timeOutRequest c a b).cores = s.cores := by
  unfold State.timeOutRequest; (repeat' split) <;> simp

@[simp] theorem expire_groups (s : State) (r : RecId) (m : Message) : (s.expire r m).groups = s.groups := by
  unfold State.expire
  repeat' first
    | (simp; done)
    | (intros; simp; done)
    | rw [foldl_groups]
    | split
    | (simp only []; split)
    | (simp; rw [foldl_groups])
    | (simp; split)

@[simp] theorem expire_arbiter (s : State) (r : RecId) (m : Message) : (s.expire r m).arbiter = s.arbiter := by
  unfold State.expire
  repeat' first
    | (simp; done)
    | (intros; simp; done)
    | rw [foldl_arbiter]
    | split
    | (simp only []; split)
    | (simp; rw [foldl_arbiter])
    | (simp; split)

@[simp] theorem expire_store (s : State) (r : RecId) (m : Message) : (s.expire r m).store = s.store := by
  unfold State.expire
  repeat' first
    | (simp; done)
    | (intros; simp; done)
    | rw [foldl_store]
    | split
    | (simp only []; split)
    | (simp; rw [foldl_store])
    | (simp; split)

@[simp] theorem expire_fixed (s : State) (r : RecId) (m : Message) : (s.expire r m).fixed = s.fixed := by
  unfold State.expire
  repeat' first
    | (simp; done)
    | (intros; simp; done)
    | rw [foldl_fixed]
    | split
    | (simp only []; split)
    | (simp; rw [foldl_fixed])
    | (simp; split)

@[simp] theorem expire_cores (s : State) (r : RecId) (m : Message) : (s.expire r m).cores = s.cores := by
  unfold State.expire
  repeat' first
    | (simp; done)
    | (intros; simp; done)
    | rw [foldl_cores]
    | split
    | (simp only []; split)
    | (simp; rw [foldl_cores])
    | (simp; split)

end Sys2Proof.Machine
end

