-- ==== Sys2Proof/Laws/Checks.lean ====
section
/-! SUPPORT. How a command answers: the order of its checks, and the shape of every answer. -/

namespace Sys2Proof.Machine

/-- The first failing check fails, and the checks before it do not. -/
theorem firstFailing_eq_none {l : List (Bool × ResultCode)} : firstFailing l = none ↔ ∀ x ∈ l, x.1 = false := by
  induction l with
  | nil => simp [firstFailing]
  | cons x rest ih =>
    obtain ⟨b, c⟩ := x
    cases b <;> simp [firstFailing, ih]

theorem answer_none {s : State} {p : Port} {acc : State × Word} (h : s.chipReset = false) :
    answer s p none acc = .next (acc.1.setResult p .ok acc.2) := by
  simp [answer, taken, h]

theorem answer_some {s : State} {p : Port} {code : ResultCode} {acc : State × Word} (h : s.chipReset = false) :
    answer s p (some code) acc = .next (s.setResult p code 0#16) := by
  simp [answer, taken, h]

/-- A command that answers by `firstFailing` gives its results in the order of its list. -/
theorem resultsInOrder_of_firstFailing {c : Instr} {p : Port} {s : State} {acc : State × Word} {A : State → Prop}
    (h0 : s.chipReset = false) :
    ∀ (l : List (Bool × ResultCode)), exec c s = answer s p (firstFailing l) acc →
      (firstFailing l = none → A (acc.1.setResult p .ok acc.2)) →
      ResultsInOrder c p s A (l.map fun x => (x.1 = true, x.2))
  | [], h, hA => ⟨_, by rw [h]; exact answer_none h0, hA rfl⟩
  | (true, code) :: rest, h, _ =>
    ⟨fun _ => by rw [h]; exact answer_some h0, fun hn => absurd rfl hn⟩
  | (false, code) :: rest, h, hA =>
    ⟨fun hf => by simp at hf, fun _ => resultsInOrder_of_firstFailing h0 rest h hA⟩

/-- The same, with the checks put in other words. -/
theorem resultsInOrder_intro {c : Instr} {p : Port} {s : State} {acc : State × Word} {A : State → Prop}
    {checks : List (Prop × ResultCode)} (l : List (Bool × ResultCode)) (h0 : s.chipReset = false)
    (h : exec c s = answer s p (firstFailing l) acc) (hl : checks = l.map fun x => (x.1 = true, x.2))
    (hA : (∀ x ∈ l, x.1 = false) → A (acc.1.setResult p .ok acc.2)) : ResultsInOrder c p s A checks := by
  rw [hl]
  exact resultsInOrder_of_firstFailing h0 l h fun hn => hA (firstFailing_eq_none.1 hn)

end Sys2Proof.Machine
end

