-- ==== Sys2Proof/Laws/Records.lean ====
section
/-! SUPPORT. What a claim, a release and a bulk discard can do to the records, the block places and the
endpoints. -/

namespace Sys2Proof.Machine

@[simp] theorem message?_free : MsgRecord.message? .free = none := rfl
@[simp] theorem message?_filling (m : Message) : MsgRecord.message? (.filling m) = some m := rfl
@[simp] theorem message?_live (m : Message) (d : Option Time) : MsgRecord.message? (.live m d) = some m := rfl

/-! ## Reading through equal parts -/

@[simp] theorem record_modPort (s : State) (p : Port) (f : PortRec → PortRec) (r : RecId) :
    (s.modPort p f).record r = s.record r := rfl

theorem places_foldl_placeBlock (f : BlockId → BlockPlace) (b : BlockId) :
    ∀ (l : List BlockId) (s : State),
      (l.foldl (fun t k => t.placeBlock k (f k)) s).blockPlaces[b] = if b ∈ l then f b else s.blockPlaces[b]
  | [], s => by simp
  | k :: l, s => by
    rw [List.foldl_cons, places_foldl_placeBlock f b l]
    by_cases h : b ∈ l
    · rw [if_pos h, if_pos (List.mem_cons_of_mem _ h)]
    · rw [if_neg h]
      by_cases e : b = k
      · subst e; rw [if_pos List.mem_cons_self]; exact place_placeBlock_self s b (f b)
      · rw [if_neg (by simp [e, h])]; exact place_placeBlock_ne s (f k) e

/-! ## Claims (R10, R12) -/

/-- A release touches its own record only. -/
theorem release_record_ne (s : State) {r k : RecId} (m : Message) (c : Cause) (h : k ≠ r) :
    (s.release r m c).record k = s.record k := by
  unfold State.release
  simp only [record_setRecord_ne _ _ h]
  split
  · rw [record_congr (handOff_records ..)]
    simp only [State.modAccount, record_modPort]
    exact record_congr (by rw [foldl_records]; intros; rfl) k
  · simp only [State.modAccount, record_modPort]
    exact record_congr (by rw [foldl_records]; intros; rfl) k

@[simp] theorem release_record_self (s : State) (r : RecId) (m : Message) (c : Cause) :
    (s.release r m c).record r = .free := by
  unfold State.release
  simp only [record_setRecord_self]

/-- The blocks of a released record go to the free set, the bad-marked ones to the retired set (R12). -/
theorem release_places (s : State) (r : RecId) (m : Message) (c : Cause) (b : BlockId) :
    (s.release r m c).blockPlaces[b] = if b ∈ m.blocks then releasedTo m b else s.blockPlaces[b] := by
  have key : (s.release r m c).blockPlaces =
      (m.blocks.foldl (fun t b => t.placeBlock b (releasedTo m b)) s).blockPlaces := by
    unfold State.release
    simp only [setRecord_blockPlaces]
    split
    · rw [handOff_blockPlaces, modAccount_blockPlaces]
    · rw [modAccount_blockPlaces]
  rw [show (s.release r m c).blockPlaces[b] = _ from by rw [key]]
  exact places_foldl_placeBlock (releasedTo m) b m.blocks s

theorem modMessage_record_ne (s : State) {r k : RecId} (f : Message → Message) (h : k ≠ r) :
    (s.modMessage r f).record k = s.record k := by
  simp [State.modMessage, h]

@[simp] theorem modMessage_record_self (s : State) (r : RecId) (f : Message → Message) :
    (s.modMessage r f).record r = (s.record r).mapMessage f := by
  simp [State.modMessage]

/-- A claim touches its own record only. -/
theorem claim_record_ne (s : State) {r k : RecId} (n : Nat) (t : Option TallyKind) (c : Cause) (h : k ≠ r) :
    (s.claim r n t c).record k = s.record k := by
  unfold State.claim
  split
  · rfl
  · simp only []
    split
    · exact release_record_ne _ _ _ h
    · exact modMessage_record_ne _ _ h

/-- A claim that takes the last holder releases the record. -/
theorem claim_record_released (s : State) {r : RecId} {n : Nat} {t : Option TallyKind} {c : Cause} {m : Message}
    (h : (s.record r).message? = some m) (hn : m.count ≤ n) : (s.claim r n t c).record r = .free := by
  unfold State.claim
  rw [h]
  have : (m.afterClaim n t).count = 0 := by simp [Message.afterClaim]; omega
  simp [this]

/-- A claim that leaves a holder lowers the count and raises the tally. -/
theorem claim_record_kept (s : State) {r : RecId} {n : Nat} {t : Option TallyKind} {c : Cause} {m : Message}
    (h : (s.record r).message? = some m) (hn : n < m.count) :
    (s.claim r n t c).record r = (s.record r).mapMessage fun _ => m.afterClaim n t := by
  unfold State.claim
  rw [h]
  have : (m.afterClaim n t).count ≠ 0 := by simp [Message.afterClaim]; omega
  simp [this]

theorem afterClaim_some (m : Message) (n : Nat) (k : TallyKind) : m.afterClaim n (some k) = m.ended n k := rfl

/-- A claim on a LIVE record. -/
theorem claim_record_live (s : State) {r : RecId} {n : Nat} {k : TallyKind} {c : Cause} {m : Message}
    {d : Option Time} (h : s.record r = .live m d) :
    (s.claim r n (some k) c).record r = if m.count ≤ n then .free else .live (m.ended n k) d := by
  have hm : (s.record r).message? = some m := by rw [h]; rfl
  split
  · exact claim_record_released s hm ‹_›
  · rw [claim_record_kept s hm (by omega), h, afterClaim_some]; rfl

/-! ## Bulk discard (R32) -/

theorem mem_firstAppearances {l : List RecId} {r : RecId} : r ∈ firstAppearances l ↔ r ∈ l := by
  induction l with
  | nil => simp [firstAppearances]
  | cons a l ih =>
    simp only [firstAppearances, List.mem_cons, List.mem_filter, ih]
    by_cases h : r = a <;> simp [h]

theorem nodup_firstAppearances (l : List RecId) : (firstAppearances l).Nodup := by
  induction l with
  | nil => simp [firstAppearances]
  | cons a l ih =>
    simp only [firstAppearances, List.nodup_cons, List.mem_filter]
    exact ⟨by simp, ih.filter _⟩

/-- A run of claims, one for each record of a list, leaves the other records alone. -/
theorem foldl_claim_record_notin (n : RecId → Nat) (k : Option TallyKind) (c : Cause) {r : RecId} :
    ∀ (l : List RecId) (s : State), r ∉ l →
      (l.foldl (fun t x => t.claim x (n x) k c) s).record r = s.record r
  | [], _, _ => rfl
  | a :: l, s, h => by
    rw [List.foldl_cons, foldl_claim_record_notin n k c l _ (fun hm => h (by simp [hm]))]
    exact claim_record_ne _ _ _ _ (fun e => h (by simp [e]))

/-- A run of claims, one for each record of a list, takes each record once. -/
theorem foldl_claim_record_mem (n : RecId → Nat) (k : TallyKind) (c : Cause) {r : RecId} {m : Message}
    {d : Option Time} :
    ∀ (l : List RecId) (s : State), l.Nodup → r ∈ l → s.record r = .live m d →
      (l.foldl (fun t x => t.claim x (n x) (some k) c) s).record r =
        if m.count ≤ n r then .free else .live (m.ended (n r) k) d
  | a :: l, s, hn, hm, hr => by
    rw [List.nodup_cons] at hn
    rw [List.foldl_cons]
    by_cases e : r = a
    · subst e
      rw [foldl_claim_record_notin n (some k) c l _ hn.1]
      exact claim_record_live s hr
    · have hm' : r ∈ l := by simpa [e] using hm
      refine foldl_claim_record_mem n k c l _ hn.2 hm' ?_
      rw [claim_record_ne _ _ _ _ e, hr]

/-- A record that holds nothing, or one holder, is FREE after its claim. -/
theorem foldl_claim_record_free (n : RecId → Nat) (k : TallyKind) (c : Cause) {r : RecId} :
    ∀ (l : List RecId) (s : State), l.Nodup → r ∈ l →
      (∀ m, (s.record r).message? = some m → m.count ≤ n r) →
      (l.foldl (fun t x => t.claim x (n x) (some k) c) s).record r = .free
  | a :: l, s, hn, hm, hr => by
    rw [List.nodup_cons] at hn
    rw [List.foldl_cons]
    by_cases e : r = a
    · subst e
      rw [foldl_claim_record_notin n (some k) c l _ hn.1]
      cases h : (s.record r).message? with
      | none =>
        have h' : s.record r = .free := by cases hx : s.record r <;> simp_all
        have : s.claim r (n r) (some k) c = s := by unfold State.claim; rw [h]
        rw [this, h']
      | some m => exact claim_record_released s h (hr m h)
    · have hm' : r ∈ l := by simpa [e] using hm
      refine foldl_claim_record_free n k c l _ hn.2 hm' ?_
      rw [claim_record_ne _ _ _ _ e]; exact hr

theorem entriesOf_records_congr (s : State) (l : List EpId) (r : RecId) :
    (l.foldl State.emptyQueue s).record r = s.record r :=
  record_congr (by rw [foldl_records]; intros; rfl) r

/-- A bulk discard leaves the records that the queues do not name. -/
theorem bulkDiscard_record_notin (s : State) (l : List EpId) {r : RecId} (h : r ∉ s.entriesOf l) :
    (s.bulkDiscard l).record r = s.record r := by
  unfold State.bulkDiscard
  rw [foldl_claim_record_notin (fun x => (s.entriesOf l).count x) _ _ _ _ (fun hm => h (mem_firstAppearances.1 hm))]
  exact entriesOf_records_congr s l r

/-- A bulk discard takes a LIVE record by the number of its entries. -/
theorem bulkDiscard_record_live (s : State) (l : List EpId) {r : RecId} {m : Message} {d : Option Time}
    (h : r ∈ s.entriesOf l) (hr : s.record r = .live m d) :
    (s.bulkDiscard l).record r =
      if m.count ≤ (s.entriesOf l).count r then .free
      else .live (m.ended ((s.entriesOf l).count r) .discarded) d := by
  unfold State.bulkDiscard
  refine foldl_claim_record_mem (fun x => (s.entriesOf l).count x) _ _ _ _ (nodup_firstAppearances _)
    (mem_firstAppearances.2 h) ?_
  rw [entriesOf_records_congr, hr]

/-- A bulk discard frees a record whose count its entries reach. -/
theorem bulkDiscard_record_free (s : State) (l : List EpId) {r : RecId} (h : r ∈ s.entriesOf l)
    (hr : ∀ m, (s.record r).message? = some m → m.count ≤ (s.entriesOf l).count r) :
    (s.bulkDiscard l).record r = .free := by
  unfold State.bulkDiscard
  refine foldl_claim_record_free (fun x => (s.entriesOf l).count x) _ _ _ _ (nodup_firstAppearances _)
    (mem_firstAppearances.2 h) ?_
  rw [entriesOf_records_congr]; exact hr

@[simp] theorem withQueue_nil_idem (r : Role) : (r.withQueue []).withQueue [] = r.withQueue [] := by
  cases r <;> rfl

/-- Emptying queues. -/
theorem endpoint_foldl_emptyQueue (e : EpId) :
    ∀ (l : List EpId) (s : State),
      (l.foldl State.emptyQueue s).endpoint e =
        if e ∈ l then { s.endpoint e with role := (s.role e).withQueue [] } else s.endpoint e
  | [], s => by simp
  | a :: l, s => by
    rw [List.foldl_cons, endpoint_foldl_emptyQueue e l]
    by_cases h : e = a
    · subst h
      by_cases hl : e ∈ l <;> simp [State.emptyQueue, State.role, hl]
    · have hs : (s.emptyQueue a).endpoint e = s.endpoint e := by simp [State.emptyQueue, h]
      by_cases hl : e ∈ l <;> simp [h, hl, hs, State.role]

/-- The endpoints after a bulk discard: the queues named are empty, nothing else has changed. -/
theorem bulkDiscard_endpoint (s : State) (l : List EpId) (e : EpId) :
    (s.bulkDiscard l).endpoint e =
      if e ∈ l then { s.endpoint e with role := (s.role e).withQueue [] } else s.endpoint e := by
  unfold State.bulkDiscard
  simp only []
  rw [endpoint_congr (foldl_endpoints _ (fun _ _ => claim_endpoints ..) _ _)]
  exact endpoint_foldl_emptyQueue e l s

end Sys2Proof.Machine
end

