-- ==== Sys2Proof/Laws/Conditions.lean ====
section
/-! SUPPORT. What a setting of a condition does, and that the operations which set conditions keep those
already set. -/

namespace Sys2Proof.Machine

theorem online_modPort (s : State) (p q : Port) (f : PortRec → PortRec) (h : (f (s.port p)).state = (s.port p).state) :
    (s.modPort p f).online q = s.online q := by
  by_cases e : q = p
  · subst e; simp [State.online, h]
  · simp [State.online, e]

/-- Conditions do not depend on the rest of the state. -/
theorem hasCond_of_ports {s t : State} (h : t.ports = s.ports) {p : Port} {it : Item} {c : Cond}
    (hc : s.HasCond p it c) : t.HasCond p it c := by
  unfold State.HasCond at *
  rw [port_congr h]; exact hc

/-- A change of a port that leaves its attention leaves its conditions. -/
theorem hasCond_modPort {s : State} {q : Port} {f : PortRec → PortRec}
    (h : (f (s.port q)).attention = (s.port q).attention) {p : Port} {it : Item} {c : Cond} (hc : s.HasCond p it c) :
    (s.modPort q f).HasCond p it c := by
  unfold State.HasCond at *
  by_cases e : p = q
  · subst e; rw [port_modPort_self, h]; exact hc
  · rw [port_modPort_ne _ _ e]; exact hc

theorem only_ne_zero (c : Cond) : c.only ≠ 0#16 := by
  cases c <;> decide

theorem and_or_only_ne (x : CondSet) (c : Cond) : (x ||| c.only) &&& c.only ≠ 0#16 := by
  intro h
  have : c.only = 0#16 := by
    rw [← h]; ext i hi; simp; tauto
  exact only_ne_zero c this

theorem and_or_ne {x y z : CondSet} (h : x &&& z ≠ 0#16) : (x ||| y) &&& z ≠ 0#16 := by
  intro e
  apply h
  ext i hi
  have := congrArg (fun v => v[i]) e
  simp at this ⊢
  tauto

/-- A setting sets its condition, at an ONLINE port. -/
theorem hasCond_setCond_self (s : State) {p : Port} (it : Item) (c : Cond) (h : s.online p = true) :
    (s.setCond p it c).HasCond p it c := by
  unfold State.HasCond State.setCond
  rw [if_pos h, port_modPort_self]
  simp only [Attention.add]
  simpa using and_or_only_ne _ c

/-- A setting keeps what is set. -/
theorem hasCond_setCond (s : State) (q : Port) (jt : Item) (d : Cond) {p : Port} {it : Item} {c : Cond}
    (hc : s.HasCond p it c) : (s.setCond q jt d).HasCond p it c := by
  unfold State.setCond
  split
  · unfold State.HasCond at *
    by_cases e : p = q
    · subst e
      rw [port_modPort_self]
      simp only [Attention.add]
      by_cases ei : it = jt
      · subst ei
        simpa using and_or_ne (by simpa using hc)
      · have : jt.val ≠ it.val := fun x => ei (Fin.ext x.symm)
        simpa [this] using hc
    · rw [port_modPort_ne _ _ e]; exact hc
  · exact hc

theorem hasCond_setEndpointCond_self (s : State) (e : EpId) (c : Cond) (h : s.online (portOf e) = true) :
    (s.setEndpointCond e c).HasCond (portOf e) (itemOf (localOf e)) c :=
  hasCond_setCond_self s _ c h

theorem hasCond_setEndpointCond (s : State) (e : EpId) (d : Cond) {p : Port} {it : Item} {c : Cond}
    (hc : s.HasCond p it c) : (s.setEndpointCond e d).HasCond p it c :=
  hasCond_setCond s _ _ d hc

theorem hasCond_setPortCond_self (s : State) {p : Port} (c : Cond) (h : s.online p = true) :
    (s.setPortCond p c).HasCond p portItem c :=
  hasCond_setCond_self s _ c h

theorem hasCond_setPortCond (s : State) (q : Port) (d : Cond) {p : Port} {it : Item} {c : Cond}
    (hc : s.HasCond p it c) : (s.setPortCond q d).HasCond p it c :=
  hasCond_setCond s _ _ d hc

theorem hasCond_setResult (s : State) (q : Port) (code : ResultCode) (v : Word) {p : Port} {it : Item} {c : Cond}
    (hc : s.HasCond p it c) : (s.setResult q code v).HasCond p it c :=
  hasCond_modPort rfl hc

theorem hasCond_handOff (s : State) (q : Port) (rc : Receipt) {p : Port} {it : Item} {c : Cond}
    (hc : s.HasCond p it c) : (s.handOff q rc).HasCond p it c := by
  unfold State.handOff
  split
  · refine hasCond_setPortCond _ _ _ (hasCond_modPort rfl hc)
  · exact hasCond_modPort rfl hc

theorem hasCond_release (s : State) (r : RecId) (m : Message) (cs : Cause) {p : Port} {it : Item} {c : Cond}
    (hc : s.HasCond p it c) : (s.release r m cs).HasCond p it c := by
  have h1 : ∀ (l : List BlockId) (f : BlockId → BlockPlace) (s : State), s.HasCond p it c →
      (l.foldl (fun t b => t.placeBlock b (f b)) s).HasCond p it c := by
    intro l f s h
    exact hasCond_of_ports (by rw [foldl_ports]; intros; rfl) h
  unfold State.release
  simp only []
  refine hasCond_of_ports (setRecord_ports ..) ?_
  split
  · exact hasCond_handOff _ _ _ (hasCond_modPort rfl (h1 _ _ _ hc))
  · exact hasCond_modPort rfl (h1 _ _ _ hc)

theorem hasCond_claim (s : State) (r : RecId) (n : Nat) (k : Option TallyKind) (cs : Cause) {p : Port} {it : Item}
    {c : Cond} (hc : s.HasCond p it c) : (s.claim r n k cs).HasCond p it c := by
  unfold State.claim
  split
  · exact hc
  · simp only []
    split
    · exact hasCond_release _ _ _ _ hc
    · exact hasCond_of_ports (modMessage_ports ..) hc

theorem hasCond_foldl {α : Type} (f : State → α → State) {p : Port} {it : Item} {c : Cond}
    (h : ∀ s a, s.HasCond p it c → (f s a).HasCond p it c) :
    ∀ (l : List α) (s : State), s.HasCond p it c → (l.foldl f s).HasCond p it c
  | [], _, hc => hc
  | a :: l, s, hc => hasCond_foldl f h l _ (h s a hc)

theorem hasCond_bulkDiscard (s : State) (l : List EpId) {p : Port} {it : Item} {c : Cond} (hc : s.HasCond p it c) :
    (s.bulkDiscard l).HasCond p it c := by
  unfold State.bulkDiscard
  simp only []
  refine hasCond_foldl _ (fun s a h => hasCond_claim _ _ _ _ _ h) _ _ ?_
  exact hasCond_foldl _ (fun s a h => hasCond_of_ports (emptyQueue_ports ..) h) _ _ hc

theorem hasCond_closeAt (s : State) (e : EpId) (o : CloseOutcome) (n : Nat) {p : Port} {it : Item} {c : Cond}
    (hc : s.HasCond p it c) : (s.closeAt e o n).HasCond p it c := by
  unfold State.closeAt
  split
  · exact hasCond_setEndpointCond _ _ _ (hasCond_of_ports (modEndpoint_ports ..) hc)
  · exact hc

theorem hasCond_drainTest (s : State) (k : ChanId) {p : Port} {it : Item} {c : Cond} (hc : s.HasCond p it c) :
    (s.drainTest k).HasCond p it c := by
  unfold State.drainTest
  split
  · split
    · exact hasCond_closeAt _ _ _ _ (hasCond_closeAt _ _ _ _ hc)
    · exact hc
  all_goals exact hc

theorem hasCond_endMessageTransfer (s : State) (k : ChanId) (d : Dirn) (b : Bool) {p : Port} {it : Item} {c : Cond}
    (hc : s.HasCond p it c) : (s.endMessageTransfer k d b).HasCond p it c := by
  unfold State.endMessageTransfer
  refine hasCond_drainTest _ _ ?_
  split <;> exact hc

/-- The channel after the end of a message's transfer, while it is OPEN. -/
theorem endMessageTransfer_opened (s : State) (c : ChanId) (d : Dirn) (b : Bool) {l : LiveChannel}
    (h : s.channel c = .opened l) :
    (s.endMessageTransfer c d b).channel c =
      .opened
        { l.modDirection d Direction.refund with transfers := if b then l.transfers - 1 else l.transfers } := by
  have hr : (s.returnCredit c d).channel c = .opened (l.modDirection d Direction.refund) := by
    simp [State.returnCredit, State.modLive, h, Channel.mapLive]
  have ht : (l.modDirection d Direction.refund).transfers = l.transfers := by cases d <;> rfl
  cases b with
  | false =>
    simp only [State.endMessageTransfer]
    unfold State.drainTest
    simp [hr, ← ht]
  | true =>
    have he : ((s.returnCredit c d).endTransfer c).channel c =
        .opened { l.modDirection d Direction.refund with transfers := l.transfers - 1 } := by
      simp [State.endTransfer, hr, Channel.endTransfer, ht]
    simp only [State.endMessageTransfer]
    unfold State.drainTest
    simp [he]

/-- The channel after the end of a counted transfer, while it is ABORTING. -/
theorem endMessageTransfer_aborting (s : State) (c : ChanId) (d : Dirn) {a b : EpId} {cl : Closers} {k : Nat}
    (h : s.channel c = .aborting a b cl k) :
    (s.endMessageTransfer c d true).channel c = if k ≤ 1 then .free else .aborting a b cl (k - 1) := by
  have hr : (s.returnCredit c d).channel c = .aborting a b cl k := by
    simp [State.returnCredit, State.modLive, h, Channel.mapLive]
  have he : ((s.returnCredit c d).endTransfer c).channel c = if k ≤ 1 then .free else .aborting a b cl (k - 1) := by
    simp [State.endTransfer, hr, Channel.endTransfer]
  simp only [State.endMessageTransfer]
  unfold State.drainTest
  by_cases hk : k ≤ 1 <;> simp_all

theorem drainTest_channel_ne (s : State) {c k : ChanId} (h : k ≠ c) : (s.drainTest c).channel k = s.channel k := by
  unfold State.drainTest
  split
  · split
    · simp only [State.channel, closeAt_channels, setRole_channels]
      exact channel_setChannel_ne _ _ h
    · rfl
  all_goals rfl

/-- The end of a message's transfer concerns its own channel. -/
theorem endMessageTransfer_channel_ne (s : State) {c k : ChanId} (d : Dirn) (b : Bool) (h : k ≠ c) :
    (s.endMessageTransfer c d b).channel k = s.channel k := by
  unfold State.endMessageTransfer
  rw [drainTest_channel_ne _ h]
  cases b <;> simp [State.endTransfer, State.returnCredit, State.modLive, h]

end Sys2Proof.Machine
end

