-- ==== Sys2Proof/Laws/Endings.lean ====
section
/-! SUPPORT. How a message of a channel ends: what the Channel Controller's part does to the channel and its ends, in
the words of `State.MessageEnded`, and how that is carried over to the states before and after it. -/

namespace Sys2Proof.Machine

theorem Role.withQueue_self (r : Role) : r.withQueue r.queue = r := by
  cases r <;> rfl

theorem endpoint_withQueue_self (s : State) (e : EpId) :
    { s.endpoint e with role := (s.role e).withQueue (s.role e).queue } = s.endpoint e := by
  rw [Role.withQueue_self]
  rfl

/-- The end of a message concerns the state before through its channels, endpoints and ports in service, and the state
after through its channels, endpoints and conditions. -/
theorem State.MessageEnded.transport {s s' t t' : State} {c : ChanId} {d : Dirn} {counted : Bool}
    {queues : EpId → List RecId} (h : s.MessageEnded t c d counted queues) (hc : s'.channels = s.channels)
    (he : s'.endpoints = s.endpoints) (ho : ∀ p, s'.online p = s.online p) (hc' : t'.channels = t.channels)
    (he' : t'.endpoints = t.endpoints) (hh : ∀ p it k, t.HasCond p it k → t'.HasCond p it k) :
    s'.MessageEnded t' c d counted queues := by
  have e1 : s'.channel = s.channel := by funext k; simp [State.channel, hc]
  have e2 : s'.endpoint = s.endpoint := by funext k; simp [State.endpoint, he]
  have e3 : t'.channel = t.channel := by funext k; simp [State.channel, hc']
  have e4 : t'.endpoint = t.endpoint := by funext k; simp [State.endpoint, he']
  have e5 : ∀ l, s'.Drained l queues ↔ s.Drained l queues := fun l => by simp only [State.Drained, ho]
  have e6 : s'.role = s.role := by funext k; simp only [State.role, e2]
  obtain ⟨h1, h2, h3, h4, h5⟩ := h
  unfold State.MessageEnded
  rw [e1, e2, e3, e4, e6]
  refine ⟨h1, fun l cl dl hl => ⟨fun hd => (h2 l cl dl hl).1 (mt (e5 _).2 hd), fun hd => ?_⟩, h3, h4,
    fun e hq => h5 e fun l cl dl hl hd => hq l cl dl hl ((e5 _).2 hd)⟩
  have h6 := (h2 l cl dl hl).2 ((e5 _).1 hd)
  exact ⟨h6.1, fun e hm => ⟨(h6.2 e hm).1, hh _ _ _ (h6.2 e hm).2⟩⟩

/-- The same from a state s whose queues lost some entries before. -/
theorem State.MessageEnded.before {s s' t : State} {c : ChanId} {d : Dirn} {counted : Bool}
    {queues : EpId → List RecId} (h : s'.MessageEnded t c d counted fun e => (s'.role e).queue)
    (hc : s'.channels = s.channels) (ho : ∀ p, s'.online p = s.online p)
    (he : ∀ e, s'.endpoint e = { s.endpoint e with role := (s.role e).withQueue (queues e) })
    (hq : ∀ e, (s'.role e).queue = queues e) : s.MessageEnded t c d counted queues := by
  have e1 : s'.channel = s.channel := by funext k; simp [State.channel, hc]
  have e2 : (fun e => (s'.role e).queue) = queues := funext hq
  have e5 : ∀ l, s'.Drained l queues ↔ s.Drained l queues := fun l => by simp only [State.Drained, ho]
  rw [e2] at h
  obtain ⟨h1, h2, h3, h4, h5⟩ := h
  rw [e1] at h1 h2 h3 h4 h5
  refine ⟨h1, fun l cl dl hl => ⟨fun hd => (h2 l cl dl hl).1 (mt (e5 _).1 hd), fun hd => ?_⟩, h3, h4, fun e hn => ?_⟩
  · have h6 := (h2 l cl dl hl).2 ((e5 _).2 hd)
    refine ⟨h6.1, fun e hm => ⟨?_, (h6.2 e hm).2⟩⟩
    rw [(h6.2 e hm).1, he]
  · rw [h5 e fun l cl dl hl hd => hn l cl dl hl ((e5 _).1 hd), ← hq e, endpoint_withQueue_self, he e, hq e]

/-- A claim of the last holders releases the record. -/
theorem claim_released (s : State) {r : RecId} {n : Nat} {t : Option TallyKind} {c : Cause} {m : Message}
    (h : (s.record r).message? = some m) (hn : m.count ≤ n) : s.Released (s.claim r n t c) r m := by
  have e : s.claim r n t c = s.release r (m.afterClaim n t) c := by
    have h0 : (m.afterClaim n t).count = 0 := by simp [Message.afterClaim]; omega
    unfold State.claim
    rw [h]
    exact if_pos h0
  refine ⟨claim_record_released s h hn, fun k hk => claim_record_ne s _ _ _ hk, fun b hb => ?_, fun b hb => ?_⟩
  · rw [e, release_places]
    exact if_pos hb
  · rw [e, release_places]
    exact if_neg hb

/-- What the close outcome writes, at an end whose port is ONLINE. -/
theorem closeAt_endpoint (s : State) {e : EpId} (o : CloseOutcome) (n : Nat) (h : s.online (portOf e) = true) (k : EpId) :
    (s.closeAt e o n).endpoint k =
      if k = e then { s.endpoint e with closeOutcome := o, discarded := n } else s.endpoint k := by
  unfold State.closeAt
  rw [if_pos h]
  show (State.setEndpointCond _ _ _).endpoint k = _
  rw [show (State.setEndpointCond (s.modEndpoint e fun x => { x with closeOutcome := o, discarded := n }) e
      .closed).endpoint k = (s.modEndpoint e fun x => { x with closeOutcome := o, discarded := n }).endpoint k by
    simp [State.endpoint]]
  exact endpoint_modEndpoint ..

theorem closeAt_hasCond (s : State) {e : EpId} (o : CloseOutcome) (n : Nat) (h : s.online (portOf e) = true) :
    (s.closeAt e o n).HasCond (portOf e) (itemOf (localOf e)) .closed := by
  unfold State.closeAt
  rw [if_pos h]
  exact hasCond_setEndpointCond_self _ _ _ h

/-- The drain completion test does nothing while something of the channel remains. -/
theorem drainTest_remains {s : State} {c : ChanId} {l : LiveChannel} {cl : Closers} {dl : Option Time}
    (h : s.channel c = .draining l cl dl) (hd : ¬s.Drained l fun e => (s.role e).queue) : s.drainTest c = s := by
  unfold State.drainTest
  rw [h]
  exact if_neg hd

/-- The drain completion test on a channel of which nothing remains. -/
theorem drainTest_completes {s : State} {c : ChanId} {l : LiveChannel} {cl : Closers} {dl : Option Time}
    (h : s.channel c = .draining l cl dl) (hd : s.Drained l fun e => (s.role e).queue) :
    (s.drainTest c).channel c = .free ∧
    (∀ e ∈ [l.caller, l.callee],
      (s.drainTest c).endpoint e = { s.endpoint e with role := .idle, closeOutcome := .complete, discarded := 0 } ∧
        (s.drainTest c).HasCond (portOf e) (itemOf (localOf e)) .closed) ∧
    ∀ e, e ∉ [l.caller, l.callee] → (s.drainTest c).endpoint e = s.endpoint e := by
  let s1 := ((s.setChannel c .free).setRole l.caller .idle).setRole l.callee .idle
  have e0 : s.drainTest c = (s1.closeAt l.caller .complete 0).closeAt l.callee .complete 0 := by
    unfold State.drainTest
    rw [h]
    exact if_pos hd
  have h1 : s1.online (portOf l.caller) = true := hd.1
  have h2 : (s1.closeAt l.caller .complete 0).online (portOf l.callee) = true := by
    rw [online_of_cores (closeAt_cores s1 l.caller .complete 0)]
    exact hd.2.1
  have h3 : ∀ k, s1.endpoint k =
      if k = l.callee ∨ k = l.caller then { s.endpoint k with role := .idle } else s.endpoint k := by
    intro k
    simp only [s1, State.setRole, endpoint_modEndpoint]
    by_cases ha : k = l.callee <;> by_cases hb : k = l.caller <;> simp_all [State.endpoint, State.setChannel]
  rw [e0]
  refine ⟨?_, fun e he => ⟨?_, ?_⟩, fun e he => ?_⟩
  · simp [State.channel, s1, State.setRole, State.modEndpoint, State.setChannel]
  · rw [closeAt_endpoint _ _ _ h2, closeAt_endpoint _ _ _ h1, closeAt_endpoint _ _ _ h1, h3, h3, h3]
    simp only [List.mem_cons, List.not_mem_nil, or_false] at he
    by_cases ha : e = l.callee <;> by_cases hb : e = l.caller <;> simp_all
  · simp only [List.mem_cons, List.not_mem_nil, or_false] at he
    by_cases ha : e = l.callee
    · subst ha
      exact closeAt_hasCond _ _ _ h2
    · have hb : e = l.caller := by tauto
      subst hb
      exact hasCond_closeAt _ _ _ _ (closeAt_hasCond _ _ _ h1)
  · simp only [List.mem_cons, List.not_mem_nil, or_false, not_or] at he
    rw [closeAt_endpoint _ _ _ h2, if_neg he.2, closeAt_endpoint _ _ _ h1, if_neg he.1, h3, if_neg (by tauto)]

/-- The channel of a message just before the drain completion test. -/
def Channel.withoutOne (d : Dirn) (counted : Bool) : Channel → Channel
  | .opened l => .opened (l.ended d counted)
  | .draining l cl dl => .draining (l.ended d counted) cl dl
  | .free => .free
  | .requested a b o dl => .requested a b o dl
  | .aborting a b cl k => if counted = false then .aborting a b cl k else if k ≤ 1 then .free else .aborting a b cl (k - 1)

theorem Channel.withoutOne_eq (x : Channel) (d : Dirn) (counted : Bool) :
    x.withoutOne d counted =
      (let y := x.mapLive fun l => l.modDirection d Direction.refund
       if counted then y.endTransfer else y) := by
  cases x <;> cases d <;> cases counted <;> rfl

theorem setChannel_setChannel (s : State) (c : ChanId) (x y : Channel) :
    (s.setChannel c x).setChannel c y = s.setChannel c y := by
  simp [State.setChannel]

theorem endMessageTransfer_eq (s : State) (c : ChanId) (d : Dirn) (counted : Bool) :
    s.endMessageTransfer c d counted = (s.setChannel c ((s.channel c).withoutOne d counted)).drainTest c := by
  rw [Channel.withoutOne_eq]
  unfold State.endMessageTransfer State.returnCredit State.modLive State.endTransfer
  cases counted
  · rfl
  · simp only [channel_setChannel_self, setChannel_setChannel, if_true]

/-- The Channel Controller's part of the end of a message, all of it. -/
theorem endMessageTransfer_ended (s : State) (c : ChanId) (d : Dirn) (counted : Bool) :
    s.MessageEnded (s.endMessageTransfer c d counted) c d counted fun e => (s.role e).queue := by
  rw [endMessageTransfer_eq]
  let s1 := s.setChannel c ((s.channel c).withoutOne d counted)
  have e1 : s1.channel c = (s.channel c).withoutOne d counted := channel_setChannel_self ..
  have stays : (∀ l cl dl, s1.channel c ≠ .draining l cl dl) → s1.drainTest c = s1 := by
    intro h
    unfold State.drainTest
    split
    · next l cl dl hc => exact absurd hc (h l cl dl)
    all_goals rfl
  refine ⟨fun l h => ?_, fun l cl dl h => ?_, fun a b cl k h => ?_, fun x hx => ?_, fun e he => ?_⟩
  · rw [h] at e1
    rw [stays (by intro _ _ _; rw [e1]; simp [Channel.withoutOne])]
    exact e1
  · rw [h] at e1
    refine ⟨fun hd => ?_, fun hd => ?_⟩
    · rw [drainTest_remains e1 hd]
      exact e1
    · have h1 := drainTest_completes e1 hd
      have e2 : (l.ended d counted).caller = l.caller ∧ (l.ended d counted).callee = l.callee := by
        cases d <;> exact ⟨rfl, rfl⟩
      rw [e2.1, e2.2] at h1
      exact ⟨h1.1, h1.2.1⟩
  · rw [h] at e1
    rw [stays (by intro _ _ _; rw [e1]; simp only [Channel.withoutOne]; split_ifs <;> simp)]
    exact e1
  · rw [drainTest_channel_ne _ hx]
    exact channel_setChannel_ne _ _ hx
  · rw [endpoint_withQueue_self]
    show (s1.drainTest c).endpoint e = s1.endpoint e
    cases hc : s.channel c with
    | draining l cl dl =>
      rw [hc] at e1
      by_cases hd : s1.Drained (l.ended d counted) fun e => (s1.role e).queue
      · refine (drainTest_completes e1 hd).2.2 e ?_
        have h1 := he l cl dl hc hd
        cases d <;> exact h1
      · rw [drainTest_remains e1 hd]
    | free => rw [stays (by intro _ _ _; rw [e1, hc]; simp [Channel.withoutOne])]
    | requested a b o dl => rw [stays (by intro _ _ _; rw [e1, hc]; simp [Channel.withoutOne])]
    | opened l => rw [stays (by intro _ _ _; rw [e1, hc]; simp [Channel.withoutOne])]
    | aborting a b cl k =>
      rw [stays (by intro _ _ _; rw [e1, hc]; simp only [Channel.withoutOne]; split_ifs <;> simp)]

end Sys2Proof.Machine
end

