-- ==== Sys2Proof/Laws/Guards.lean ====
section
/-! SUPPORT. What each guard of a command tests, in terms of the state. -/

namespace Sys2Proof.Machine

@[simp] theorem Role.isIdle_eq_false_iff (r : Role) : r.isIdle = false ↔ r ≠ .idle := by
  cases r <;> simp [Role.isIdle]

@[simp] theorem Role.isIdle_iff (r : Role) : r.isIdle = true ↔ r = .idle := by
  cases r <;> simp [Role.isIdle]

@[simp] theorem Role.listening?_eq_none_iff (r : Role) : r.listening? = none ↔ ∀ f, r ≠ .listening f := by
  cases r <;> simp [Role.listening?]

@[simp] theorem Role.published?_eq_none_iff (r : Role) : r.published? = none ↔ ∀ g, r ≠ .publisher g := by
  cases r <;> simp [Role.published?]

@[simp] theorem Role.isClosing_iff (r : Role) : r.isClosing = true ↔ ∃ c x q d, r = .closing c x q d := by
  cases r <;> simp [Role.isClosing]

@[simp] theorem Role.isConnected_eq_false_iff (r : Role) :
    r.isConnected = false ↔ ∀ c x q d, r ≠ .connected c x q d := by
  cases r <;> simp [Role.isConnected]

@[simp] theorem Role.canFetch_eq_false_iff (r : Role) :
    r.canFetch = false ↔
      (∀ c x q d, r ≠ .connected c x q d) ∧ (∀ c x q d, r ≠ .closing c x q d) ∧ ∀ g q d, r ≠ .member g q d := by
  cases r <;> simp [Role.canFetch]

@[simp] theorem Channel.isFree_iff (x : Channel) : x.isFree = true ↔ x = .free := by
  cases x <;> simp [Channel.isFree]

@[simp] theorem Channel.isFree_eq_false_iff (x : Channel) : x.isFree = false ↔ x ≠ .free := by
  cases x <;> simp [Channel.isFree]

@[simp] theorem Group.isFree_iff (x : Group) : x.isFree = true ↔ x = .free := by
  cases x <;> simp [Group.isFree]

@[simp] theorem Group.isFree_eq_false_iff (x : Group) : x.isFree = false ↔ x ≠ .free := by
  cases x <;> simp [Group.isFree]

@[simp] theorem MsgRecord.isFree_iff (x : MsgRecord) : x.isFree = true ↔ x = .free := by
  cases x <;> simp [MsgRecord.isFree]

@[simp] theorem MsgRecord.isFree_eq_false_iff (x : MsgRecord) : x.isFree = false ↔ x ≠ .free := by
  cases x <;> simp [MsgRecord.isFree]

/-- No channel is FREE exactly when the search for one finds none. -/
theorem State.freeChannel?_eq_none_iff (s : State) : s.freeChannel? = none ↔ ∀ c, s.channel c ≠ .free := by
  simp [State.freeChannel?]

theorem State.freeGroup?_eq_none_iff (s : State) : s.freeGroup? = none ↔ ∀ g, s.group g ≠ .free := by
  simp [State.freeGroup?]

theorem State.freeRecord?_eq_none_iff (s : State) : s.freeRecord? = none ↔ ∀ r, s.record r ≠ .free := by
  simp [State.freeRecord?]

/-- A search over all numbers finds the lowest that passes. -/
theorem find?_finRange_eq_some {n : Nat} (P : Fin n → Bool) (i : Fin n) (h : (List.finRange n).find? P = some i) :
    P i = true ∧ ∀ j < i, P j = false := by
  rw [List.find?_eq_some_iff_getElem] at h
  obtain ⟨hi, k, hk, he, hlt⟩ := h
  refine ⟨hi, fun j hj => ?_⟩
  simp only [List.getElem_finRange] at he
  subst he
  have := hlt j.val (by simpa [Fin.lt_def] using hj)
  simpa using this

theorem State.freeChannel?_eq_some (s : State) (c : ChanId) (h : s.freeChannel? = some c) :
    s.channel c = .free ∧ ∀ c' < c, s.channel c' ≠ .free := by
  obtain ⟨h1, h2⟩ := find?_finRange_eq_some _ _ h
  exact ⟨(Channel.isFree_iff _).1 h1, fun j hj => (Channel.isFree_eq_false_iff _).1 (h2 j hj)⟩

theorem State.freeGroup?_eq_some (s : State) (g : GroupId) (h : s.freeGroup? = some g) :
    s.group g = .free ∧ ∀ g' < g, s.group g' ≠ .free := by
  obtain ⟨h1, h2⟩ := find?_finRange_eq_some _ _ h
  exact ⟨(Group.isFree_iff _).1 h1, fun j hj => (Group.isFree_eq_false_iff _).1 (h2 j hj)⟩

theorem State.freeRecord?_eq_some (s : State) (r : RecId) (h : s.freeRecord? = some r) :
    s.record r = .free ∧ ∀ r' < r, s.record r' ≠ .free := by
  obtain ⟨h1, h2⟩ := find?_finRange_eq_some _ _ h
  exact ⟨(MsgRecord.isFree_iff _).1 h1, fun j hj => (MsgRecord.isFree_eq_false_iff _).1 (h2 j hj)⟩

/-- The blocks an allocation takes are distinct free ones, as many as asked for when there are enough. -/
theorem State.take_freeBlocks (s : State) (n : Nat) (h : n ≤ s.freeBlocks.length) :
    (s.freeBlocks.take n).length = n ∧ (s.freeBlocks.take n).Nodup ∧
      ∀ b ∈ s.freeBlocks.take n, s.blockPlaces[b] = .free := by
  refine ⟨by simp [h], ?_, ?_⟩
  · exact ((List.nodup_finRange 128).filter _).sublist (List.take_sublist _ _)
  · intro b hb
    have := List.mem_of_mem_take hb
    simpa [State.freeBlocks] using this

theorem filteredOut_iff (r : Role) (p : Port) : filteredOut r p = true ↔ ∃ q, r = .listening (.port q) ∧ q ≠ p := by
  cases r <;> simp [filteredOut, Role.listening?]
  rename_i f
  cases f <;> simp [Filter.admits]

theorem State.noLiveRequest_iff (s : State) (e : EpId) :
    s.noLiveRequest e = true ↔ ∀ c a f o, s.role e = .offered c a f o → s.online (portOf a) = false := by
  unfold State.noLiveRequest
  cases h : s.role e <;> simp [Role.offered?]
  constructor
  · intro hh c a f o h1 h2 h3 h4
    subst h2
    exact hh
  · intro hh
    exact hh _ _ _ _ rfl rfl rfl rfl

theorem State.outOfReach_iff (s : State) (p : Port) :
    s.outOfReach p = true ↔ (s.port p).state = .disabled ∨ (s.port p).state.isResetting = true := by
  unfold State.outOfReach
  cases (s.port p).state <;> simp [PortState.hidesWindow, PortState.isResetting]

end Sys2Proof.Machine
end

