-- ==== Sys2Proof/Laws/Memory.lean ====
section
/-! SUPPORT. The message memory: every write keeps the canonical form, and what a read gives after it. -/

namespace Sys2Proof.Machine

/-- The canonical form, as a proposition over the list. -/
theorem memory_wf_iff (m : List Host.Cell) :
    Memory.wf m = true ↔ m.Pairwise (fun x y => x.1 < y.1) ∧ ∀ c ∈ m, c.2 ≠ 0#8 ∧ c.1 < 4096 := by
  simp [Memory.wf, List.all_eq_true]

theorem memory_wf_nil : Memory.wf [] = true := by
  simp [memory_wf_iff]

/-- The memory at reset is in canonical form. -/
theorem memory_wf_reset : Memory.wf State.reset.memory = true :=
  memory_wf_nil

/-- The cells a write of one byte can leave. -/
theorem mem_writeByte {m : List Host.Cell} {a : Nat} {v : Byte} {c : Host.Cell}
    (h : c ∈ Memory.writeByte m a v) : c ∈ m ∨ c = (a, v) ∧ v ≠ 0#8 := by
  induction m with
  | nil =>
    by_cases hv : v = 0#8 <;> simp_all [Memory.writeByte]
  | cons x rest ih =>
    obtain ⟨b, u⟩ := x
    unfold Memory.writeByte at h
    split at h
    · split at h <;> simp_all
      tauto
    · split at h
      · split at h <;> simp_all
        tauto
      · simp only [List.mem_cons] at h ⊢
        rcases h with h | h
        · exact Or.inl (Or.inl h)
        · rcases ih h with h | h
          · exact Or.inl (Or.inr h)
          · exact Or.inr h

/-- A write of one byte keeps the canonical form. -/
theorem memory_wf_writeByte {m : List Host.Cell} {a : Nat} {v : Byte} (hm : Memory.wf m = true) (ha : a < 4096) :
    Memory.wf (Memory.writeByte m a v) = true := by
  rw [memory_wf_iff] at hm ⊢
  obtain ⟨hs, hc⟩ := hm
  refine ⟨?_, fun c h => ?_⟩
  · clear hc
    induction m with
    | nil => by_cases hv : v = 0#8 <;> simp [Memory.writeByte, hv]
    | cons x rest ih =>
      obtain ⟨b, u⟩ := x
      rw [List.pairwise_cons] at hs
      unfold Memory.writeByte
      split
      · split
        · exact List.pairwise_cons.2 hs
        · refine List.pairwise_cons.2 ⟨fun y hy => ?_, List.pairwise_cons.2 hs⟩
          rcases List.mem_cons.1 hy with rfl | hy
          · assumption
          · exact Nat.lt_trans ‹_› (hs.1 y hy)
      · split
        · split
          · exact hs.2
          · subst_vars
            exact List.pairwise_cons.2 hs
        · refine List.pairwise_cons.2 ⟨fun y hy => ?_, ih hs.2⟩
          rcases mem_writeByte hy with hy | ⟨rfl, _⟩
          · exact hs.1 y hy
          · have h1 : ¬a < b := ‹_›
            have h2 : ¬a = b := ‹_›
            show b < a
            omega
  · rcases mem_writeByte h with h | ⟨rfl, hv⟩
    · exact hc c h
    · exact ⟨hv, ha⟩

theorem read_of_all_gt {m : List Host.Cell} {a : Nat} (h : ∀ c ∈ m, a < c.1) : Memory.readByte m a = 0#8 := by
  induction m with
  | nil => rfl
  | cons x rest ih =>
    obtain ⟨b, u⟩ := x
    have hb : a < b := h (b, u) (by simp)
    unfold Memory.readByte
    rw [if_neg (by omega)]
    exact ih fun c hc => h c (by simp [hc])

/-- A read after a write of one byte. -/
theorem read_writeByte {m : List Host.Cell} {a : Nat} {v : Byte} (hm : Memory.wf m = true) (k : Nat) :
    Memory.readByte (Memory.writeByte m a v) k = if k = a then v else Memory.readByte m k := by
  rw [memory_wf_iff] at hm
  obtain ⟨hs, -⟩ := hm
  induction m with
  | nil =>
    by_cases hv : v = 0#8
    · simp [Memory.writeByte, hv, Memory.readByte]
    · by_cases hk : k = a
      · simp [Memory.writeByte, hv, Memory.readByte, hk]
      · have : a ≠ k := fun e => hk e.symm
        simp [Memory.writeByte, hv, Memory.readByte, hk, this]
  | cons x rest ih =>
    obtain ⟨b, u⟩ := x
    rw [List.pairwise_cons] at hs
    have hrest : ∀ k, k ≤ b → Memory.readByte rest k = 0#8 := fun k hk =>
      read_of_all_gt fun c hc => Nat.lt_of_le_of_lt hk (hs.1 c hc)
    unfold Memory.writeByte
    split
    · have hab : a < b := ‹_›
      split
      · by_cases hk : k = a
        · subst hk
          have h0 : ¬b = k := by omega
          simp [Memory.readByte, hrest k (by omega), *]
        · simp [hk]
      · by_cases hk : k = a
        · subst hk; simp [Memory.readByte]
        · have h0 : ¬a = k := fun e => hk e.symm
          rw [if_neg hk]
          conv_lhs => unfold Memory.readByte
          rw [if_neg h0]
    · split
      · have hab : a = b := ‹_›
        subst hab
        by_cases hk : k = a
        · subst hk
          split
          · rw [hrest k (by omega)]; simp [*]
          · simp [Memory.readByte]
        · have h0 : ¬a = k := fun e => hk e.symm
          split <;> simp [Memory.readByte, h0]
      · unfold Memory.readByte
        by_cases hbk : b = k
        · subst hbk
          have h0 : ¬b = a := fun e => by simp_all
          simp [h0]
        · rw [if_neg hbk, if_neg hbk]
          exact ih hs.2

/-- Writing bytes keeps the canonical form. -/
theorem memory_wf_writeBytes (l : List Byte) :
    ∀ {m : List Host.Cell} {a : Nat}, Memory.wf m = true → a + l.length ≤ 4096 →
      Memory.wf (Memory.writeBytes m a l) = true := by
  induction l with
  | nil => intro m a hm _; exact hm
  | cons v vs ih =>
    intro m a hm ha
    rw [List.length_cons] at ha
    exact ih (memory_wf_writeByte hm (by omega)) (by omega)

/-- A read after a write of bytes. -/
theorem read_writeBytes (l : List Byte) :
    ∀ {m : List Host.Cell} {a : Nat}, Memory.wf m = true → a + l.length ≤ 4096 → ∀ k : Nat,
      Memory.readByte (Memory.writeBytes m a l) k =
        if a ≤ k ∧ k < a + l.length then l.getD (k - a) 0#8 else Memory.readByte m k := by
  induction l with
  | nil =>
    intro m a hm _ k
    have : ¬(a ≤ k ∧ k < a + ([] : List Byte).length) := by simp
    rw [if_neg this]; rfl
  | cons v vs ih =>
    intro m a hm ha k
    rw [List.length_cons] at ha
    have hw : Memory.wf (Memory.writeByte m a v) = true := memory_wf_writeByte hm (by omega)
    show Memory.readByte (Memory.writeBytes (Memory.writeByte m a v) (a + 1) vs) k = _
    rw [ih hw (by omega) k, read_writeByte hm]
    by_cases hk : k = a
    · subst hk
      have h1 : ¬(k + 1 ≤ k ∧ k < k + 1 + vs.length) := by omega
      have h2 : k ≤ k ∧ k < k + (v :: vs).length := by simp
      rw [if_neg h1, if_pos rfl, if_pos h2]
      simp
    · by_cases hi : a + 1 ≤ k ∧ k < a + 1 + vs.length
      · have h2 : a ≤ k ∧ k < a + (v :: vs).length := by simp only [List.length_cons]; omega
        rw [if_pos hi, if_pos h2]
        have : k - a = (k - (a + 1)) + 1 := by omega
        rw [this]; simp
      · have h2 : ¬(a ≤ k ∧ k < a + (v :: vs).length) := by simp only [List.length_cons]; omega
        rw [if_neg hi, if_neg h2, if_neg hk]

/-- A block lies in the memory. -/
theorem blockBase_add_le (b : BlockId) : blockBase b + 32 ≤ 4096 := by
  have := b.isLt
  unfold blockBase
  omega

theorem blockImage_length (st : Staging) (length k : Nat) : (st.blockImage length k).length = 32 := by
  simp [Staging.blockImage]

/-- A block write keeps the canonical form. -/
theorem memory_wf_writeBlock (s : State) (b : BlockId) {bytes : List Byte} (h : bytes.length = 32)
    (hm : Memory.wf s.memory = true) : Memory.wf (s.writeBlock b bytes).memory = true :=
  memory_wf_writeBytes bytes hm (by rw [h]; exact blockBase_add_le b)

end Sys2Proof.Machine
end

