-- ==== Sys2Proof/Laws/PerInstr.lean ====
section
/-! SUPPORT. Per-instruction lemmas. Family BusWrite: a command is a host command strobe of port p exactly when the
bus write that issues it stands at a strobe address of port p's window (section 11.2). -/

namespace Sys2Proof.Laws.BusWrite

/-- What the family says of one instruction. -/
def Statement (i : Instr) : Prop :=
  i.wellFormed = true → ∀ p : Port, i.strobe? = some p ↔ ∃ a w, i.busWrite? = some (p, a, w) ∧ a.toNat ≤ 0x16

theorem of_strobe (i : Instr) (p : Port) (a : BitVec 7) (w : Word) (hs : i.strobe? = some p)
    (hb : i.busWrite? = some (p, a, w)) (ha : a.toNat ≤ 0x16) : Statement i := by
  intro _ q
  rw [hs, hb]
  constructor
  · intro h
    cases h
    exact ⟨a, w, rfl, ha⟩
  · rintro ⟨_, _, h, _⟩
    cases h
    rfl

theorem of_other_register (i : Instr) (p : Port) (a : BitVec 7) (w : Word) (hs : i.strobe? = none)
    (hb : i.busWrite? = some (p, a, w)) (ha : i.wellFormed = true → ¬a.toNat ≤ 0x16) : Statement i := by
  intro hw q
  rw [hs, hb]
  constructor
  · intro h
    cases h
  · rintro ⟨_, _, h, h'⟩
    cases h
    exact absurd h' (ha hw)

theorem of_no_write (i : Instr) (hs : i.strobe? = none) (hb : i.busWrite? = none) : Statement i := by
  intro _ q
  rw [hs, hb]
  constructor
  · intro h
    cases h
  · rintro ⟨_, _, h, _⟩
    cases h

theorem not_strobe_of_addressIgnorable (a : BitVec 7) (h : addressIgnorable a = true) : ¬a.toNat ≤ 0x16 := by
  unfold addressIgnorable at h
  simp only [Bool.or_eq_true, Bool.and_eq_true, decide_eq_true_eq] at h
  omega

theorem arg_not_strobe : ∀ n : Fin 5, ¬(BitVec.ofNat 7 (0x1A + n.val)).toNat ≤ 0x16 := by
  decide

theorem listen (p : Port) (w : Word) : Statement (.listen p w) :=
  of_strobe _ p _ w rfl rfl (by decide)

theorem openChannel (p : Port) (w : Word) : Statement (.openChannel p w) :=
  of_strobe _ p _ w rfl rfl (by decide)

theorem accept (p : Port) (w : Word) : Statement (.accept p w) :=
  of_strobe _ p _ w rfl rfl (by decide)

theorem reject (p : Port) (w : Word) : Statement (.reject p w) :=
  of_strobe _ p _ w rfl rfl (by decide)

theorem close (p : Port) (w : Word) : Statement (.close p w) :=
  of_strobe _ p _ w rfl rfl (by decide)

theorem send (p : Port) (w : Word) : Statement (.send p w) :=
  of_strobe _ p _ w rfl rfl (by decide)

theorem fetch (p : Port) (w : Word) : Statement (.fetch p w) :=
  of_strobe _ p _ w rfl rfl (by decide)

theorem create (p : Port) (w : Word) : Statement (.create p w) :=
  of_strobe _ p _ w rfl rfl (by decide)

theorem policy (p : Port) (w : Word) : Statement (.policy p w) :=
  of_strobe _ p _ w rfl rfl (by decide)

theorem join (p : Port) (w : Word) : Statement (.join p w) :=
  of_strobe _ p _ w rfl rfl (by decide)

theorem publish (p : Port) (w : Word) : Statement (.publish p w) :=
  of_strobe _ p _ w rfl rfl (by decide)

theorem ack (p : Port) (w : Word) : Statement (.ack p w) :=
  of_strobe _ p _ w rfl rfl (by decide)

theorem popReceipt (p : Port) (w : Word) : Statement (.popReceipt p w) :=
  of_strobe _ p _ w rfl rfl (by decide)

theorem nudge (p : Port) (w : Word) : Statement (.nudge p w) :=
  of_strobe _ p _ w rfl rfl (by decide)

theorem notifySet (p : Port) (w : Word) : Statement (.notifySet p w) :=
  of_strobe _ p _ w rfl rfl (by decide)

theorem mask (p : Port) (w : Word) : Statement (.mask p w) :=
  of_strobe _ p _ w rfl rfl (by decide)

theorem online (p : Port) (w : Word) : Statement (.online p w) :=
  of_strobe _ p _ w rfl rfl (by decide)

theorem offline (p : Port) (w : Word) (atEntry : List ShareBlock) : Statement (.offline p w atEntry) :=
  of_strobe _ p _ w rfl rfl (by decide)

theorem enablePort (p : Port) (w : Word) : Statement (.enablePort p w) :=
  of_strobe _ p _ w rfl rfl (by decide)

theorem disablePort (p : Port) (w : Word) (atEntry : List ShareBlock) : Statement (.disablePort p w atEntry) :=
  of_strobe _ p _ w rfl rfl (by decide)

theorem resetPort (p : Port) (w : Word) (atEntry : List ShareBlock) : Statement (.resetPort p w atEntry) :=
  of_strobe _ p _ w rfl rfl (by decide)

theorem setQuota (p : Port) (w : Word) : Statement (.setQuota p w) :=
  of_strobe _ p _ w rfl rfl (by decide)

theorem setTiming (p : Port) (w : Word) : Statement (.setTiming p w) :=
  of_strobe _ p _ w rfl rfl (by decide)

theorem stageData (p : Port) (w : Word) : Statement (.stageData p w) :=
  of_other_register _ p _ w rfl rfl fun _ => by decide

theorem stagePtr (p : Port) (w : Word) : Statement (.stagePtr p w) :=
  of_other_register _ p _ w rfl rfl fun _ => by decide

theorem rbData (p : Port) : Statement (.rbData p) :=
  of_no_write _ rfl rfl

theorem rbPtr (p : Port) (w : Word) : Statement (.rbPtr p w) :=
  of_other_register _ p _ w rfl rfl fun _ => by decide

theorem viewSel (p : Port) (w : Word) : Statement (.viewSel p w) :=
  of_other_register _ p _ w rfl rfl fun _ => by decide

theorem timeLo (p : Port) : Statement (.timeLo p) :=
  of_no_write _ rfl rfl

theorem argWrite (p : Port) (n : Fin 5) (w : Word) : Statement (.argWrite p n w) :=
  of_other_register _ p _ w rfl rfl fun _ => arg_not_strobe n

theorem ignoredWrite (p : Port) (a : BitVec 7) (w : Word) : Statement (.ignoredWrite p a w) :=
  of_other_register _ p a w rfl rfl (not_strobe_of_addressIgnorable a)

theorem resetInputAssertion (p : Port) (atEntry : List ShareBlock) : Statement (.resetInputAssertion p atEntry) :=
  of_no_write _ rfl rfl

theorem resetInputRelease (p : Port) : Statement (.resetInputRelease p) :=
  of_no_write _ rfl rfl

theorem chipResetAssertion : Statement (.chipResetAssertion) :=
  of_no_write _ rfl rfl

theorem chipResetRelease : Statement (.chipResetRelease) :=
  of_no_write _ rfl rfl

theorem memoryFault (b : BlockId) (contents : List Byte) : Statement (.memoryFault b contents) :=
  of_no_write _ rfl rfl

theorem blockTransferEnd : Statement (.blockTransferEnd) :=
  of_no_write _ rfl rfl

theorem openTimeoutExpiry (c : ChanId) : Statement (.openTimeoutExpiry c) :=
  of_no_write _ rfl rfl

theorem drainExpiry (c : ChanId) : Statement (.drainExpiry c) :=
  of_no_write _ rfl rfl

theorem lifetimeExpiry (r : RecId) : Statement (.lifetimeExpiry r) :=
  of_no_write _ rfl rfl

theorem holdoffExpiry (p : Port) : Statement (.holdoffExpiry p) :=
  of_no_write _ rfl rfl

theorem memoryManagerResetShare (p : Port) : Statement (.memoryManagerResetShare p) :=
  of_no_write _ rfl rfl

theorem endpointTableResetShare (p : Port) : Statement (.endpointTableResetShare p) :=
  of_no_write _ rfl rfl

theorem channelControllerResetShare (p : Port) : Statement (.channelControllerResetShare p) :=
  of_no_write _ rfl rfl

theorem groupControllerResetShare (p : Port) : Statement (.groupControllerResetShare p) :=
  of_no_write _ rfl rfl

theorem receiptUnitResetShare (p : Port) : Statement (.receiptUnitResetShare p) :=
  of_no_write _ rfl rfl

theorem attentionResetShare (p : Port) : Statement (.attentionResetShare p) :=
  of_no_write _ rfl rfl

end Sys2Proof.Laws.BusWrite
end

