-- ==== Sys2Proof/Laws/Receipts.lean ====
section
/-! SUPPORT. What a release, a claim and a bulk discard hand off to the Receipt Units, in the words of
`State.HandedOff`, and how hand-offs that follow each other compose. -/

namespace Sys2Proof.Machine

/-! ## One Receipt Unit -/

@[simp] theorem ReceiptUnit.after_nil (u : ReceiptUnit) (o : Bool) : u.after o [] = u := by
  cases o <;> simp [ReceiptUnit.after]

theorem ReceiptUnit.after_append (u : ReceiptUnit) (o : Bool) (a b : List Receipt) :
    (u.after o a).after o b = u.after o (a ++ b) := by
  cases o <;> simp [ReceiptUnit.after, List.take_append, Nat.sub_sub]

/-! ## Composition -/

/-- What changes no receipt hands off nothing. -/
theorem State.HandedOff.nothing {s t : State} (h : ∀ q, (t.port q).receipts = (s.port q).receipts) :
    s.HandedOff t fun _ => [] :=
  fun q => ⟨by rw [h, ReceiptUnit.after_nil], fun _ _ hn => absurd rfl hn⟩

theorem State.HandedOff.congr {s t : State} {a b : Port → List Receipt} (h : s.HandedOff t a) (e : ∀ q, a q = b q) :
    s.HandedOff t b :=
  funext e ▸ h

/-- Hand-offs that follow each other. -/
theorem State.HandedOff.trans {s t u : State} {a b : Port → List Receipt} (h : s.HandedOff t a) (h' : t.HandedOff u b)
    (ho : ∀ q, t.online q = s.online q) (hk : ∀ q, t.HasCond q portItem .receipt → u.HasCond q portItem .receipt) :
    s.HandedOff u fun q => a q ++ b q := by
  intro q
  refine ⟨by rw [(h' q).1, (h q).1, ho, ReceiptUnit.after_append], fun hq hr hn => ?_⟩
  by_cases ha : a q = []
  · refine (h' q).2 ((ho q).trans hq) ?_ (by simpa [ha] using hn)
    rw [(h q).1, ha, ReceiptUnit.after_nil]
    exact hr
  · exact hk q ((h q).2 hq hr ha)

/-- Hand-offs concern the state before through its receipts and ports in service, and the state after through its
receipts and conditions. -/
theorem State.HandedOff.transport {s s' t t' : State} {a : Port → List Receipt} (h : s.HandedOff t a)
    (hr : ∀ q, (s'.port q).receipts = (s.port q).receipts) (ho : ∀ q, s'.online q = s.online q)
    (hr' : ∀ q, (t'.port q).receipts = (t.port q).receipts)
    (hk : ∀ q, t.HasCond q portItem .receipt → t'.HasCond q portItem .receipt) : s'.HandedOff t' a := by
  intro q
  rw [hr', hr, ho]
  exact ⟨(h q).1, fun h1 h2 h3 => hk q ((h q).2 h1 h2 h3)⟩

/-! ## The operations -/

/-- A setting of a condition changes no receipt. -/
theorem setCond_receipts (s : State) (p : Port) (it : Item) (c : Cond) (q : Port) :
    ((s.setCond p it c).port q).receipts = (s.port q).receipts := by
  unfold State.setCond
  split
  · by_cases e : q = p
    · subst e; rw [port_modPort_self]
    · rw [port_modPort_ne _ _ e]
  · rfl

theorem handOff_handedOff (s : State) (p : Port) (rc : Receipt) :
    s.HandedOff (s.handOff p rc) fun q => if p = q then [rc] else [] := by
  intro q
  show _ = ReceiptUnit.after _ _ (if p = q then [rc] else []) ∧ (_ → _ → (if p = q then [rc] else []) ≠ [] → _)
  unfold State.handOff
  by_cases e : q = p
  · subst e
    by_cases h : s.online q = true ∧ 0 < (s.port q).receipts.reserved
    · rw [if_pos h, if_pos rfl]
      refine ⟨?_, fun _ _ _ => hasCond_setPortCond_self _ _ ?_⟩
      · unfold State.setPortCond
        rw [setCond_receipts, port_modPort_self, h.1]
        obtain ⟨n, hn⟩ : ∃ n, (s.port q).receipts.reserved = n + 1 := ⟨_, (Nat.succ_pred_eq_of_pos h.2).symm⟩
        simp [ReceiptUnit.after, hn]
      · rw [online_modPort _ _ _ _ rfl]
        exact h.1
    · rw [if_neg h, if_pos rfl, port_modPort_self]
      refine ⟨?_, fun h1 h2 => absurd ⟨h1, h2⟩ h⟩
      cases ho : s.online q
      · simp [ReceiptUnit.after]
      · have h0 : (s.port q).receipts.reserved = 0 := by
          by_contra hc
          exact h ⟨ho, Nat.pos_of_ne_zero hc⟩
        simp [ReceiptUnit.after, h0]
  · rw [if_neg (Ne.symm e)]
    refine ⟨?_, fun _ _ hn => absurd rfl hn⟩
    rw [ReceiptUnit.after_nil]
    split
    · unfold State.setPortCond
      rw [setCond_receipts, port_modPort_ne _ _ e]
    · rw [port_modPort_ne _ _ e]

/-- A release hands off the receipt of its record when that asked for one (R12, R13). -/
theorem release_handedOff (s : State) (r : RecId) (m : Message) (c : Cause) :
    s.HandedOff (s.release r m c) (m.receiptAt c) := by
  have e : (m.blocks.foldl (fun t b => t.placeBlock b (releasedTo m b)) s).ports = s.ports := by
    rw [foldl_ports]; intros; rfl
  have h0 (p : Port) (f : Account → Account) (q : Port) :
      (((m.blocks.foldl (fun t b => t.placeBlock b (releasedTo m b)) s).modAccount p f).port q).receipts =
        (s.port q).receipts := by
    unfold State.modAccount
    rw [← port_congr e q]
    by_cases h : q = p
    · subst h; rw [port_modPort_self]
    · rw [port_modPort_ne _ _ h]
  have h1 (p : Port) (f : Account → Account) (q : Port) :
      ((m.blocks.foldl (fun t b => t.placeBlock b (releasedTo m b)) s).modAccount p f).online q = s.online q := by
    unfold State.modAccount
    rw [online_modPort _ _ _ _ rfl]
    unfold State.online
    rw [port_congr e]
  unfold State.release Message.receiptAt
  simp only []
  by_cases hm : m.receiptRequested = true
  · rw [if_pos hm]
    refine ((handOff_handedOff _ (portOf m.origin) (receiptOf m c)).transport (fun q => (h0 _ _ q).symm)
      (fun q => (h1 _ _ q).symm) (fun q => rfl) fun q h =>
        hasCond_of_ports (setRecord_ports _ r .free) h).congr ?_
    intro q
    simp [hm]
  · rw [if_neg hm]
    refine (State.HandedOff.nothing fun q => ?_).congr ?_
    · exact (congrArg PortRec.receipts (port_congr (setRecord_ports ..) q)).trans (h0 _ _ q)
    · intro q
      simp [hm]

/-- A claim hands off the receipt of its record when it leaves no holder, and nothing otherwise (R10, R13). -/
theorem claim_handedOff (s : State) {r : RecId} (n : Nat) (k : TallyKind) (c : Cause) {m : Message}
    (h : (s.record r).message? = some m) : s.HandedOff (s.claim r n (some k) c) (m.receiptAfter n k c) := by
  unfold State.claim
  rw [h]
  show s.HandedOff (if m.count - n = 0 then s.release r (m.ended n k) c else s.modMessage r fun _ => m.ended n k) _
  by_cases hn : m.count ≤ n
  · rw [if_pos (by omega)]
    exact (release_handedOff s r (m.ended n k) c).congr fun q => by rw [Message.receiptAfter, if_pos hn]
  · rw [if_neg (by omega)]
    refine (State.HandedOff.nothing fun q => ?_).congr fun q => by rw [Message.receiptAfter, if_neg hn]
    exact congrArg PortRec.receipts (port_congr (modMessage_ports ..) q)

/-- A claim on a FREE record does nothing. -/
theorem claim_of_free (s : State) {r : RecId} (n : Nat) (k : Option TallyKind) (c : Cause)
    (h : (s.record r).message? = none) : s.claim r n k c = s := by
  unfold State.claim
  rw [h]

theorem discardClaim_handedOff (s : State) (r : RecId) (n : Nat) :
    s.HandedOff (s.claim r n (some .discarded) .discarded) (s.discardReceipt r n) := by
  cases h : (s.record r).message? with
  | none =>
    rw [claim_of_free s _ _ _ h]
    exact (State.HandedOff.nothing fun _ => rfl).congr fun q => by rw [State.discardReceipt, h]
  | some m => exact (claim_handedOff s _ _ _ h).congr fun q => by rw [State.discardReceipt, h]

/-- Discard claims of distinct records hand off what each record owes, in their order. -/
theorem foldl_claim_handedOff (n : RecId → Nat) : ∀ (l : List RecId) (s : State), l.Nodup →
    s.HandedOff (l.foldl (fun t r => t.claim r (n r) (some .discarded) .discarded) s) fun q =>
      l.flatMap fun r => s.discardReceipt r (n r) q
  | [], s, _ => State.HandedOff.nothing fun _ => rfl
  | r :: l, s, hd => by
    obtain ⟨hr, hl⟩ := List.nodup_cons.1 hd
    have h2 := foldl_claim_handedOff n l (s.claim r (n r) (some .discarded) .discarded) hl
    refine ((discardClaim_handedOff s r (n r)).trans h2 (online_of_cores (claim_cores ..)) fun q h => ?_).congr fun q => ?_
    · exact hasCond_foldl _ (fun _ _ h => hasCond_claim _ _ _ _ _ h) _ _ h
    · rw [List.flatMap_cons]
      congr 1
      refine List.flatMap_congr fun k hk => ?_
      unfold State.discardReceipt
      rw [claim_record_ne s _ _ _ (ne_of_mem_of_not_mem hk hr)]

/-- A bulk discard hands off the receipts of the records it releases (R32). -/
theorem bulkDiscard_handedOff (s : State) (l : List EpId) :
    s.HandedOff (s.bulkDiscard l) (s.discardReceipts (s.entriesOf l)) := by
  have hp : (l.foldl State.emptyQueue s).ports = s.ports := by rw [foldl_ports]; intros; rfl
  have hr : (l.foldl State.emptyQueue s).records = s.records := by rw [foldl_records]; intros; rfl
  have h := foldl_claim_handedOff (fun r => (s.entriesOf l).count r) (firstAppearances (s.entriesOf l))
    (l.foldl State.emptyQueue s) (nodup_firstAppearances _)
  refine (h.transport (fun q => ?_) (fun q => ?_) (fun q => rfl) fun q hc => hc).congr fun q => ?_
  · exact congrArg PortRec.receipts (port_congr hp q).symm
  · unfold State.online
    rw [port_congr hp]
  · refine List.flatMap_congr fun k _ => ?_
    unfold State.discardReceipt
    rw [record_congr hr]

end Sys2Proof.Machine
end

