-- ==== Sys2Proof/Tests/Slice0.lean ====
section
/-! SUPPORT. The model's own tests: ill-formed terms that the check refuses, one step of each command on a small
state, and for every statement with hypotheses a state and operands that meet them. -/

set_option maxRecDepth 20000

namespace Sys2Proof.Tests

open Sys2Proof.Machine

/-! ## Small states -/

/-- The state a command answers. -/
def after (i : Instr) (s : State) : State :=
  match exec i s with
  | .next t => t
  | .fault _ => s
  | .refused _ => s

def resultOf (i : Instr) (s : State) (p : Port) : ResultCode × Word :=
  (((after i s).port p).host.result, ((after i s).port p).host.resultValue)

def up (x : PortRec) : PortRec :=
  { x with state := .online }

/-- P0 and P1 ONLINE, P2 and P3 DISABLED. -/
def base : State :=
  (State.reset.modPort 0 up).modPort 1 up

def withArgs (s : State) (p : Port) (a : Vector Word 5) : State :=
  s.modPort p fun x => { x with host := { x.host with args := a } }

def way : Direction where
  window := 2
  credits := 2
  outstanding := 0
  nextSequence := 5#16

/-- A channel from endpoint 0 of P0 to endpoint 0 of P1. -/
def terms : LiveChannel where
  caller := 0
  callee := 8
  maxLength := 64
  options := { rcpt := true, expire := true }
  toCallee := way
  toCaller := way
  transfers := 0

def offer : Offer where
  window := 2
  maxLength := 64
  options := { rcpt := true, expire := false }

/-- Channel 3 is REQUESTED from endpoint 0 of P0 to endpoint 0 of P1. -/
def asked : State :=
  ((base.setChannel 3 (.requested 0 8 offer 1000#32)).setRole 0 (.calling 3 8)).setRole 8 (.offered 3 0 .any offer)

/-- Channel 3 is OPEN. -/
def joined : State :=
  ((base.setChannel 3 (.opened terms)).setRole 0 (.connected 3 8 [] 2)).setRole 8 (.connected 3 0 [] 2)

/-- Channel 3 is DRAINING from the caller's side, with a deadline. -/
def draining : State :=
  ((base.setChannel 3 (.draining terms { caller := true, callee := false } (some 0#32))).setRole 0
    (.closing 3 8 [] 2)).setRole 8 (.closing 3 0 [] 2)

/-- A message of 40 bytes in blocks 4 and 9. -/
def letter (link : RecLink) (origin : EpId) : Message where
  origin := origin
  link := link
  sequence := 5#16
  tag := 0xAB#32
  length := 40
  blocks := [4, 9]
  badMarks := []
  receiptRequested := true
  count := 1
  damaged := false
  tallies := { fetched := 0, expired := 0, discarded := 0, skipped := 0 }

def mail : Message :=
  letter (.channel 3 .callerToCallee) 0

def charged (s : State) : State :=
  ((s.placeBlock 4 .held).placeBlock 9 .held).modPort 0 fun x =>
    { x with
      account := { x.account with chargedBlocks := 2, chargedRecords := 1 }
      receipts := { x.receipts with reserved := 1 } }

def busy (s : State) (q : Requester) : State :=
  { s with arbiter := { waiting := Vector.replicate 8 false, inProgress := some q, pointer := q + 1 } }

def copyIn (remaining : Nat) (cancelled : Bool) : CopyIn where
  record := 7
  kind := .channel
  next := 2 - remaining
  remaining := remaining
  lifetime := 0
  cancelled := cancelled

def copyOut (remaining : Nat) (cancelled : Bool) : CopyOut where
  record := 7
  endpoint := 0
  next := 2 - remaining
  remaining := remaining
  cancelled := cancelled

/-- Record 7 is FILLING on channel 3 and its copy-in has this many blocks to go, one in progress. -/
def sending (remaining : Nat) (cancelled : Bool) : State :=
  busy
    (((charged (joined.setChannel 3 (.opened { terms with transfers := 1 }))).setRecord 7 (.filling mail)).modPort 0
      fun x =>
        { x with
          staging := { x.staging with words := x.staging.words.set 3 0x1234#16, locked := true }
          sendUnit := some (copyIn remaining cancelled) })
    0

/-- Record 7 is LIVE with a deadline, at the head of the queue of endpoint 0 of P1. -/
def delivered : State :=
  ((charged joined).setRecord 7 (.live mail (some 0#32))).setRole 8 (.connected 3 0 [7] 2)

/-- Record 7 is being fetched by P1. -/
def fetching (remaining : Nat) (cancelled : Bool) : State :=
  busy
    (((charged (joined.setChannel 3 (.opened { terms with transfers := 1 }))).setRecord 7 (.live mail none)).modPort 1
      fun x =>
        { x with
          readBuffer := { x.readBuffer with state := .filling }
          fetchUnit := some (copyOut remaining cancelled) })
    3

def circle : ActiveGroup where
  publisher := 1
  members := [9, 10]
  policy := .opened
  maxLength := 64
  options := { rcpt := true, expire := true }
  nextSequence := 5#16
  copyInFlight := false

/-- Group 2, published by endpoint 1 of P0, with endpoints 1 and 2 of P1 as members. -/
def gathered : State :=
  (((base.setGroup 2 (.active circle)).setRole 1 (.publisher 2)).setRole 9 (.member 2 [] 2)).setRole 10
    (.member 2 [] 1)

/-- Record 7 of the group is LIVE in the queues of both members. -/
def spread : State :=
  ((gathered.setRecord 7 (.live { letter (.group 2) 1 with blocks := [], length := 0, count := 2 } (some 0#32))).setRole 9
    (.member 2 [7] 2)).setRole 10 (.member 2 [7] 1)

/-- P1 awaits every report. -/
def leaving (s : State) : State :=
  s.modPort 1 fun x => { x with state := .resetting false allReports }

/-- P0 has ARRIVAL at item 0 and gathers. -/
def attentive : State :=
  base.modPort 0 fun x =>
    { x with
      attention := { x.attention with sets := x.attention.sets.set 0 1#16, list := [0] }
      notification :=
        { x.notification with
          state := .gathering, holdoff := 10, threshold := 3, bulkCount := 1, deadline := some 0#32 } }

/-! ## Ill-formed terms are refused -/

theorem test_shares_twice_refused :
    Instr.wellFormed (.offline 0 0#16 [.attention, .attention]) = false ∧
    Instr.wellFormed (.disablePort 0 1#16 [.attention, .attention]) = false ∧
    Instr.wellFormed (.resetPort 0 1#16 [.attention, .attention]) = false ∧
    Instr.wellFormed (.resetInputAssertion 0 [.attention, .attention]) = false ∧
    Instr.wellFormed (.offline 0 0#16 [.attention, .receiptUnit]) = true := by
  decide

theorem test_ignored_address_refused :
    Instr.wellFormed (.ignoredWrite 0 0x16#7 0#16) = false ∧ Instr.wellFormed (.ignoredWrite 0 0x17#7 0#16) = true ∧
    Instr.wellFormed (.ignoredWrite 0 0x1A#7 0#16) = false ∧ Instr.wellFormed (.ignoredWrite 0 0x1F#7 0#16) = true := by
  decide

theorem test_fault_contents_refused :
    Instr.wellFormed (.memoryFault 0 (List.replicate 31 0#8)) = false ∧
    Instr.wellFormed (.memoryFault 0 (List.replicate 32 0#8)) = true := by
  decide

theorem test_no_word_spells_a_command : decodeTableWord 16 0 = none ∧ decodeTableWord 0 7 = none :=
  ⟨rfl, rfl⟩

theorem test_map_of_window :
    Instr.ofWrite 0 0x00#7 1#16 [] = .listen 0 1#16 ∧ Instr.ofWrite 1 0x16#7 25#16 [] = .setTiming 1 25#16 ∧
    Instr.ofWrite 2 0x1E#7 9#16 [] = .argWrite 2 4 9#16 ∧ Instr.ofWrite 3 0x39#7 9#16 [] = .viewSel 3 9#16 := by
  decide

/-! ## One step of each command -/

theorem test_listen :
    (after (.listen 1 2#16) (withArgs base 1 #v[4, 0, 0, 0, 0])).role 10 = .listening .any ∧
    resultOf (.listen 1 2#16) (withArgs base 1 #v[5, 0, 0, 0, 0]) 1 = (.badArg, 0#16) := by
  decide

theorem test_open :
    let s := withArgs (base.setRole 8 (.listening .any)) 0 #v[8, 2, 64, 1, 0]
    resultOf (.openChannel 0 0#16) s 0 = (.ok, 0#16) ∧ (after (.openChannel 0 0#16) s).role 0 = .calling 0 8 ∧
    (after (.openChannel 0 0#16) s).channel 0 = .requested 0 8 offer 20000#32 := by
  decide

theorem test_accept :
    let t := after (.accept 1 0#16) (withArgs asked 1 #v[4, 32, 3, 0, 0])
    t.role 8 = .connected 3 0 [] 4 ∧ t.role 0 = .connected 3 8 [] 2 ∧ (t.port 0).attention.sets[0] = 8#16 := by
  decide

theorem test_reject :
    let t := after (.reject 1 0#16) (withArgs asked 1 #v[77, 0, 0, 0, 0])
    t.role 8 = .listening .any ∧ t.channel 3 = .free ∧ (t.endpoint 0).openOutcome = .rejected 77#16 := by
  decide

theorem test_close_graceful_on_quiet_channel :
    let t := after (.close 0 0#16) joined
    t.channel 3 = .free ∧ (t.endpoint 0).closeOutcome = .complete ∧ (t.endpoint 8).closeOutcome = .complete := by
  decide

theorem test_close_abort_discards :
    let t := after (.close 1 0#16) (withArgs delivered 1 #v[1, 0, 0, 0, 0])
    t.channel 3 = .free ∧ (t.endpoint 8).closeOutcome = .abortedLocal ∧ (t.endpoint 8).discarded = 1 ∧
    t.record 7 = .free ∧ (t.port 0).receipts.reserved = 0 := by
  decide

theorem test_send :
    let t := after (.send 0 0#16) (withArgs joined 0 #v[40, 7, 0, 1, 0])
    (t.port 0).staging.locked = true ∧ t.arbiter.inProgress = some 0 ∧ (t.port 0).account.chargedBlocks = 2 ∧
    (t.port 0).receipts.reserved = 1 ∧ (t.port 0).host.resultValue = 5#16 := by
  decide

theorem test_fetch :
    let t := after (.fetch 1 0#16) delivered
    (t.port 1).readBuffer.state = .filling ∧ (t.port 1).readBuffer.header.tag = 0xAB#32 ∧ (t.role 8).queue = [] ∧
    t.arbiter.inProgress = some 3 ∧ (t.port 1).host.resultValue = 40#16 := by
  decide

theorem test_create :
    let t := after (.create 0 1#16) (withArgs base 0 #v[64, 3, 0, 0, 0])
    t.group 0 = .active { circle with members := [], nextSequence := 0#16 } ∧ t.role 1 = .publisher 0 := by
  decide

theorem test_policy :
    (after (.policy 0 1#16) (withArgs gathered 0 #v[1, 0, 0, 0, 0])).group 2 = .active { circle with policy := .closed } := by
  decide

theorem test_join :
    let t := after (.join 1 3#16) (withArgs gathered 1 #v[2, 8, 0, 0, 0])
    t.group 2 = .active { circle with members := [9, 10, 11] } ∧ (t.port 1).host.resultValue = 3#16 := by
  decide

theorem test_publish_of_length_zero :
    let t := after (.publish 0 1#16) gathered
    (t.role 9).queue = [0] ∧ (t.role 10).queue = [0] ∧ (t.port 0).sendOutcome.count = 2 ∧
    (t.port 0).host.resultValue = 5#16 := by
  decide

theorem test_ack :
    let t := after (.ack 0 0#16) (withArgs attentive 0 #v[1, 0, 0, 0, 0])
    (t.port 0).attention.list = [] ∧ (t.port 0).notification.state = .quiet := by
  decide

theorem test_pop_receipt : resultOf (.popReceipt 0 0#16) base 0 = (.empty, 0#16) := by
  decide

theorem test_nudge :
    let t := after (.nudge 0 1#16) base
    (t.port 1).attention.nudgers = 1#4 ∧ (t.port 1).attention.sets[8] = 0x2000#16 ∧
    (t.port 1).notification.state = .raised := by
  decide

theorem test_notify_set :
    let t := after (.notifySet 0 1#16) (withArgs attentive 0 #v[10, 1, 0, 0, 0])
    (t.port 0).notification.state = .raised ∧ (t.port 0).notification.threshold = 1 := by
  decide

theorem test_mask : ((after (.mask 0 0#16) base).port 0).notification.masked = false := by
  decide

theorem test_online :
    let t := after (.online 0 0#16) (State.reset.modPort 1 up)
    (t.port 0).state = .online ∧ (t.port 1).attention.sets[8] = 0x1000#16 := by
  decide

theorem test_offline :
    let t := after (.offline 1 0#16 [.attention]) base
    (t.port 1).state =
        .resetting false
          [.share .memoryManager, .share .endpointTable, .share .channelController, .share .groupController,
            .share .receiptUnit] ∧
      (t.port 0).attention.sets[8] = 0x1000#16 := by
  decide

theorem test_enable_port : ((after (.enablePort 0 2#16) base).port 2).state = .offline := by
  decide

theorem test_disable_port :
    ((after (.disablePort 0 1#16 [.attention, .receiptUnit, .groupController, .channelController, .endpointTable, .memoryManager])
      base).port 1).state = .disabled := by
  decide

theorem test_reset_port :
    ((after (.resetPort 0 1#16 [.attention, .receiptUnit, .groupController, .channelController, .endpointTable, .memoryManager])
      base).port 1).state = .offline ∧
    resultOf (.resetPort 1 1#16 []) base 1 = (.denied, 0#16) := by
  decide

theorem test_set_quota :
    ((after (.setQuota 0 1#16) (withArgs base 0 #v[128, 64, 0, 0, 0])).port 1).account.blockQuota = 128 ∧
    resultOf (.setQuota 0 1#16) (withArgs base 0 #v[129, 64, 0, 0, 0]) 0 = (.badArg, 0#16) := by
  decide

theorem test_set_timing :
    (after (.setTiming 0 25#16) (withArgs base 0 #v[255, 0, 9, 0, 0])).config =
      { divider := 25, openTimeout := 255, drainLimit := 0, maxLifetime := 9 } ∧
    resultOf (.setTiming 0 50#16) (withArgs base 0 #v[255, 0, 9, 0, 0]) 0 = (.wrongState, 0#16) := by
  decide

theorem test_stage_data :
    ((after (.stageData 0 0xBEEF#16) base).port 0).staging.words[0] = 0xBEEF#16 ∧
    ((after (.stageData 0 0xBEEF#16) base).port 0).staging.pointer = 1 := by
  decide

theorem test_stage_ptr :
    ((after (.stagePtr 0 128#16) base).port 0).staging.pointer = 128 ∧
    ((after (.stagePtr 0 129#16) base).port 0).staging.pointer = 0 := by
  decide

/-- P0's read buffer FULL with one word set. -/
def readable : State :=
  base.modPort 0 fun x =>
    { x with readBuffer := { x.readBuffer with words := x.readBuffer.words.set 0 0xCAFE#16, state := .full } }

theorem test_rb_data :
    ((after (.rbData 0) readable).port 0).host.readData = 0xCAFE#16 ∧
    ((after (.rbData 0) readable).port 0).readBuffer.pointer = 1 ∧
    ((after (.rbData 0) base).port 0).readBuffer.pointer = 0 := by
  decide

theorem test_rb_ptr :
    ((after (.rbPtr 0 128#16) readable).port 0).readBuffer.pointer = 128 ∧
    ((after (.rbPtr 0 128#16) base).port 0).readBuffer.pointer = 0 := by
  decide

theorem test_view_sel :
    ((after (.viewSel 0 7#16) base).port 0).host.viewSel = 7 ∧ ((after (.viewSel 0 8#16) base).port 0).host.viewSel = 0 := by
  decide

theorem test_time_lo :
    let s : State := { base with now := 0x12345678#32 }
    ((after (.timeLo 0) s).port 0).host.readData = 0x5678#16 ∧ windowRead (after (.timeLo 0) s) 0 0x0A#7 = 0x1234#16 := by
  decide

theorem test_arg_write : (after (.argWrite 2 4 9#16) base).arg 2 4 = 9#16 := by
  decide

theorem test_ignored_write : exec (.ignoredWrite 0 0x17#7 9#16) base = .next base :=
  rfl

theorem test_reset_input_assertion :
    ((after (.resetInputAssertion 1 []) base).port 1).resetInput = true ∧
    ((after (.resetInputAssertion 1 []) base).port 1).state.isResetting = true := by
  decide

theorem test_reset_input_release :
    ((after (.resetInputRelease 1) (after (.resetInputAssertion 1 []) base)).port 1).resetInput = false := by
  decide

theorem test_chip_reset_assertion : (after .chipResetAssertion base).chipReset = true :=
  rfl

theorem test_chip_reset_release : after .chipResetRelease base = State.reset := by
  decide

theorem test_memory_fault :
    let t := after (.memoryFault 1 (List.replicate 32 0xA5#8)) base
    t.badChecks[1] = true ∧ Memory.readByte t.memory 32 = 0xA5#8 ∧ Memory.readByte t.memory 31 = 0#8 := by
  decide

theorem test_block_transfer_end_of_copy_in :
    let t := after .blockTransferEnd (sending 2 false)
    Memory.readByte t.memory (32 * 4 + 6) = 0x34#8 ∧ Memory.readByte t.memory (32 * 4 + 7) = 0x12#8 ∧
    (t.port 0).sendUnit = some (copyIn 1 false) ∧ t.arbiter.inProgress = some 0 := by
  decide

theorem test_block_transfer_end_of_copy_out :
    let t := after .blockTransferEnd (fetching 1 false)
    (t.port 1).readBuffer.state = .full ∧ t.record 7 = .free ∧ (t.port 0).receipts.queue.length = 1 ∧
    (t.port 0).attention.sets[8] = 0x800#16 := by
  decide

theorem test_open_timeout_expiry :
    let t := after (.openTimeoutExpiry 3) { asked with now := 1000#32 }
    t.channel 3 = .free ∧ (t.endpoint 0).openOutcome = .timeout ∧ t.role 8 = .listening .any := by
  decide

theorem test_drain_expiry :
    let t := after (.drainExpiry 3) draining
    t.channel 3 = .free ∧ (t.endpoint 0).closeOutcome = .drainExpired := by
  decide

theorem test_lifetime_expiry :
    let t := after (.lifetimeExpiry 7) delivered
    t.record 7 = .free ∧ (t.role 8).queue = [] ∧
    (t.port 0).receipts.queue.map Receipt.outcome = [.expired] := by
  decide

theorem test_holdoff_expiry : ((after (.holdoffExpiry 0) attentive).port 0).notification.state = .raised := by
  decide

theorem test_memory_manager_share :
    let s := leaving (base.setRecord 7 (.live { mail with origin := 8 } none))
    (after (.memoryManagerResetShare 1) s).record 7 = .live { mail with origin := 8, receiptRequested := false } none := by
  decide

theorem test_endpoint_table_share :
    let t := after (.endpointTableResetShare 1) (leaving delivered)
    t.role 8 = .idle ∧ t.record 7 = .free ∧ t.channel 3 = .opened { terms with toCallee := { way with credits := 3 } } := by
  decide

theorem test_channel_controller_share :
    let t := after (.channelControllerResetShare 1) (leaving joined)
    t.channel 3 = .free ∧ (t.endpoint 0).closeOutcome = .peerReset := by
  decide

theorem test_group_controller_share :
    (after (.groupControllerResetShare 1) (leaving gathered)).group 2 = .active { circle with members := [] } := by
  decide

theorem test_receipt_unit_share :
    ((after (.receiptUnitResetShare 1) (leaving (base.reserveReceipt 1))).port 1).receipts.reserved = 0 := by
  decide

theorem test_attention_share :
    ((after (.attentionResetShare 1) (leaving (base.modPort 1 fun x => { x with attention := attentive.ports[0].attention }))).port
      1).attention = Attention.reset := by
  decide

theorem test_tick :
    State.reset.tick.periodsLeft = 24 ∧ ({ base with periodsLeft := 1 } : State).tick.now = 1#32 ∧
    ({ base with periodsLeft := 1 } : State).tick.periodsLeft = 25 := by
  decide

/-! ## Hypotheses that are met

One theorem for each statement of Obligations.lean that has hypotheses, under the statement's name. -/

/-- A state whose queue holds one command. -/
def queued (s : State) (i : Instr) : State :=
  { s with pending := [i] }

theorem meets_StepRunsFrontCommand : (queued base .blockTransferEnd).pending = .blockTransferEnd :: [] :=
  rfl

theorem meets_EmptyQueueStepIsClockPeriod :
    base.pending = [] ∧ base.chipReset = false ∧ 1 < base.periodsLeft ∧ (after .chipResetAssertion base).chipReset = true ∧
    ({ base with periodsLeft := 1 } : State).periodsLeft ≤ 1 ∧
    reached (({ delivered with periodsLeft := 1 } : State).now + 1#32) 0#32 = true := by
  decide

/-- Channel 3 is OPEN, and record 7, which spent one of its two credits, is LIVE in the queue of endpoint 0 of P1. P1 is
ONLINE, or it has entered RESETTING and no share is taken yet. -/
def settled (out : Bool) : State :=
  (((charged (joined.setChannel 3
      (.opened { terms with toCallee := { way with credits := 1, outstanding := 1 } }))).setRecord 7
    (.live mail none)).setRole 8 (.connected 3 0 [7] 2)).modPort 1 fun x =>
      { x with
        state :=
          if out then
            .resetting false
              [.share .memoryManager, .share .endpointTable, .share .channelController, .share .groupController,
                .share .receiptUnit, .share .attention]
          else .online }

theorem settled_records (out : Bool) (r : RecId) : (settled out).record r = if r = 7 then .live mail none else .free := by
  revert out r
  decide

theorem settled_holders (out : Bool) (r : RecId) :
    (settled out).entryCount r = (if r = 7 then 1 else 0) ∧ (settled out).fetchCount r = 0 ∧ (settled out).copyInCount r = 0 := by
  revert out r
  decide

theorem settled_roles (out : Bool) (e : EpId) :
    (settled out).role e =
      if e = 0 then .connected 3 8 [] 2 else if e = 8 then .connected 3 0 [7] 2 else .idle := by
  revert out e
  decide

theorem settled_channels (out : Bool) (c : ChanId) :
    (settled out).channel c =
      if c = 3 then .opened { terms with toCallee := { way with credits := 1, outstanding := 1 } } else .free := by
  revert out c
  decide

theorem settled_groups (out : Bool) (g : GroupId) : (settled out).group g = .free := by
  revert out g
  decide

theorem settled_recordsOn (out : Bool) (c : ChanId) :
    (settled out).recordsOn c .callerToCallee = (if c = 3 then 1 else 0) ∧ (settled out).recordsOn c .calleeToCaller = 0 ∧
    (settled out).transfersOn c = 0 := by
  revert out c
  decide

theorem settled_copies (out : Bool) (g : GroupId) : (settled out).copiesOf g = 0 := by
  revert out g
  decide

theorem settled_holderLaw (out : Bool) : (settled out).HolderLaw := by
  intro r
  obtain ⟨h1, h2, h3⟩ := settled_holders out r
  rw [settled_records out, h1, h2, h3]
  by_cases hr : r = 7
  · simp [hr, mail, letter]
  · simp [hr]

theorem settled_queueLaw (out : Bool) : (settled out).QueueLaw := by
  intro e
  unfold State.EntryFits
  rw [settled_roles out]
  by_cases h0 : e = 0
  · simp [h0, Role.queue, Role.depth]
  · by_cases h8 : e = 8
    · subst h8
      refine ⟨by decide, by decide, by decide, fun r hr => ?_⟩
      have h7 : r = 7 := by simpa [Role.queue] using hr
      subst h7
      exact ⟨mail, none, settled_records out 7, ⟨_, .callerToCallee, settled_channels out 3, rfl, rfl⟩,
        fun p hp => by revert out p; decide⟩
    · simp [h0, h8, Role.queue, Role.depth]

theorem settled_namesLaw (out : Bool) : (settled out).NamesLaw := by
  refine ⟨fun e => ?_, fun c => ?_, fun g x h => ?_⟩
  · unfold State.NamesBack
    rw [settled_roles out]
    by_cases h0 : e = 0
    · rw [if_pos h0]
      exact ⟨_, settled_channels out 3, Or.inl ⟨h0, rfl, rfl⟩⟩
    · by_cases h8 : e = 8
      · rw [if_neg h0, if_pos h8]
        exact ⟨_, settled_channels out 3, Or.inr ⟨h8, rfl, rfl⟩⟩
      · rw [if_neg h0, if_neg h8]
        trivial
  · rw [settled_channels out]
    by_cases h : c = 3
    · subst h
      exact ⟨by show _ ≠ _ ∧ _; decide, Or.inr ⟨_, _, _, settled_roles out 0⟩, Or.inr ⟨_, _, _, settled_roles out 8⟩⟩
    · rw [if_neg h]
      exact ⟨trivial, trivial⟩
  · rw [settled_groups out] at h
    cases h

theorem settled_accountLaw (out : Bool) : (settled out).AccountLaw := by
  intro c
  obtain ⟨h1, h2, h3⟩ := settled_recordsOn out c
  rw [settled_channels out]
  by_cases h : c = 3
  · subst h
    refine ⟨fun d => ?_, h3.symm, by decide, fun r m d hm hl => ?_⟩
    · cases d
      · exact ⟨rfl, h1.symm⟩
      · exact ⟨rfl, h2.symm⟩
    · rw [settled_records out] at hm
      by_cases hr : r = 7
      · rw [if_pos hr] at hm
        cases hm
        cases hl
        exact ⟨rfl, fun p hp => by revert out p; subst hr; decide⟩
      · rw [if_neg hr] at hm
        cases hm
  · rw [if_neg h] at h1 ⊢
    intro d
    cases d
    · exact h1
    · exact h2

theorem settled_outOfServiceLaw (out : Bool) : (settled out).OutOfServiceLaw := by
  intro p
  refine ⟨by revert out p; decide, by revert out p; decide, fun h => ?_⟩
  refine ⟨by revert out p; decide, by revert out p; decide, by revert out p; decide, ?_, fun hc c e he => ?_,
    fun _ g e he => ?_, ?_, ?_, by revert out p; decide, by revert out p; decide⟩
  · revert out p
    decide
  · rw [settled_channels] at he
    by_cases h3 : c = 3
    · rw [if_pos h3] at he
      have h2 : e = 0 ∨ e = 8 := by simpa [Channel.ends, terms] using he
      revert out p
      rcases h2 with rfl | rfl <;> decide
    · rw [if_neg h3] at he
      cases he
  · rw [settled_groups] at he
    cases he
  · revert out p
    decide
  · unfold PortRec.Unattended
    revert out p
    decide

theorem lengthLaw_of_mail {s : State} (h : ∀ r, (s.record r).message? = if r = 7 then some mail else none) : s.LengthLaw := by
  intro r m hm
  rw [h] at hm
  by_cases hr : r = 7
  · rw [if_pos hr] at hm
    cases hm
    decide
  · rw [if_neg hr] at hm
    cases hm

theorem settled_units (out : Bool) (p : Port) :
    ((settled out).port p).sendUnit = none ∧ ((settled out).port p).fetchUnit = none ∧
    ((settled out).port p).staging.locked = false ∧ ((settled out).port p).readBuffer.state = .empty ∧
    (settled out).awaits p .sendStopped = false ∧ (settled out).awaits p .fetchStopped = false ∧
    (settled out).arbiter = Arbiter.reset := by
  revert out p
  decide

theorem settled_unitLaw (out : Bool) : (settled out).UnitLaw := by
  have hq (q : Requester) : ¬(settled out).Requests q := by
    unfold State.Requests
    rw [(settled_units out 0).2.2.2.2.2.2]
    revert q
    decide
  refine ⟨?_, lengthLaw_of_mail fun r => by clear hq; revert out r; decide, fun p => ?_⟩
  · rw [(settled_units out 0).2.2.2.2.2.2]
    exact ⟨fun _ => by decide, fun q h => by cases h⟩
  · obtain ⟨h1, h2, h3, h4, h5, h6, _⟩ := settled_units out p
    exact ⟨⟨by simp [h1], fun _ => hq _, by simp [h1, h3], by simp [h1, h5]⟩,
      ⟨by simp [h2], fun _ => hq _, by simp [h2, h4], by simp [h2, h6]⟩⟩

theorem settled_coherent (out : Bool) : (settled out).Coherent :=
  ⟨settled_holderLaw out, settled_queueLaw out, settled_namesLaw out, settled_accountLaw out,
    fun g => by rw [settled_groups out]; exact settled_copies out g, settled_outOfServiceLaw out, settled_unitLaw out⟩

theorem sending_sendUnitLaw : (sending 2 false).SendUnitLaw 0 := by
  refine ⟨fun u h => ?_, fun h => ?_, ⟨fun _ => ⟨_, rfl, rfl⟩, fun _ => by decide⟩, ⟨fun h => absurd h (by decide), ?_⟩⟩
  · cases h
    exact ⟨by decide, by decide, ⟨Or.inr (by decide), Or.inl ⟨rfl, by decide⟩⟩, mail, rfl, rfl, rfl, by decide⟩
  · cases h
  · rintro ⟨u, h, hc⟩
    cases h
    cases hc

theorem fetching_fetchUnitLaw : (fetching 1 false).FetchUnitLaw 1 := by
  refine ⟨fun u h => ?_, fun h => ?_, ⟨fun _ => ⟨_, rfl, rfl⟩, fun _ => by decide⟩, ⟨fun h => absurd h (by decide), ?_⟩⟩
  · cases h
    exact ⟨by decide, by decide, ⟨Or.inr (by decide), Or.inl ⟨rfl, by decide⟩⟩, mail, none, rfl, rfl⟩
  · cases h
  · rintro ⟨u, h, hc⟩
    cases h
    cases hc

theorem meets_CoherenceLawKept :
    let s := queued (settled false) (.fetch 1 0#16)
    s.Coherent ∧ ∃ t, step s = .next t :=
  ⟨settled_coherent false, _, rfl⟩

theorem meets_MemoryLawKept :
    let s := queued (sending 2 false) .blockTransferEnd
    s.MemoryLaw ∧ ∃ t, step s = .next t :=
  ⟨show Memory.wf (queued (sending 2 false) .blockTransferEnd).memory = true by decide, _, rfl⟩

theorem attentive_attentionLaw : attentive.AttentionLaw := by
  show ∀ p : Fin 4, (∀ it : Fin 9, _ ∈ _ ↔ _) ∧ _
  decide

theorem meets_AttentionLawKept :
    let s := queued attentive (.ack 0 0#16)
    s.AttentionLaw ∧ ∃ t, step s = .next t :=
  ⟨attentive_attentionLaw, _, rfl⟩

theorem meets_NotificationLawKept :
    let s := queued attentive (.ack 0 0#16)
    s.AttentionLaw ∧ s.NotificationLaw ∧ ∃ t, step s = .next t := by
  refine ⟨attentive_attentionLaw, ?_, _, rfl⟩
  show ∀ p : Fin 4, (_ ↔ _) ∧ _
  decide

theorem settled_reservationLaw (out : Bool) : (settled out).ReservationLaw := by
  show ∀ p : Fin 4, (_ = true → _ = _) ∧ (_ = false → (_ = false → _ = 0) ∧ (_ = false → _ = _))
  revert out
  decide

theorem meets_ReceiptLawKept :
    (let s := queued delivered (.lifetimeExpiry 7)
     s.ReceiptLaw ∧ ∃ t, step s = .next t) ∧
    (let s := queued (settled false) (.close 1 0#16)
     s.ReservationLaw ∧ ∃ t, step s = .next t) ∧
    let s := queued (settled true) (.endpointTableResetShare 1)
    s.ReservationLaw ∧ ∃ t, step s = .next t := by
  refine ⟨⟨?_, _, rfl⟩, ⟨settled_reservationLaw false, _, rfl⟩, settled_reservationLaw true, _, rfl⟩
  show ∀ p : Fin 4, _ + _ ≤ 16
  decide

theorem delivered_messages (r : RecId) :
    (delivered.record r).message? = if r = 7 then some mail else none := by
  revert r
  decide

theorem delivered_places (b : BlockId) :
    delivered.blockPlaces[b] = .held ↔ b = 4 ∨ b = 9 := by
  revert b
  decide

theorem delivered_holds (r : RecId) (b : BlockId) :
    delivered.Holds r b ↔ r = 7 ∧ (b = 4 ∨ b = 9) := by
  unfold State.Holds
  rw [delivered_messages]
  by_cases h : r = 7
  · simp [h, mail, letter]
  · simp [h]

theorem meets_BlockLawKept :
    let s := queued delivered (.lifetimeExpiry 7)
    s.BlockLaw ∧ ∃ t, step s = .next t := by
  refine ⟨show delivered.BlockLaw from ⟨?_, ?_, ?_⟩, _, rfl⟩
  · intro b
    rw [delivered_places]
    simp [delivered_holds]
  · intro b r r' h h'
    rw [delivered_holds] at h h'
    rw [h.1, h'.1]
  · intro r m h
    rw [delivered_messages] at h
    by_cases hr : r = 7
    · rw [if_pos hr] at h
      cases h
      decide
    · rw [if_neg hr] at h
      cases h

theorem meets_ChargeLawKept :
    let s := queued delivered (.lifetimeExpiry 7)
    s.ChargeLaw ∧ ∃ t, step s = .next t := by
  refine ⟨?_, _, rfl⟩
  show ∀ p : Fin 4, _ = _ ∧ _ = _
  decide

theorem meets_RangeLawsKept :
    let s := queued base (.stagePtr 0 128#16)
    s.RangeLaw ∧ s.LinkLaw ∧ ∃ t, step s = .next t := by
  refine ⟨?_, ⟨?_, ?_, ?_⟩, _, rfl⟩
  · show (∀ p : Fin 4, _ ≤ _ ∧ _) ∧ _
    decide
  · show ∀ e : Fin 32, _ ≤ 8
    decide
  · intro c
    have h : (queued base (.stagePtr 0 128#16)).channel c = .free := by
      revert c
      decide
    rw [h]
    trivial
  · intro g
    have h : (queued base (.stagePtr 0 128#16)).group g = .free := by
      revert g
      decide
    rw [h]
    trivial

theorem meets_BusWriteRoundTrip :
    (Instr.argWrite 3 4 7#16).wellFormed = true ∧ (Instr.argWrite 3 4 7#16).busWrite? = some (3, 0x1E#7, 7#16) ∧
    (Instr.ignoredWrite 3 0x17#7 7#16).wellFormed = true ∧ 0x17#7 ∉ [0x22#7, 0x23#7, 0x2B#7, 0x39#7] := by
  decide

theorem meets_MemoryAndResultFrames :
    (Instr.send 0 0#16).reachesMemory = false ∧ (∃ t, exec (.send 0 0#16) joined = .next t) ∧
    (Instr.send 0 0#16).strobe? ≠ some 1 ∧ (∀ n w, Instr.send 0 0#16 ≠ .argWrite 1 n w) :=
  ⟨rfl, ⟨_, rfl⟩, by decide, fun _ _ h => by cases h⟩

theorem meets_EstablishmentFrame :
    ∃ t, Instr.nudge 0 1#16 ∈
        [.listen 0 1#16, .openChannel 0 1#16, .accept 0 1#16, .reject 0 1#16, .create 0 1#16, .policy 0 1#16,
          .join 0 1#16, .ack 0 1#16, .popReceipt 0 1#16, .nudge 0 1#16, .notifySet 0 1#16, .mask 0 1#16,
          .online 0 1#16, .enablePort 0 1#16, .setQuota 0 1#16] ∧
      exec (.nudge 0 1#16) base = .next t :=
  ⟨_, by decide, rfl⟩

theorem meets_RefusedCommandChangesOnlyResult :
    (Instr.mask 0 2#16).strobe? = some 0 ∧ base.chipReset = false ∧ (∃ t, exec (.mask 0 2#16) base = .next t) ∧
    ((after (.mask 0 2#16) base).port 0).host.result = .badArg :=
  ⟨rfl, rfl, ⟨_, rfl⟩, by decide⟩

theorem meets_OutOfServiceRefusals :
    ((Instr.setQuota 1 0#16).strobe? = some 1 ∧ (Instr.setQuota 1 0#16).isManagement = true) ∧
    ((Instr.setQuota 0 0#16).strobe? = some 0 ∧ ((after (.offline 0 0#16 []) base).port 0).state.isResetting = true) ∧
    ((Instr.mask 2 0#16).isManagement = false ∧ (Instr.mask 2 0#16).isLifecycle = false ∧ base.online 2 = false) ∧
    ((Instr.online 2 0#16).isLifecycle = true ∧ (base.port 2).state = .disabled ∧ base.chipReset = false) := by
  decide

theorem meets_ListenSetsFilter : base.chipReset = false ∧ listenRefusal base 0 7#16 = none := by
  decide

theorem meets_OpenPlacesRequest :
    let s := withArgs (base.setRole 8 (.listening (.port 0))) 0 #v[8, 8, 256, 3, 0]
    s.chipReset = false ∧ openRefusal s 0 0#16 = none := by
  decide

theorem meets_AcceptOpensChannel :
    let s := withArgs asked 1 #v[8, 256, 3, 0, 0]
    s.chipReset = false ∧ acceptRefusal s 1 0#16 = none ∧ s.role (endpointOf 1 0#16) = .offered 3 0 .any offer ∧
    s.channel 3 = .requested 0 8 offer 1000#32 := by
  decide

theorem meets_RejectFreesChannel :
    asked.chipReset = false ∧ rejectRefusal asked 1 0#16 = none ∧
    asked.role (endpointOf 1 0#16) = .offered 3 0 .any offer := by
  decide

theorem meets_CloseBeforeConnection :
    (closeRefusal asked 1 0#16 = none ∧ asked.role (endpointOf 1 0#16) = .offered 3 0 .any offer) ∧
    (closeRefusal asked 0 0#16 = none ∧ asked.role (endpointOf 0 0#16) = .calling 3 8 ∧ asked.online (portOf 8) = true) ∧
    ((base.setRole 0 (.listening .any)).role (endpointOf 0 0#16) = .listening .any) ∧
    ((base.setRole 0 (.calling 3 16)).role (endpointOf 0 0#16) = .calling 3 16 ∧ base.online (portOf 16) = false) := by
  decide

theorem meets_GracefulCloseBeginsDrain :
    (joined.chipReset = false ∧ joined.online 0 = true ∧ joined.arg 0 0 = 0#16 ∧
      joined.role (endpointOf 0 0#16) = .connected 3 8 [] 2 ∧ joined.channel 3 = .opened terms ∧ terms.caller ≠ terms.callee ∧
      endpointOf 0 0#16 = terms.caller ∧ terms.transfers = 0) ∧
    (delivered.role (endpointOf 1 0#16) = .connected 3 0 [7] 2 ∧ delivered.channel 3 = .opened terms ∧
      endpointOf 1 0#16 = terms.callee) := by
  decide

theorem meets_GracefulCloseJoinsDrain :
    draining.chipReset = false ∧ draining.online 0 = true ∧ draining.online 1 = true ∧ draining.arg 0 0 = 0#16 ∧
    draining.arg 1 0 = 0#16 ∧
    draining.channel 3 = .draining terms { caller := true, callee := false } (some 0#32) ∧
    draining.role (endpointOf 0 0#16) = .closing 3 8 [] 2 ∧ endpointOf 0 0#16 = terms.caller ∧
    draining.role (endpointOf 1 0#16) = .closing 3 0 [] 2 ∧ endpointOf 1 0#16 ≠ terms.caller := by
  decide

theorem meets_AbortTearsDown :
    let s := withArgs delivered 1 #v[1, 0, 0, 0, 0]
    let u := withArgs draining 0 #v[1, 0, 0, 0, 0]
    (s.online 1 = true ∧ s.arg 1 0 = 1#16 ∧ s.role (endpointOf 1 0#16) = .connected 3 0 [7] 2 ∧ s.channel 3 = .opened terms ∧
      terms.caller ≠ terms.callee ∧ (s.record 7).message? = some mail ∧ mail.count ≤ 1) ∧
    (u.online 0 = true ∧ u.role (endpointOf 0 0#16) = .closing 3 8 [] 2) := by
  decide

theorem meets_SendBeginsCopyIn :
    let s := withArgs joined 0 #v[64, 7, 0, 1, 9]
    s.chipReset = false ∧ s.online 0 = true ∧ (s.port 0).sendUnit = none ∧ (s.arg 0 0).toNat ≤ 256 ∧
    s.arg 0 3 &&& ~~~1#16 = 0#16 ∧ s.role (endpointOf 0 0#16) = .connected 3 8 [] 2 ∧ s.channel 3 = .opened terms ∧
    sendRefusal s 0 0#16 = none := by
  decide

theorem meets_SendOfLengthZeroCompletes :
    let s := withArgs joined 0 #v[0, 7, 0, 1, 9]
    let u := s.modPort 1 fun x => { x with state := .offline }
    (s.chipReset = false ∧ s.online 0 = true ∧ (s.port 0).sendUnit = none ∧ s.arg 0 0 = 0#16 ∧
      s.role (endpointOf 0 0#16) = .connected 3 8 [] 2 ∧ s.channel 3 = .opened terms ∧ sendRefusal s 0 0#16 = none ∧
      s.online (portOf (terms.receiver .callerToCallee)) = true) ∧
    (u.role (endpointOf 0 0#16) = .connected 3 8 [] 2 ∧ u.channel 3 = .opened terms ∧ sendRefusal u 0 0#16 = none ∧
      u.online (portOf (terms.receiver .callerToCallee)) = false) := by
  decide

theorem meets_FetchBeginsCopyOut :
    let u := delivered.setRecord 7 (.live { mail with length := 0, blocks := [] } none)
    (fetchRefusal delivered 1 0#16 = none ∧ (delivered.role (endpointOf 1 0#16)).queue = [7] ∧
      (delivered.record 7).message? = some mail ∧ 0 < mail.length) ∧
    (u.chipReset = false ∧ u.online 1 = true ∧ (u.port 1).fetchUnit = none ∧ (u.role (endpointOf 1 0#16)).canFetch = true ∧
      (u.role (endpointOf 1 0#16)).queue = [7] ∧ (u.record 7).message? = some { mail with length := 0, blocks := [] }) := by
  decide

/-- Channel 3 is DRAINING with one transfer in flight. -/
def withDraining (s : State) : State :=
  ((s.setChannel 3 (.draining { terms with transfers := 1 } { caller := true, callee := false } none)).setRole 0
    (.closing 3 8 [] 2)).setRole 8 (.closing 3 0 [] 2)

/-- With the end of that transfer nothing of the channel remains. -/
theorem withDraining_drained (d : Dirn) :
    (withDraining (fetching 1 false)).Drained (({ terms with transfers := 1 } : LiveChannel).ended d true)
      fun e => ((withDraining (fetching 1 false)).role e).queue := by
  cases d <;> (show _ = _ ∧ _ ∧ _; decide)

theorem meets_FetchCompletion :
    ((fetching 1 false).record 7 = .live mail none ∧ (fetching 1 false).online 1 = true ∧ mail.count ≤ 1 ∧
      mail.link = .channel 3 .callerToCallee ∧ (fetching 1 false).channel 3 = .opened { terms with transfers := 1 }) ∧
    (spread.record 7 = .live { letter (.group 2) 1 with blocks := [], length := 0, count := 2 } (some 0#32) ∧
      spread.online 1 = true) ∧
    (let u := (fetching 1 false).setChannel 3 (.aborting 0 8 { caller := false, callee := false } 1)
     u.record 7 = .live mail none ∧ u.channel 3 = .aborting 0 8 { caller := false, callee := false } 1) ∧
    (let v := withDraining (fetching 1 false)
     v.record 7 = .live mail none ∧ v.online 0 = true ∧ v.online 1 = true ∧
       v.channel 3 = .draining { terms with transfers := 1 } { caller := true, callee := false } none) := by
  decide

theorem meets_GroupsAreCreatedAndJoined :
    gathered.chipReset = false ∧ createRefusal gathered 0 0#16 = none ∧ policyRefusal gathered 0 1#16 = none ∧
    gathered.role (endpointOf 0 1#16) = .publisher 2 ∧ gathered.group 2 = .active circle ∧
    joinRefusal (withArgs gathered 1 #v[2, 8, 0, 0, 0]) 1 0#16 = none := by
  decide

theorem meets_CloseLeavesGroup :
    spread.chipReset = false ∧ spread.online 1 = true ∧ (spread.arg 1 0).toNat ≤ 1 ∧
    spread.role (endpointOf 1 1#16) = .member 2 [7] 2 ∧ spread.group 2 = .active circle ∧ [(7 : RecId)].Nodup ∧
    spread.online (portOf circle.publisher) = true := by
  decide

theorem meets_CloseDissolvesGroup :
    spread.chipReset = false ∧ spread.online 0 = true ∧ (spread.arg 0 0).toNat ≤ 1 ∧
    spread.role (endpointOf 0 1#16) = .publisher 2 ∧ spread.group 2 = .active circle ∧
    circle.publisher = endpointOf 0 1#16 ∧ endpointOf 0 1#16 ∉ circle.members ∧
    (circle.members.flatMap fun m => (spread.role m).queue) = [7, 7] := by
  decide

theorem meets_PublishAccepted :
    let s := withArgs gathered 0 #v[64, 7, 0, 1, 9]
    (gathered.chipReset = false ∧ gathered.online 0 = true ∧ (gathered.port 0).sendUnit = none ∧
      gathered.role (endpointOf 0 1#16) = .publisher 2 ∧ gathered.group 2 = .active circle ∧
      publishRefusal gathered 0 1#16 = none) ∧
    ((s.arg 0 0).toNat ≤ 256 ∧ s.arg 0 3 &&& ~~~1#16 = 0#16 ∧ publishRefusal s 0 1#16 = none) := by
  decide

theorem meets_FanOutReachesMembersWithRoom :
    let s := gathered.setRecord 7 (.filling (letter (.group 2) 1))
    let u := s.setGroup 2 .dissolving
    (s.record 7 = .filling (letter (.group 2) 1) ∧ (letter (.group 2) 1).count = 1 ∧ s.group 2 = .active circle ∧
      circle.members.Nodup ∧ s.online 0 = true ∧ s.online (portOf 9) = true ∧
      (s.role 9).queue.length < (s.role 9).depth) ∧
    ((letter (.group 2) 1).link = .group 2 ∧ u.record 7 = .filling (letter (.group 2) 1) ∧ u.group 2 = .dissolving ∧
      u.online 0 = true ∧ (letter (.group 2) 1).receiptRequested = true) := by
  decide

theorem meets_AckAndPopReceipt :
    let s := withArgs attentive 0 #v[1, 0, 0, 0, 0]
    s.chipReset = false ∧ ackRefusal s 0 0#16 = none ∧ ackRefusal (withArgs s 0 #v[0x7E00, 0, 0, 0, 0]) 0 8#16 = none ∧
    popReceiptRefusal ((s.reserveReceipt 0).handOff 0 (receiptOf mail .fetched)) 0 = none := by
  decide

theorem meets_NudgeSetsNudgerAndCondition : base.chipReset = false ∧ nudgeRefusal base 0 1#16 = none := by
  decide

theorem meets_SettingOfCondition : base.online 0 = true ∧ base.online 2 = false := by
  decide

theorem meets_NotificationSettingsAndLine :
    let s := withArgs attentive 0 #v[1023, 16, 0, 0, 0]
    s.chipReset = false ∧ notifySetRefusal s 0 0x7FFF#16 = none ∧ maskRefusal s 0 1#16 = none ∧
    ((after (.mask 0 0#16) (after (.holdoffExpiry 0) attentive)).lineActive 0 = true) := by
  decide

theorem meets_OnlineEntersService :
    (State.reset.modPort 1 up).chipReset = false ∧ onlineRefusal (State.reset.modPort 1 up) 0 = none ∧
    (State.reset.modPort 1 up).online 1 = true ∧ (State.reset.modPort 1 up).online 2 = false := by
  decide

theorem meets_CommandsThatResetPorts :
    base.chipReset = false ∧ offlineRefusal base 0 = none ∧ resetPortRefusal base 0 1#16 = none ∧
    disablePortRefusal base 0 1#16 = none ∧ ((leaving base).port 1).state = .resetting false allReports ∧
    disablePortRefusal (leaving base) 0 1#16 = none := by
  decide

theorem meets_EnablePortMakesOffline : base.chipReset = false ∧ enablePortRefusal base 0 3#16 = none := by
  decide

theorem meets_QuotaAndTimingAreWritten :
    let s := withArgs base 0 #v[128, 64, 0, 0, 0]
    s.chipReset = false ∧ setQuotaRefusal s 0 3#16 = none ∧ setTimingRefusal s 0 25#16 = none ∧
    setTimingRefusal (withArgs State.reset 0 #v[255, 0, 0, 0, 0]) 0 50#16 = none := by
  decide

theorem meets_ResetInputs :
    ((after .chipResetAssertion base).chipReset = true ∧ (Instr.listen 0 0#16).busWrite?.isSome = true) ∧
    base.chipReset = false ∧ (base.port 1).state = .online ∧ (base.port 2).state = .disabled := by
  decide

theorem meets_PortResetBeginsAndEnds :
    (base.chipReset = false ∧ (leaving base).chipReset = false ∧
      ∀ b ∈ [ShareBlock.memoryManager, .endpointTable, .channelController, .groupController, .receiptUnit, .attention],
        base.awaits 1 (.share b) = false ∧ (leaving base).awaits 1 (.share b) = true) ∧
    ((busy (leaving (sending 2 false)) 3).online (portOf mail.origin) = true ∧
      ((busy (sending 2 false) 3).modPort 0 fun x => { x with state := .resetting false allReports }).online
        (portOf mail.origin) = false) ∧
    (((leaving base).port 1).state = .resetting false allReports ∧ base.online 0 = true ∧ base.online 1 = true ∧
      (∃ x ∈ allReports, x ≠ .sendStopped) ∧ (∀ x ∈ [Report.sendStopped], x = .sendStopped)) ∧
    ((base.port 0).sendUnit = none ∧ (base.port 0).fetchUnit = none) ∧
    (((sending 2 false).port 0).sendUnit = some (copyIn 2 false) ∧ (sending 2 false).record 7 = .filling mail ∧
      mail.count = 1 ∧ (sending 2 false).arbiter.inProgress = some (sendRequester 0) ∧
      (busy (sending 2 false) 3).arbiter.inProgress ≠ some (sendRequester 0)) ∧
    (((fetching 2 false).port 1).fetchUnit = some (copyOut 2 false) ∧ (fetching 2 false).record 7 = .live mail none ∧
      (fetching 2 false).arbiter.inProgress = some (fetchRequester 1) ∧
      (busy (fetching 2 false) 0).arbiter.inProgress ≠ some (fetchRequester 1)) := by
  decide

theorem meets_StagingRegisters :
    base.chipReset = false ∧ (base.port 0).state.isResetting = false ∧ (base.port 0).staging.locked = false ∧
    (base.port 0).staging.pointer < 128 ∧ ((after (.stagePtr 0 128#16) base).port 0).staging.pointer = 128 ∧
    (base.port 2).state = .disabled := by
  decide

theorem meets_ReadBufferRegisters :
    readable.chipReset = false ∧ (readable.port 0).readBuffer.state = .full ∧ (readable.port 0).readBuffer.pointer = 0 ∧
    (base.port 0).readBuffer.state ≠ .full ∧ (base.port 2).state = .disabled := by
  decide

theorem meets_RegisterAccessesAndWindows :
    (base.chipReset = false ∧ (base.port 0).state.isResetting = false ∧ (7#16).toNat = (7 : EpIndex).val ∧
      (base.port 2).state = .disabled ∧ (0x7F#7).toNat ≤ 0x7F ∧ (base.port 0).state = .online ∧
      (State.reset.port 0).state = .offline) ∧
    (asked.role (globalOf 0 (asked.port 0).host.viewSel) = .calling 3 8 ∧
      asked.channel 3 = .requested 0 8 offer 1000#32 ∧ globalOf 0 (asked.port 0).host.viewSel = 0) ∧
    (asked.role (globalOf 1 (asked.port 1).host.viewSel) = .offered 3 0 .any offer ∧
      globalOf 1 (asked.port 1).host.viewSel ≠ 0) ∧
    (joined.role (globalOf 1 (joined.port 1).host.viewSel) = .connected 3 0 [] 2 ∧ joined.channel 3 = .opened terms) ∧
    (draining.role (globalOf 0 (draining.port 0).host.viewSel) = .closing 3 8 [] 2 ∧
      draining.channel 3 = .draining terms { caller := true, callee := false } (some 0#32)) ∧
    (let s := after (.viewSel 0 1#16) gathered
     s.role (globalOf 0 (s.port 0).host.viewSel) = .publisher 2 ∧ s.group 2 = .active circle) ∧
    (let s := after (.viewSel 1 2#16) gathered
     s.role (globalOf 1 (s.port 1).host.viewSel) = .member 2 [] 1 ∧ s.group 2 = .active circle) ∧
    base.role (globalOf 0 (base.port 0).host.viewSel) = .idle := by
  decide

theorem meets_MemoryFaultSpoilsOneBlock :
    (sending 2 false).chipReset = false ∧ Memory.wf (sending 2 false).memory = true ∧ (List.replicate 32 1#8).length = 32 := by
  decide

theorem meets_ArbiterRotates :
    let a : Arbiter := { waiting := #v[true, false, false, false, false, true, false, false], inProgress := none, pointer := 6 }
    (a.waiting[(0 : Requester)] = true ∧ a.waiting[(5 : Requester)] = true ∧ a.grant.inProgress = some 0 ∧
      (0 : Requester) = a.pointer + 2 ∧ ∀ j r : Requester, j < 2 → r = a.pointer + j → a.waiting[r] = false) ∧
    ((sending 2 false).arbiter.inProgress = some 0) ∧
    (Arbiter.reset.inProgress = none ∧ ∀ q : Requester, Arbiter.reset.waiting[q] = false) := by
  decide

theorem meets_CopyInWritesBlocks :
    (base.chipReset = false ∧ base.arbiter.inProgress = none) ∧
    ((sending 2 false).arbiter.inProgress = some (sendRequester 0) ∧
      ((sending 2 false).port 0).sendUnit = some (copyIn 2 false) ∧ (sending 2 false).record 7 = .filling mail ∧
      mail.blocks[(copyIn 2 false).next]? = some 4 ∧ Memory.wf (sending 2 false).memory = true) ∧
    (((sending 1 false).port 0).sendUnit = some (copyIn 1 false) ∧ (sending 1 false).record 7 = .filling mail ∧
      mail.blocks[(copyIn 1 false).next]? = some 9) := by
  decide

theorem meets_ChannelCopyInCompletion :
    let s := sending 1 false
    let u := s.modPort 1 fun x => { x with state := .offline }
    let v := s.setChannel 3 (.aborting 0 8 { caller := false, callee := false } 1)
    let w := withDraining u
    (s.record 7 = .filling mail ∧ mail.link = .channel 3 .callerToCallee ∧ mail.count = 1 ∧ s.online 0 = true ∧
      (s.channel 3).live? = some { terms with transfers := 1 } ∧ s.online (portOf (terms.receiver .callerToCallee)) = true) ∧
    (u.record 7 = .filling mail ∧ u.online 0 = true ∧ u.online (portOf (terms.receiver .callerToCallee)) = false) ∧
    (v.record 7 = .filling mail ∧ v.online 0 = true ∧ (v.channel 3).live? = none) ∧
    (w.record 7 = .filling mail ∧ w.online 0 = true ∧ w.online (portOf (terms.receiver .callerToCallee)) = false ∧
      w.channel 3 = .draining { terms with transfers := 1 } { caller := true, callee := false } none) := by
  decide

theorem meets_CopyOutReadsOneBlock :
    ((fetching 2 false).chipReset = false ∧ (fetching 2 false).arbiter.inProgress = some (fetchRequester 1) ∧
      ((fetching 2 false).port 1).fetchUnit = some (copyOut 2 false) ∧ (fetching 2 false).record 7 = .live mail none ∧
      mail.blocks[(copyOut 2 false).next]? = some 4 ∧ 1 < (copyOut 2 false).remaining) ∧
    (((fetching 1 false).port 1).fetchUnit = some (copyOut 1 false) ∧ mail.blocks[(copyOut 1 false).next]? = some 9 ∧
      (copyOut 1 false).remaining = 1) := by
  decide

theorem meets_CancelledTransferEnds :
    let s := (sending 1 true).setRecord 7 (.filling (letter (.group 2) 1))
    let u := s.setGroup 2 (.active circle)
    let v := s.setGroup 2 .dissolving
    let w := { fetching 1 true with badChecks := (fetching 1 true).badChecks.set 9 true }
    ((sending 1 true).chipReset = false ∧ (sending 1 true).arbiter.inProgress = some (sendRequester 0) ∧
      ((sending 1 true).port 0).sendUnit = some (copyIn 1 true) ∧ (sending 1 true).record 7 = .filling mail ∧
      mail.link = .channel 3 .callerToCallee ∧ (sending 1 true).channel 3 = .opened { terms with transfers := 1 } ∧
      Memory.wf (sending 1 true).memory = true ∧ mail.blocks[(copyIn 1 true).next]? = some 9) ∧
    (u.record 7 = .filling (letter (.group 2) 1) ∧ u.group 2 = .active circle) ∧
    (v.record 7 = .filling (letter (.group 2) 1) ∧ v.group 2 = .dissolving) ∧
    ((fetching 1 true).arbiter.inProgress = some (fetchRequester 1) ∧
      ((fetching 1 true).port 1).fetchUnit = some (copyOut 1 true) ∧ (fetching 1 true).record 7 = .live mail none) ∧
    (w.badChecks[(9 : BlockId)] = true ∧ (w.port 1).fetchUnit = some (copyOut 1 true) ∧ w.record 7 = .live mail none) ∧
    ((withDraining (fetching 1 true)).record 7 = .live mail none ∧
      ((withDraining (fetching 1 true)).port 1).fetchUnit = some (copyOut 1 true)) := by
  decide

theorem meets_EffectiveLifetime :
    effectiveLifetime true 10 10 = 10 ∧ effectiveLifetime true 10 11 = 10 ∧ effectiveLifetime true 10 0 = 10 ∧
    effectiveLifetime true 0 11 = 11 ∧ effectiveLifetime false 10 11 = 0 := by
  decide

theorem meets_ReceiptHandOff :
    ((base.reserveReceipt 0).online 0 = true ∧ 0 < ((base.reserveReceipt 0).port 0).receipts.reserved ∧
      base.online 2 = false ∧ (base.port 0).receipts.reserved = 0 ∧ mail.link = .channel 3 .callerToCallee ∧
      (letter (.group 2) 1).link = .group 2) ∧
    ((delivered.record 7).message? = some mail ∧ mail.count = 1 ∧ mail.receiptRequested = true ∧ portOf mail.origin = 0) ∧
    ((spread.record 7).message? = some { letter (.group 2) 1 with blocks := [], length := 0, count := 2 } ∧ 1 < 2) ∧
    (delivered.discardReceipts ([8].flatMap fun e => (delivered.role e).queue) 0 ≠ []) := by
  decide

theorem meets_DeadlinesExpire :
    let s : State := { asked with now := 1000#32 }
    let u := s.modPort 1 fun x => { x with state := .offline }
    (s.chipReset = false ∧ s.channel 3 = .requested 0 8 offer 1000#32 ∧ reached s.now 1000#32 = true ∧
      s.online (portOf 8) = true) ∧
    (u.channel 3 = .requested 0 8 offer 1000#32 ∧ u.online (portOf 8) = false) ∧
    (asked.channel 3 = .requested 0 8 offer 1000#32 ∧ reached asked.now 1000#32 = false) ∧
    (draining.channel 3 = .draining terms { caller := true, callee := false } (some 0#32) ∧
      reached draining.now 0#32 = true) ∧
    ((attentive.port 0).notification.state = .gathering ∧ (attentive.port 0).notification.deadline = some 0#32 ∧
      reached attentive.now 0#32 = true) ∧
    (base.port 0).notification.state ≠ .gathering := by
  decide

theorem meets_LifetimeExpiryRemovesEntries :
    (delivered.chipReset = false ∧ delivered.record 7 = .live mail (some 0#32) ∧ reached delivered.now 0#32 = true ∧
      (delivered.role 8).queue.contains 7 = true ∧ delivered.channel 3 = .opened terms ∧
      mail.link = .channel 3 .callerToCallee) ∧
    (spread.record 7 = .live { letter (.group 2) 1 with blocks := [], length := 0, count := 2 } (some 0#32) ∧
      ((List.finRange 32).filter fun e => (spread.role e).queue.contains 7).length = 2) ∧
    ((fetching 1 false).setRecord 7 (.live mail (some 0#32))).record 7 = .live mail (some 0#32) ∧
    (let s := (draining.setRecord 7 (.live mail (some 0#32))).setRole 8 (.closing 3 0 [7] 2)
     s.record 7 = .live mail (some 0#32) ∧ (s.role 8).queue.contains 7 = true ∧ s.online 0 = true ∧ s.online 1 = true ∧
       (s.role 8).queue.filter (· ≠ 7) = [] ∧ terms.transfers = 0 ∧
       s.channel 3 = .draining terms { caller := true, callee := false } (some 0#32)) := by
  decide

theorem meets_UnitAndEndpointResetShares :
    ((leaving delivered).chipReset = false ∧
      (∀ b ∈ [ShareBlock.memoryManager, .receiptUnit, .attention, .endpointTable],
        (leaving delivered).awaits 1 (.share b) = true ∧ base.awaits 1 (.share b) = false) ∧
      ((leaving delivered).role (globalOf 1 0)).queue = [7] ∧ ((leaving delivered).record 7).message? = some mail) ∧
    ((List.finRange 8).flatMap fun e => ((leaving spread).role (globalOf 1 e)).queue) = [7, 7] ∧
    (leaving spread).record 7 =
      .live { letter (.group 2) 1 with blocks := [], length := 0, count := 2 } (some 0#32) := by
  decide

/-- In these states channel 3 alone is in use. -/
theorem endOfOne (s : State) (p : Port) (e : EpId) (h : ∀ c, c ≠ 3 → s.channel c = .free)
    (h1 : s.EndConcerned p 3 e) : s.EndOfOne p 3 e := by
  refine ⟨h1, fun k hk => ?_⟩
  by_contra hc
  have h2 := hk.1
  rw [h k hc] at h2
  exact h2

theorem ends_of_joined :
    (leaving asked).EndOfOne 1 3 0 ∧ ((leaving asked).modPort 0 fun x => { x with state := .offline }).EndConcerned 1 3 0 ∧
    (leaving joined).EndOfOne 1 3 0 ∧ (leaving delivered).EndOfOne 1 3 8 ∧
    (asked.modPort 0 fun x => { x with state := .resetting false allReports }).EndOfOne 0 3 8 :=
  ⟨endOfOne _ _ _ (by decide) ⟨Or.inr rfl, by decide⟩, ⟨Or.inr rfl, by decide⟩,
    endOfOne _ _ _ (by decide) ⟨Or.inr rfl, by decide⟩, endOfOne _ _ _ (by decide) ⟨Or.inr rfl, by decide⟩,
    endOfOne _ _ _ (by decide) ⟨Or.inl rfl, by decide⟩⟩

/-- A coherent state in which P1 has a message in a queue and no share of its reset is taken. -/
theorem coherent_shares :
    (settled true).Coherent ∧ (settled true).chipReset = false ∧ (settled true).awaits 1 (.share .channelController) = true ∧
    (settled true).awaits 1 (.share .groupController) = true ∧ (settled true).tornEntries 1 = [7] :=
  ⟨settled_coherent true, by decide⟩

theorem meets_LinkResetShares :
    ((leaving gathered).chipReset = false ∧
      (∀ b ∈ [ShareBlock.channelController, .groupController],
        (leaving gathered).awaits 1 (.share b) = true ∧ base.awaits 1 (.share b) = false)) ∧
    ((leaving asked).channel 3 = .requested 0 8 offer 1000#32 ∧ (leaving asked).online (portOf 0) = true) ∧
    (let s := asked.modPort 0 fun x => { x with state := .resetting false allReports }
     s.channel 3 = .requested 0 8 offer 1000#32 ∧ s.online (portOf 8) = true ∧ s.role 8 = .offered 3 0 .any offer ∧
       s.awaits 0 (.share .channelController) = true) ∧
    (((leaving asked).modPort 0 fun x => { x with state := .offline }).online (portOf 0) = false) ∧
    (((leaving joined).channel 3).live? = some terms ∧ (leaving joined).online (portOf 0) = true ∧
      (leaving (withDraining joined)).channel 3 =
        .draining { terms with transfers := 1 } { caller := true, callee := false } none) ∧
    (((leaving delivered).channel 3).live? = some terms ∧ 7 ∈ ((leaving delivered).role 8).queue ∧
      ((leaving delivered).record 7).message? = some mail ∧ mail.count ≤ 1) ∧
    ((leaving gathered).group 2 = .active circle ∧ portOf circle.publisher ≠ 1 ∧ (∃ m ∈ circle.members, portOf m = 1) ∧
      (leaving gathered).online (portOf circle.publisher) = true) ∧
    (let s := spread.modPort 0 fun x => { x with state := .resetting false allReports }
     s.group 2 = .active circle ∧ portOf circle.publisher = 0 ∧ s.awaits 0 (.share .groupController) = true ∧
       (∀ m ∈ circle.members, s.online (portOf m) = true) ∧ s.leavingGroups 0 = [1, 9, 10] ∧ circle.members.Nodup ∧
       (s.role circle.publisher).queue = [] ∧ ((s.leavingGroups 0).flatMap fun e => (s.role e).queue) = [7, 7] ∧
       s.record 7 = .live { letter (.group 2) 1 with blocks := [], length := 0, count := 2 } (some 0#32)) := by
  decide

end Sys2Proof.Tests
end

section
/-! What a step can do, said once: every command's effect is a chain of small moves of the state. A law that each
small move keeps is kept by every step. -/

namespace Sys2Proof.Machine

/-! ## The small moves -/

/-- A port record keeps its state, receipts and account, its two pointers stay in range, and out of service it stays
without a condition. -/
def PortRec.Steady (x y : PortRec) : Prop :=
  y.state = x.state ∧ y.receipts = x.receipts ∧ y.account = x.account ∧
  (x.staging.pointer ≤ 128 → y.staging.pointer ≤ 128) ∧ (x.readBuffer.pointer ≤ 128 → y.readBuffer.pointer ≤ 128) ∧
  (x.state ≠ .online → x.Unattended → y.Unattended)

/-- The endpoint in its reset form but for its role. -/
def Endpoint.Blank (x : Endpoint) : Prop :=
  { x with role := .idle } = Endpoint.reset

/-- What a report of the Endpoint Table or of the Attention Unit says: the endpoints, or the conditions, are reset. -/
def State.Rested (s : State) (p : Port) (r : Report) : Prop :=
  (r = .share .endpointTable → ∀ e, portOf e = p → (s.endpoint e).Blank) ∧
  (r = .share .attention → (s.port p).Unattended)

/-- What a host reads back of its commands: arguments, RESULT and RESULT_VALUE. -/
def PortRec.desk (x : PortRec) : Vector Word 5 × ResultCode × Word :=
  (x.host.args, x.host.result, x.host.resultValue)

/-- What a message keeps from its acceptance to its release. -/
def Message.fixed (m : Message) : EpId × List BlockId × Nat × Bool :=
  (m.origin, m.blocks, m.length, m.receiptRequested)

/-- What a record keeps from its allocation to its release; nothing when it is FREE. -/
def State.held (s : State) (r : RecId) : Option (EpId × List BlockId × Nat × Bool) :=
  (s.record r).message?.map Message.fixed

/-- A configuration in the ranges of R160. -/
def DeviceConfig.InRange (c : DeviceConfig) : Prop :=
  8 ≤ c.divider ∧ c.divider ≤ 50 ∧ 1 ≤ c.openTimeout ∧ c.openTimeout ≤ 255 ∧ c.drainLimit ≤ 65535 ∧
  c.maxLifetime ≤ 65535

/-- The state after an allocation of record r to m at port p, with the reservation m asks for (R8, R95). -/
def State.takeIn (s : State) (p : Port) (r : RecId) (m : Message) : State :=
  if m.receiptRequested then (s.allocate r m).reserveReceipt p else s.allocate r m

/-- The guards under which a record is allocated (R8, R61, R94): the port ONLINE, the record and its blocks free, the
blocks those of the length, and a place for the receipt. -/
structure State.CanTakeIn (s : State) (p : Port) (r : RecId) (m : Message) : Prop where
  online : s.online p = true
  origin : portOf m.origin = p
  record : s.record r = .free
  places : ∀ b ∈ m.blocks, s.blockPlaces[b] = .free
  nodup : m.blocks.Nodup
  length : m.length ≤ 256
  blocks : m.blocks.length = (m.length + 31) / 32
  space : m.receiptRequested = true → (s.port p).receipts.queue.length + (s.port p).receipts.reserved < 16

/-- One small change of the state. -/
inductive Move : State → State → Prop
  | port (s : State) (p : Port) (f : PortRec → PortRec) (h : (s.port p).Steady (f (s.port p)))
      (hd : (f (s.port p)).desk = (s.port p).desk) : Move s (s.modPort p f)
  | endpoint (s : State) (e : EpId) (f : Endpoint → Endpoint)
      (h : s.LinkLaw → (f (s.endpoint e)).role.depth ≤ 8)
      (hb : s.online (portOf e) = false → (s.endpoint e).Blank → (f (s.endpoint e)).Blank) : Move s (s.modEndpoint e f)
  | channel (s : State) (c : ChanId) (x : Channel) (h : s.LinkLaw → x.InRange) : Move s (s.setChannel c x)
  | group (s : State) (g : GroupId) (x : Group) (h : s.LinkLaw → x.InRange) : Move s (s.setGroup g x)
  | arbiter (s : State) (a : Arbiter) : Move s { s with arbiter := a }
  | store (s : State) (m : List Host.Cell) (b : Vector Bool 128) (h : s.MemoryLaw → Memory.wf m = true) :
      Move s { s with memory := m, badChecks := b }
  | clock (s : State) (now : Time) (n : Nat) (reset : Bool) (l : List Instr) (h : s.RangeLaw → 1 ≤ n ∧ n ≤ 50) :
      Move s { s with now := now, periodsLeft := n, chipReset := reset, pending := l }
  | config (s : State) (c : DeviceConfig) (h : c.InRange) : Move s { s with config := c }
  | record (s : State) (r : RecId) (x : MsgRecord) (h : x.message?.map Message.fixed = s.held r) :
      Move s (s.setRecord r x)
  | release (s : State) (r : RecId) (m : Message) (c : Cause) (h : s.held r = some m.fixed) : Move s (s.release r m c)
  | takeIn (s : State) (p : Port) (r : RecId) (m : Message) (h : s.CanTakeIn p r m) : Move s (s.takeIn p r m)
  | popReceipt (s : State) (p : Port) (h : s.online p = true) :
      Move s (s.modPort p fun x => { x with receipts := { x.receipts with queue := x.receipts.queue.tail } })
  | quota (s : State) (p : Port) (b r : Nat) (hb : b ≤ 128) (hr : r ≤ 64) :
      Move s (s.modPort p fun x => { x with account := { x.account with blockQuota := b, recordQuota := r } })
  | report (s : State) (p : Port) (r : Report) (h : r ≠ .share .memoryManager) (h' : r ≠ .share .receiptUnit)
      (hr : s.Rested p r) : Move s (s.report p r)
  | memoryManager (s : State) (p : Port) (h : s.awaits p (.share .memoryManager) = true) :
      Move s ((s.memoryManagerShare p).report p (.share .memoryManager))
  | receiptUnit (s : State) (p : Port) (h : s.awaits p (.share .receiptUnit) = true) :
      Move s ((s.receiptUnitShare p).report p (.share .receiptUnit))
  | enter (s : State) (p : Port) (d : Bool) :
      Move s (s.modPort p fun x => { x with state := .resetting d allReports })
  | pendDisable (s : State) (p : Port) : Move s (s.modPort p fun x => { x with state := x.state.pendDisable })
  | online (s : State) (p : Port) (h : (s.port p).state = .offline) :
      Move s (s.modPort p fun x => { x with state := .online })
  | enable (s : State) (p : Port) (h : (s.port p).state = .disabled) :
      Move s (s.modPort p fun x => { x with state := .offline })

/-- A chain of small changes. -/
abbrev Moves : State → State → Prop :=
  Relation.ReflTransGen Move

theorem Moves.refl (s : State) : Moves s s := Relation.ReflTransGen.refl

/-- What every small move keeps, every chain keeps. -/
theorem Moves.keep {P : State → Prop} (h : ∀ s t, Move s t → P s → P t) {s t : State} (hm : Moves s t) (hs : P s) :
    P t := by
  induction hm with
  | refl => exact hs
  | tail _ hm ih => exact h _ _ hm ih

/-- A chain, read from its end. -/
theorem Moves.after {s t u : State} (h : Moves t u) (h' : Moves s t) : Moves s u := h'.trans h

theorem Moves.fold {α : Type} (f : State → α → State) (h : ∀ s a, Moves s (f s a)) (l : List α) :
    ∀ s, Moves s (l.foldl f s) := by
  induction l with
  | nil => exact Moves.refl
  | cons a l ih => exact fun s => (h s a).trans (ih _)

/-! ## The operations of the state (conditions, endpoints, arbiter) -/

theorem Move.one {s t : State} (h : Move s t) : Moves s t := Relation.ReflTransGen.single h

theorem modPort_moves (s : State) (p : Port) (f : PortRec → PortRec) (h : (s.port p).Steady (f (s.port p)))
    (hd : (f (s.port p)).desk = (s.port p).desk) : Moves s (s.modPort p f) :=
  (Move.port s p f h hd).one

/-- A change of a port outside its state, receipts, account, buffers and host registers. -/
theorem Steady.of_eq {x y : PortRec} (h1 : y.state = x.state) (h2 : y.receipts = x.receipts)
    (h3 : y.account = x.account) (h4 : y.staging.pointer = x.staging.pointer ∨ y.staging.pointer = 0)
    (h5 : y.readBuffer.pointer = x.readBuffer.pointer ∨ y.readBuffer.pointer = 0)
    (h6 : x.state ≠ .online → x.Unattended → y.Unattended) : x.Steady y :=
  ⟨h1, h2, h3, fun h => by omega, fun h => by omega, h6⟩

/-- The change touches neither the state nor what the laws of a port read. -/
theorem modPort_moves_of_eq (s : State) (p : Port) (f : PortRec → PortRec)
    (h : ∀ x, (f x).state = x.state ∧ (f x).receipts = x.receipts ∧ (f x).account = x.account ∧ (f x).desk = x.desk ∧
      ((f x).staging.pointer = x.staging.pointer ∨ (f x).staging.pointer = 0) ∧
      ((f x).readBuffer.pointer = x.readBuffer.pointer ∨ (f x).readBuffer.pointer = 0))
    (hu : (s.port p).state ≠ .online → (s.port p).Unattended → (f (s.port p)).Unattended := by exact fun _ h => h) :
    Moves s (s.modPort p f) := by
  obtain ⟨h1, h2, h3, hd, h4, h5⟩ := h (s.port p)
  exact modPort_moves s p f (Steady.of_eq h1 h2 h3 h4 h5 hu) hd

/-- Nothing is taken from a unit without conditions. -/
theorem PortRec.Unattended.remove {x : PortRec} (h : x.Unattended) (it : Item) (conds : CondSet) :
    PortRec.Unattended { x with attention := x.attention.remove it conds } := by
  obtain ⟨ha, hn⟩ := h
  refine ⟨?_, hn⟩
  show x.attention.remove it conds = _
  rw [ha]
  have hsets : (Vector.replicate 9 0#16).set it.val 0#16 it.isLt = Vector.replicate 9 0#16 := by
    refine Vector.ext fun i hi => ?_
    rw [Vector.getElem_set]
    split <;> simp
  simp [Attention.remove, hsets]

theorem PortRec.Unattended.reevaluate {x : PortRec} (h : x.Unattended) :
    PortRec.Unattended { x with notification := x.notification.reevaluate x.attention } := by
  obtain ⟨ha, -, hm, -, -⟩ := h
  have hq : x.notification.reevaluate x.attention = x.notification.quieten := by
    rw [ha]
    rfl
  refine ⟨ha, ?_⟩
  show (x.notification.reevaluate x.attention).state = _ ∧ _
  rw [hq]
  exact ⟨rfl, hm, rfl, rfl⟩

theorem state_of_online {s : State} {p : Port} (h : s.online p = true) : (s.port p).state = .online :=
  of_decide_eq_true h

theorem setCond_moves (s : State) (p : Port) (it : Item) (c : Cond) : Moves s (s.setCond p it c) := by
  unfold State.setCond
  split
  · next ho =>
    exact modPort_moves_of_eq s p _ (fun _ => ⟨rfl, rfl, rfl, rfl, .inl rfl, .inl rfl⟩)
      fun hx => absurd (state_of_online ho) hx
  · exact Moves.refl s

theorem setEndpointCond_moves (s : State) (e : EpId) (c : Cond) : Moves s (s.setEndpointCond e c) :=
  setCond_moves ..

theorem setPortCond_moves (s : State) (p : Port) (c : Cond) : Moves s (s.setPortCond p c) :=
  setCond_moves ..

theorem removeConds_moves (s : State) (p : Port) (it : Item) (x : CondSet) : Moves s (s.removeConds p it x) :=
  modPort_moves_of_eq s p _ (fun _ => ⟨rfl, rfl, rfl, rfl, .inl rfl, .inl rfl⟩) fun _ h => h.remove it x

theorem reevaluate_moves (s : State) (p : Port) : Moves s (s.reevaluate p) :=
  modPort_moves_of_eq s p _ (fun _ => ⟨rfl, rfl, rfl, rfl, .inl rfl, .inl rfl⟩) fun _ h => h.reevaluate

theorem reevaluateAll_moves (s : State) : Moves s s.reevaluateAll :=
  Moves.fold _ reevaluate_moves _ s

theorem tellPeers_moves (s : State) (p : Port) : Moves s (s.tellPeers p) :=
  Moves.fold _ (fun t q => setPortCond_moves t q .peerState) _ s

theorem modEndpoint_moves (s : State) (e : EpId) (f : Endpoint → Endpoint)
    (h : s.LinkLaw → (f (s.endpoint e)).role.depth ≤ 8)
    (hb : s.online (portOf e) = false → (s.endpoint e).Blank → (f (s.endpoint e)).Blank := by exact fun _ h => h) :
    Moves s (s.modEndpoint e f) :=
  (Move.endpoint s e f h hb).one

/-- A change of an endpoint that does not raise its depth. -/
theorem modEndpoint_moves_of_depth (s : State) (e : EpId) (f : Endpoint → Endpoint)
    (h : ∀ x, (f x).role.depth = x.role.depth ∨ (f x).role.depth = 0)
    (hb : s.online (portOf e) = false → (s.endpoint e).Blank → (f (s.endpoint e)).Blank := by exact fun _ h => h) :
    Moves s (s.modEndpoint e f) := by
  refine modEndpoint_moves s e f (fun hl => ?_) hb
  have hd : (s.endpoint e).role.depth ≤ 8 := hl.1 e
  rcases h (s.endpoint e) with h | h <;> omega

theorem setRole_moves (s : State) (e : EpId) (r : Role) (h : s.LinkLaw → r.depth ≤ 8) : Moves s (s.setRole e r) :=
  modEndpoint_moves s e _ h

theorem setRole_idle_moves (s : State) (e : EpId) : Moves s (s.setRole e .idle) :=
  setRole_moves s e _ fun _ => Nat.zero_le 8

@[simp] theorem depth_withQueue (r : Role) (q : List RecId) : (r.withQueue q).depth = r.depth := by
  cases r <;> rfl

@[simp] theorem depth_startClosing (r : Role) : r.startClosing.depth = r.depth := by
  cases r <;> rfl

@[simp] theorem depth_backToListening (r : Role) : r.backToListening.depth = r.depth := by
  cases r <;> rfl

@[simp] theorem depth_takeOffer (r : Role) (c : ChanId) (a : EpId) (o : Offer) : (r.takeOffer c a o).depth = r.depth := by
  cases r <;> rfl

theorem emptyQueue_moves (s : State) (e : EpId) : Moves s (s.emptyQueue e) :=
  modEndpoint_moves_of_depth s e _ fun _ => .inl (depth_withQueue ..)

theorem append_moves (s : State) (e : EpId) (r : RecId) : Moves s (s.append e r) :=
  (modEndpoint_moves_of_depth s e _ fun _ => .inl (depth_withQueue ..)).trans (setEndpointCond_moves ..)

theorem placeRequest_moves (s : State) (q : Requester) : Moves s (s.placeRequest q) := (Move.arbiter ..).one

theorem dropRequest_moves (s : State) (q : Requester) : Moves s (s.dropRequest q) := (Move.arbiter ..).one

theorem grant_moves (s : State) : Moves s s.grant := (Move.arbiter ..).one

theorem report_moves (s : State) (p : Port) (r : Report) (h : r ≠ .share .memoryManager)
    (h' : r ≠ .share .receiptUnit) (hr : s.Rested p r) : Moves s (s.report p r) :=
  (Move.report s p r h h' hr).one

/-- The reports of the other blocks and of the transfer units say nothing of endpoints and conditions. -/
theorem rested_of_ne (s : State) (p : Port) {r : Report} (h : r ≠ .share .endpointTable) (h' : r ≠ .share .attention) :
    s.Rested p r :=
  ⟨fun e => absurd e h, fun e => absurd e h'⟩

/-! ## Records -/

theorem setRecord_moves (s : State) (r : RecId) (x : MsgRecord) (h : x.message?.map Message.fixed = s.held r) :
    Moves s (s.setRecord r x) :=
  (Move.record s r x h).one

@[simp] theorem message?_mapMessage (x : MsgRecord) (f : Message → Message) :
    (x.mapMessage f).message? = x.message?.map f := by
  cases x <;> rfl

/-- A change of a message that leaves what it keeps from its acceptance on. -/
theorem modMessage_moves (s : State) (r : RecId) (f : Message → Message) (h : ∀ m, (f m).fixed = m.fixed) :
    Moves s (s.modMessage r f) := by
  refine setRecord_moves s r _ ?_
  rw [message?_mapMessage, Option.map_map]
  exact congrFun (congrArg _ (funext h)) _

/-- What a claim does: nothing to a FREE record, a lower count while a holder is left, else the release. -/
theorem claim_cases (s : State) (r : RecId) (n : Nat) (k : Option TallyKind) (c : Cause) :
    ((s.record r).message? = none ∧ s.claim r n k c = s) ∨
      ∃ m, (s.record r).message? = some m ∧
        (n < m.count ∧ s.claim r n k c = s.modMessage r (fun _ => m.afterClaim n k) ∨
          m.count ≤ n ∧ s.claim r n k c = s.release r (m.afterClaim n k) c) := by
  cases h : (s.record r).message? with
  | none => exact .inl ⟨rfl, claim_of_free s n k c h⟩
  | some m =>
    refine .inr ⟨m, rfl, ?_⟩
    have hc : s.claim r n k c = if m.count - n = 0 then s.release r (m.afterClaim n k) c
        else s.modMessage r fun _ => m.afterClaim n k := by
      unfold State.claim
      rw [h]
      rfl
    rcases Nat.lt_or_ge n m.count with hn | hn
    · exact .inl ⟨hn, by rw [hc, if_neg (by omega)]⟩
    · exact .inr ⟨hn, by rw [hc, if_pos (by omega)]⟩

@[simp] theorem fixed_afterClaim (m : Message) (n : Nat) (k : Option TallyKind) : (m.afterClaim n k).fixed = m.fixed :=
  rfl

theorem claim_moves (s : State) (r : RecId) (n : Nat) (k : Option TallyKind) (c : Cause) :
    Moves s (s.claim r n k c) := by
  rcases claim_cases s r n k c with ⟨-, h⟩ | ⟨m, hm, ⟨-, h⟩ | ⟨-, h⟩⟩
  · rw [h]
  · rw [h]
    exact setRecord_moves s r _ (by rw [message?_mapMessage, State.held, hm]; rfl)
  · rw [h]
    exact (Move.release s r _ c (by rw [State.held, hm]; rfl)).one

theorem badMark_moves (s : State) (r : RecId) (b : BlockId) : Moves s (s.badMark r b) :=
  modMessage_moves s r _ fun _ => rfl

theorem bulkDiscard_moves (s : State) (l : List EpId) : Moves s (s.bulkDiscard l) :=
  (Moves.fold _ emptyQueue_moves l s).trans (Moves.fold _ (fun t r => claim_moves t r _ _ _) _ _)

theorem makeLive_moves (s : State) (r : RecId) (d life : Nat) : Moves s (s.makeLive r d life) := by
  unfold State.makeLive
  split
  · exact Moves.refl s
  · next m h => exact setRecord_moves s r _ (by rw [State.held, h]; rfl)

/-! ## Channels -/

theorem setChannel_moves (s : State) (c : ChanId) (x : Channel) (h : s.LinkLaw → x.InRange) :
    Moves s (s.setChannel c x) :=
  (Move.channel s c x h).one

theorem setChannel_free_moves (s : State) (c : ChanId) : Moves s (s.setChannel c .free) :=
  setChannel_moves s c .free fun _ => trivial

theorem Channel.inRange_mapLive {x : Channel} {f : LiveChannel → LiveChannel} (h : ∀ l, l.InRange → (f l).InRange)
    (hx : x.InRange) : (x.mapLive f).InRange := by
  cases x with
  | opened l => exact h l hx
  | draining l cl d => exact h l hx
  | free => exact hx
  | requested a b o d => exact hx
  | aborting a b cl k => exact hx

theorem modLive_moves (s : State) (c : ChanId) (f : LiveChannel → LiveChannel) (h : ∀ l, l.InRange → (f l).InRange) :
    Moves s (s.modLive c f) :=
  setChannel_moves s c _ fun hl => Channel.inRange_mapLive h (hl.2.1 c)

/-- A change of a direction that keeps its window keeps the ranges. -/
theorem LiveChannel.inRange_modDirection {l : LiveChannel} (d : Dirn) {f : Direction → Direction}
    (h : ∀ x, (f x).window = x.window) (hl : l.InRange) : (l.modDirection d f).InRange := by
  obtain ⟨h1, h2, h3, h4, h5, h6⟩ := hl
  cases d
  · exact ⟨h1, h2, (h _).symm ▸ h3, (h _).symm ▸ h4, h5, h6⟩
  · exact ⟨h1, h2, h3, h4, (h _).symm ▸ h5, (h _).symm ▸ h6⟩

theorem returnCredit_moves (s : State) (c : ChanId) (d : Dirn) : Moves s (s.returnCredit c d) :=
  modLive_moves s c _ fun _ h => LiveChannel.inRange_modDirection d (fun _ => rfl) h

theorem beginTransfer_moves (s : State) (c : ChanId) : Moves s (s.beginTransfer c) :=
  modLive_moves s c _ fun _ h => h

theorem Channel.inRange_endTransfer {x : Channel} (h : x.InRange) : x.endTransfer.InRange := by
  cases x with
  | aborting a b cl k =>
    show Channel.InRange (if k ≤ 1 then .free else .aborting a b cl (k - 1))
    split
    · trivial
    · exact h
  | opened l => exact h
  | draining l cl d => exact h
  | free => exact h
  | requested a b o d => exact h

theorem endTransfer_moves (s : State) (c : ChanId) : Moves s (s.endTransfer c) :=
  setChannel_moves s c _ fun hl => Channel.inRange_endTransfer (hl.2.1 c)

theorem closeAt_moves (s : State) (e : EpId) (o : CloseOutcome) (n : Nat) : Moves s (s.closeAt e o n) := by
  unfold State.closeAt
  split
  · next ho =>
    exact Moves.after (setEndpointCond_moves ..) (modEndpoint_moves_of_depth s e _ (fun _ => .inl rfl)
      fun hx => absurd (ho.symm.trans hx) (by decide))
  · exact Moves.refl s

theorem drainTest_moves (s : State) (c : ChanId) : Moves s (s.drainTest c) := by
  unfold State.drainTest
  split
  · split
    · exact Moves.after (closeAt_moves ..) <| Moves.after (closeAt_moves ..) <| Moves.after (setRole_idle_moves ..) <|
        Moves.after (setRole_idle_moves ..) (setChannel_free_moves s c)
    · exact Moves.refl s
  all_goals exact Moves.refl s

theorem endMessageTransfer_moves (s : State) (c : ChanId) (d : Dirn) (b : Bool) :
    Moves s (s.endMessageTransfer c d b) := by
  refine Moves.after (drainTest_moves _ c) ?_
  cases b
  · exact returnCredit_moves s c d
  · exact Moves.after (endTransfer_moves ..) (returnCredit_moves s c d)

/-- The ends of the channel that a teardown takes are those its record names. -/
theorem teardownLive_moves (s : State) (c : ChanId) (l : LiveChannel) (cl : Closers) (o o' : CloseOutcome)
    (h : (s.channel c).InRange → l.caller ≠ l.callee) : Moves s (s.teardownLive c l cl o o') := by
  refine Moves.after (setChannel_moves _ c _ fun hl => ?_) <| Moves.after (closeAt_moves ..) <|
    Moves.after (closeAt_moves ..) <| Moves.after (setRole_idle_moves ..) <| Moves.after (setRole_idle_moves ..) <|
    bulkDiscard_moves s [l.caller, l.callee]
  have hc := hl.2.1 c
  rw [channel_congr (s := s) (by simp)] at hc
  unfold Channel.tornDown
  split
  · trivial
  · exact h hc

theorem teardown_moves (s : State) (c : ChanId) (o o' : CloseOutcome) : Moves s (s.teardown c o o') := by
  unfold State.teardown
  split
  · next l h => exact teardownLive_moves s c l _ o o' fun hc => by rw [h] at hc; exact hc.1
  · next l cl d h => exact teardownLive_moves s c l _ o o' fun hc => by rw [h] at hc; exact hc.1
  all_goals exact Moves.refl s

theorem failCaller_moves (s : State) (a : EpId) (o : OpenOutcome) : Moves s (s.failCaller a o) := by
  unfold State.failCaller
  dsimp only
  split
  · next ho =>
    refine Moves.after (setEndpointCond_moves ..) <| Moves.after (modEndpoint_moves_of_depth _ a _ (fun _ => .inl rfl)
      fun hx => ?_) (setRole_idle_moves s a)
    rw [online_of_cores (setRole_cores ..)] at hx
    exact absurd (ho.symm.trans hx) (by decide)
  · exact setRole_idle_moves s a

theorem withdrawCallee_moves (s : State) (b : EpId) (o : WithdrawOutcome) : Moves s (s.withdrawCallee b o) := by
  unfold State.withdrawCallee
  split
  · next ho =>
    exact Moves.after (removeConds_moves ..) <| Moves.after (setEndpointCond_moves ..)
      (modEndpoint_moves_of_depth s b _ (fun _ => .inl (depth_backToListening _))
        fun hx => absurd (ho.symm.trans hx) (by decide))
  · exact setRole_idle_moves s b

/-! ## Groups -/

theorem setGroup_moves (s : State) (g : GroupId) (x : Group) (h : s.LinkLaw → x.InRange) : Moves s (s.setGroup g x) :=
  (Move.group s g x h).one

/-- The ranges of an ACTIVE group. -/
def ActiveGroup.InRange (x : ActiveGroup) : Prop :=
  x.members.length ≤ 12 ∧ x.maxLength ≤ 256

theorem modActive_moves (s : State) (g : GroupId) (f : ActiveGroup → ActiveGroup) (h : ∀ x, x.InRange → (f x).InRange) :
    Moves s (s.modActive g f) := by
  unfold State.modActive
  split
  · next x hx =>
    refine setGroup_moves s g _ fun hl => h x ?_
    have hg := hl.2.2 g
    rwa [hx] at hg
  all_goals exact Moves.refl s

theorem endGroupCopy_moves (s : State) (g : GroupId) : Moves s (s.endGroupCopy g) := by
  unfold State.endGroupCopy
  split
  · next x hx =>
    refine setGroup_moves s g _ fun hl => ?_
    have hg := hl.2.2 g
    rwa [hx] at hg
  · exact setGroup_moves s g _ fun _ => trivial
  · exact Moves.refl s

theorem dissolve_moves (s : State) (g : GroupId) (x : ActiveGroup) : Moves s (s.dissolve g x) := by
  refine Moves.after (setGroup_moves _ g _ fun _ => ?_) <| Moves.after (setRole_idle_moves ..) <|
    Moves.after (Moves.fold _ (fun t m => setEndpointCond_moves t m .groupGone) _ _) <|
    Moves.after (Moves.fold _ setRole_idle_moves _ _) (bulkDiscard_moves s _)
  cases x.copyInFlight <;> trivial

/-- A removal of members concerns an ACTIVE group. -/
theorem removeMembers_moves (s : State) (g : GroupId) (x : ActiveGroup) (l : List EpId) (h : s.group g = .active x) :
    Moves s (s.removeMembers g x l) := by
  refine Moves.after (setEndpointCond_moves ..) <| Moves.after (Moves.fold _ setRole_idle_moves _ _) <|
    Moves.after (setGroup_moves _ g _ fun hl => ?_) (bulkDiscard_moves s l)
  have hg := hl.2.2 g
  rw [group_congr (bulkDiscard_groups s l), h] at hg
  exact ⟨(List.length_filter_le ..).trans hg.1, hg.2⟩

/-! ## The transfer units -/

theorem sendUnitDone_moves (s : State) (p : Port) : Moves s (s.sendUnitDone p) :=
  modPort_moves_of_eq s p _ fun _ => ⟨rfl, rfl, rfl, rfl, .inr rfl, .inl rfl⟩

theorem writeSendOutcome_moves (s : State) (p : Port) (m : Message) (e : SendEnd) (n : Nat) :
    Moves s (s.writeSendOutcome p m e n) :=
  Moves.after (setPortCond_moves ..) (modPort_moves_of_eq s p _ fun _ => ⟨rfl, rfl, rfl, rfl, .inl rfl, .inl rfl⟩)

theorem deliver_moves (s : State) (p : Port) (r : RecId) (m : Message) (c : ChanId) (e : EpId) (n : Nat) (b : Bool) :
    Moves s (s.deliver p r m c e n b) := by
  refine Moves.after (writeSendOutcome_moves ..) ?_
  cases b
  · exact Moves.after (makeLive_moves ..) (append_moves ..)
  · exact Moves.after (endTransfer_moves ..) <| Moves.after (makeLive_moves ..) (append_moves ..)

theorem discardCopyIn_moves (s : State) (p : Port) (r : RecId) (m : Message) (c : ChanId) (d : Dirn) (b : Bool) :
    Moves s (s.discardCopyIn p r m c d b) :=
  Moves.after (writeSendOutcome_moves ..) <| Moves.after (endMessageTransfer_moves ..) (claim_moves ..)

theorem completeChannelCopy_moves (s : State) (p : Port) (r : RecId) (m : Message) (c : ChanId) (d : Dirn) (n : Nat)
    (b : Bool) : Moves s (s.completeChannelCopy p r m c d n b) := by
  unfold State.completeChannelCopy
  split
  · split
    · exact deliver_moves ..
    · exact discardCopyIn_moves ..
  · exact discardCopyIn_moves ..

theorem fanOut_moves (s : State) (p : Port) (r : RecId) (m : Message) (g : GroupId) (x : ActiveGroup) (n : Nat) :
    Moves s (s.fanOut p r m g x n) := by
  refine Moves.after (writeSendOutcome_moves ..) <| Moves.after (endGroupCopy_moves ..) ?_
  split
  · exact Moves.after (claim_moves ..) <| Moves.after (modMessage_moves _ r _ fun _ => rfl)
      (Moves.fold _ (fun t e => append_moves t e r) _ _)
  · exact Moves.after (makeLive_moves ..) <| Moves.after (modMessage_moves _ r _ fun _ => rfl)
      (Moves.fold _ (fun t e => append_moves t e r) _ _)

theorem completeGroupCopy_moves (s : State) (p : Port) (r : RecId) (m : Message) (g : GroupId) (n : Nat) :
    Moves s (s.completeGroupCopy p r m g n) := by
  unfold State.completeGroupCopy
  split
  · exact fanOut_moves ..
  · exact Moves.after (writeSendOutcome_moves ..) <| Moves.after (endGroupCopy_moves ..) (claim_moves ..)

theorem completeCopyIn_moves (s : State) (p : Port) (r : RecId) (n : Nat) (b : Bool) :
    Moves s (s.completeCopyIn p r n b) := by
  unfold State.completeCopyIn
  split
  · exact sendUnitDone_moves s p
  · split
    · exact Moves.after (sendUnitDone_moves ..) (completeChannelCopy_moves ..)
    · exact Moves.after (sendUnitDone_moves ..) (completeGroupCopy_moves ..)

theorem startCopyIn_moves (s : State) (p : Port) (r : RecId) (k : MsgKind) (n life : Nat) :
    Moves s (s.startCopyIn p r k n life) :=
  Moves.after (grant_moves _) <| Moves.after (placeRequest_moves ..)
    (modPort_moves_of_eq s p _ fun _ => ⟨rfl, rfl, rfl, rfl, .inl rfl, .inl rfl⟩)

theorem sendStopped_moves (s : State) (p : Port) : Moves s (s.report p .sendStopped) :=
  report_moves s p _ (by decide) (by decide) (rested_of_ne s p (by decide) (by decide))

theorem fetchStopped_moves (s : State) (p : Port) : Moves s (s.report p .fetchStopped) :=
  report_moves s p _ (by decide) (by decide) (rested_of_ne s p (by decide) (by decide))

theorem cancelCopyIn_moves (s : State) (p : Port) (r : RecId) : Moves s (s.cancelCopyIn p r) := by
  refine Moves.after (sendStopped_moves ..) <|
    Moves.after (modPort_moves_of_eq _ p _ fun _ => ⟨rfl, rfl, rfl, rfl, .inl rfl, .inl rfl⟩) ?_
  split
  · exact Moves.refl s
  · split
    · exact Moves.after (endMessageTransfer_moves ..) (claim_moves ..)
    · exact Moves.after (endGroupCopy_moves ..) (claim_moves ..)

theorem writeBlock_moves (s : State) (b : BlockId) {l : List Byte} (h : l.length = 32) : Moves s (s.writeBlock b l) :=
  (Move.store s _ _ (memory_wf_writeBlock s b h)).one

theorem writePosition_moves (s : State) (p : Port) (r : RecId) (k : Nat) : Moves s (s.writePosition p r k) := by
  unfold State.writePosition
  split
  · exact Moves.refl s
  · split
    · exact Moves.refl s
    · exact writeBlock_moves s _ (blockImage_length ..)

theorem sendTransferEnd_moves (s : State) (p : Port) (u : CopyIn) : Moves s (s.sendTransferEnd p u) := by
  refine Relation.ReflTransGen.trans (writePosition_moves s p u.record u.next) ?_
  unfold State.sendTransferEnd
  dsimp only
  split
  · exact cancelCopyIn_moves ..
  · split
    · exact completeCopyIn_moves ..
    · exact Moves.after (placeRequest_moves ..)
        (modPort_moves_of_eq _ p _ fun _ => ⟨rfl, rfl, rfl, rfl, .inl rfl, .inl rfl⟩)

theorem writeFetchOutcome_moves (s : State) (p : Port) (e : EpIndex) (m : Message) :
    Moves s (s.writeFetchOutcome p e m) :=
  Moves.after (setPortCond_moves ..) (modPort_moves_of_eq s p _ fun _ => ⟨rfl, rfl, rfl, rfl, .inl rfl, .inl rfl⟩)

theorem endFetchOn_moves (s : State) (k : RecLink) (b : Bool) : Moves s (s.endFetchOn k b) := by
  cases k with
  | channel c d => exact endMessageTransfer_moves ..
  | group g => exact Moves.refl s

theorem completeFetch_moves (s : State) (p : Port) (e : EpIndex) (r : RecId) (b : Bool) :
    Moves s (s.completeFetch p e r b) := by
  have unit_moves (t : State) : Moves t (t.modPort p fun x => { x with fetchUnit := none }) :=
    modPort_moves_of_eq t p _ fun _ => ⟨rfl, rfl, rfl, rfl, .inl rfl, .inl rfl⟩
  unfold State.completeFetch
  split
  · exact unit_moves s
  · exact Moves.after (unit_moves _) <| Moves.after (endFetchOn_moves ..) <| Moves.after (claim_moves ..) <|
      Moves.after (writeFetchOutcome_moves ..) <|
      modPort_moves_of_eq s p _ fun _ => ⟨rfl, rfl, rfl, rfl, .inl rfl, .inl rfl⟩

theorem cancelFetch_moves (s : State) (p : Port) (r : RecId) : Moves s (s.cancelFetch p r) := by
  refine Moves.after (fetchStopped_moves ..) <|
    Moves.after (modPort_moves_of_eq _ p _ fun _ => ⟨rfl, rfl, rfl, rfl, .inl rfl, .inl rfl⟩) ?_
  split
  · exact Moves.refl s
  · exact Moves.after (endFetchOn_moves ..) (claim_moves ..)

theorem storeRead_moves (s : State) (p : Port) (k : Nat) (b : BlockId) : Moves s (s.storeRead p k b) := by
  unfold State.storeRead
  generalize s.blockWords b = words
  exact modPort_moves_of_eq s p _ fun _ => ⟨rfl, rfl, rfl, rfl, .inl rfl, .inl rfl⟩

theorem failActions_moves (s : State) (p : Port) (r : RecId) (b : BlockId) : Moves s (s.failActions p r b) :=
  Moves.after (setPortCond_moves ..) <| Moves.after
    (modPort_moves_of_eq _ p _ fun _ => ⟨rfl, rfl, rfl, rfl, .inl rfl, .inl rfl⟩) (badMark_moves ..)

theorem takeRead_moves (s : State) (p : Port) (u : CopyOut) : Moves s (s.takeRead p u) := by
  unfold State.takeRead
  split
  · exact Moves.refl s
  · split
    · exact Moves.after (failActions_moves ..) (storeRead_moves ..)
    · exact storeRead_moves ..

theorem takeCancelledRead_moves (s : State) (u : CopyOut) : Moves s (s.takeCancelledRead u) := by
  unfold State.takeCancelledRead
  split
  · exact Moves.refl s
  · split
    · exact badMark_moves ..
    · exact Moves.refl s

theorem fetchTransferEnd_moves (s : State) (p : Port) (u : CopyOut) : Moves s (s.fetchTransferEnd p u) := by
  unfold State.fetchTransferEnd
  split
  · exact Moves.after (cancelFetch_moves ..) (takeCancelledRead_moves ..)
  · refine Relation.ReflTransGen.trans (takeRead_moves s p u) ?_
    dsimp only
    split
    · exact completeFetch_moves ..
    · exact Moves.after (placeRequest_moves ..)
        (modPort_moves_of_eq _ p _ fun _ => ⟨rfl, rfl, rfl, rfl, .inl rfl, .inl rfl⟩)

theorem unitTransferEnd_moves (s : State) (q : Requester) : Moves s (s.unitTransferEnd q) := by
  unfold State.unitTransferEnd
  dsimp only
  split
  · split
    · exact Moves.refl s
    · exact sendTransferEnd_moves ..
  · split
    · exact Moves.refl s
    · exact fetchTransferEnd_moves ..

theorem blockTransferEnd_moves (s : State) : Moves s s.blockTransferEnd := by
  unfold State.blockTransferEnd
  split
  · exact Moves.refl s
  · exact Moves.after (grant_moves _) <| Moves.after (unitTransferEnd_moves ..) (Move.arbiter ..).one

end Sys2Proof.Machine
end

section
/-! The moves of the port reset and of the commands, and the inversion of a step: which chains of moves it can be. -/

namespace Sys2Proof.Machine

/-! ## The port reset -/

theorem refundEntry_moves (s : State) (r : RecId) : Moves s (s.refundEntry r) := by
  unfold State.refundEntry
  split
  · exact Moves.refl s
  · split
    · exact returnCredit_moves ..
    · exact Moves.refl s

theorem portOf_globalOf (p : Port) (e : EpIndex) : portOf (globalOf p e) = p := by
  apply Fin.ext
  show (8 * p.val + e.val) / 8 = p.val
  omega

theorem mem_endpointsOf {p : Port} {e : EpId} : e ∈ endpointsOf p ↔ portOf e = p := by
  unfold endpointsOf
  rw [List.mem_map]
  constructor
  · rintro ⟨i, -, rfl⟩
    exact portOf_globalOf p i
  · rintro rfl
    refine ⟨localOf e, List.mem_finRange _, Fin.ext ?_⟩
    show 8 * (e.val / 8) + e.val % 8 = e.val
    omega

theorem foldl_clear_endpoint (e : EpId) : ∀ (l : List EpId) (s : State),
    (l.foldl (fun t k => t.modEndpoint k Endpoint.clear) s).endpoint e =
      if e ∈ l then Endpoint.reset else s.endpoint e
  | [], s => by simp
  | k :: l, s => by
    rw [List.foldl_cons, foldl_clear_endpoint e l, endpoint_modEndpoint]
    by_cases h : e = k <;> by_cases hl : e ∈ l <;> simp [h, hl, Endpoint.clear]

/-- The Endpoint Table's share resets the endpoints of its port. -/
theorem rested_endpointTableShare (s : State) (p : Port) : (s.endpointTableShare p).Rested p (.share .endpointTable) := by
  refine ⟨fun _ e he => ?_, fun h => absurd h (by decide)⟩
  have hreset : (s.endpointTableShare p).endpoint e = Endpoint.reset :=
    (foldl_clear_endpoint e (endpointsOf p) _).trans (if_pos (mem_endpointsOf.2 he))
  rw [hreset]
  rfl

theorem endpointTableShare_moves (s : State) (p : Port) : Moves s (s.endpointTableShare p) := by
  have host_kept (x : PortRec) (h : x.Unattended) :
      PortRec.Unattended { x with host := { x.host with viewSel := 0 } } := h
  unfold State.endpointTableShare
  refine Moves.after (modPort_moves_of_eq _ p _ (fun _ => ⟨rfl, rfl, rfl, rfl, .inl rfl, .inl rfl⟩)
    fun _ => host_kept _) ?_
  have clear_moves (t : State) (e : EpId) : Moves t (t.modEndpoint e Endpoint.clear) :=
    modEndpoint_moves_of_depth t e _ (fun _ => .inr rfl) fun _ _ => rfl
  refine Moves.after (Moves.fold _ clear_moves _ _) ?_
  exact Moves.after (bulkDiscard_moves ..) (Moves.fold _ refundEntry_moves _ s)

theorem resetRequest_moves (s : State) (c : ChanId) (a b : EpId) (p : Port) : Moves s (s.resetRequest c a b p) := by
  let s2 := if portOf a = p then (s.setChannel c .free).setRole a .idle
    else (s.setChannel c .free).failCaller a .peerReset
  have caller_moves : Moves s s2 := by
    unfold s2
    split
    · exact Moves.after (setRole_idle_moves ..) (setChannel_free_moves s c)
    · exact Moves.after (failCaller_moves ..) (setChannel_free_moves s c)
  show Moves s (if portOf b = p then s2.setRole b .idle else s2.withdrawCallee b .callerReset)
  split
  · exact Moves.after (setRole_idle_moves ..) caller_moves
  · exact Moves.after (withdrawCallee_moves ..) caller_moves

theorem resetChannel_moves (p : Port) (s : State) (c : ChanId) : Moves s (State.resetChannel p s c) := by
  unfold State.resetChannel
  split
  · split
    · exact resetRequest_moves ..
    · exact Moves.refl s
  · split
    · exact teardown_moves ..
    · exact Moves.refl s
  · split
    · exact teardown_moves ..
    · exact Moves.refl s
  all_goals exact Moves.refl s

theorem resetGroup_moves (p : Port) (s : State) (g : GroupId) : Moves s (State.resetGroup p s g) := by
  unfold State.resetGroup
  split
  · next x h =>
    dsimp only
    split
    · exact dissolve_moves ..
    · split
      · exact Moves.refl s
      · exact removeMembers_moves s g x _ h
  all_goals exact Moves.refl s

theorem attentionShare_moves (s : State) (p : Port) : Moves s (s.attentionShare p) :=
  modPort_moves_of_eq s p _ (fun _ => ⟨rfl, rfl, rfl, rfl, .inl rfl, .inl rfl⟩) fun _ _ => ⟨rfl, rfl, rfl, rfl, rfl⟩

theorem rested_attentionShare (s : State) (p : Port) : (s.attentionShare p).Rested p (.share .attention) := by
  refine ⟨fun h => absurd h (by decide), fun _ => ?_⟩
  rw [State.attentionShare, port_modPort_self]
  exact ⟨rfl, rfl, rfl, rfl, rfl⟩

theorem takeShare_moves (p : Port) (s : State) (b : ShareBlock) : Moves s (State.takeShare p s b) := by
  unfold State.takeShare
  split
  · next h =>
    cases b with
    | memoryManager => exact (Move.memoryManager s p h).one
    | receiptUnit => exact (Move.receiptUnit s p h).one
    | endpointTable =>
      exact Moves.after (report_moves _ p _ (by decide) (by decide) (rested_endpointTableShare s p))
        (endpointTableShare_moves s p)
    | channelController =>
      exact Moves.after (report_moves _ p _ (by decide) (by decide) (rested_of_ne _ p (by decide) (by decide)))
        (Moves.fold _ (resetChannel_moves p) _ s)
    | groupController =>
      exact Moves.after (report_moves _ p _ (by decide) (by decide) (rested_of_ne _ p (by decide) (by decide)))
        (Moves.fold _ (resetGroup_moves p) _ s)
    | attention =>
      exact Moves.after (report_moves _ p _ (by decide) (by decide) (rested_attentionShare s p)) (attentionShare_moves s p)
  · exact Moves.refl s

theorem stopSendUnit_moves (s : State) (p : Port) : Moves s (s.stopSendUnit p) := by
  unfold State.stopSendUnit
  split
  · exact sendStopped_moves s p
  · split
    · exact modPort_moves_of_eq s p _ fun _ => ⟨rfl, rfl, rfl, rfl, .inl rfl, .inl rfl⟩
    · exact Moves.after (cancelCopyIn_moves ..) (dropRequest_moves s _)

theorem stopFetchUnit_moves (s : State) (p : Port) : Moves s (s.stopFetchUnit p) := by
  unfold State.stopFetchUnit
  split
  · exact fetchStopped_moves s p
  · split
    · exact modPort_moves_of_eq s p _ fun _ => ⟨rfl, rfl, rfl, rfl, .inl rfl, .inl rfl⟩
    · exact Moves.after (cancelFetch_moves ..) (dropRequest_moves s _)

theorem enterReset_moves (s : State) (p : Port) (d : Bool) (l : List ShareBlock) : Moves s (s.enterReset p d l) := by
  have clear_moves (t : State) : Moves t (t.modPort p PortRec.clearBuffers) :=
    modPort_moves_of_eq t p _ fun _ => ⟨rfl, rfl, rfl, rfl, .inr rfl, .inr rfl⟩
  refine Moves.after (reevaluateAll_moves _) <| Moves.after (Moves.fold _ (takeShare_moves p) _ _) <|
    Moves.after (stopFetchUnit_moves ..) <| Moves.after (stopSendUnit_moves ..) <| Moves.after (clear_moves _) ?_
  split
  · exact Moves.after (tellPeers_moves ..) (Move.enter s p d).one
  · exact (Move.enter s p d).one

/-! ## The answers of the commands -/

/-- The three ways a command answers. -/
theorem answer_cases {s t : State} {p : Port} {refusal : Option ResultCode} {acc : State × Word}
    (h : answer s p refusal acc = .next t) :
    t = s ∨ (∃ code, t = s.setResult p code 0#16) ∨
      s.chipReset = false ∧ refusal = none ∧ t = acc.1.setResult p .ok acc.2 := by
  unfold answer taken at h
  injection h with h
  subst h
  cases s.chipReset with
  | true => exact .inl rfl
  | false =>
    cases refusal with
    | none => exact .inr (.inr ⟨rfl, rfl, rfl⟩)
    | some code => exact .inr (.inl ⟨code, rfl⟩)

/-- What a command of port p makes of the state: nothing, or moves and then its result. -/
def Commanded (p : Port) (s t : State) : Prop :=
  t = s ∨ ∃ u code v, Moves s u ∧ t = u.setResult p code v

theorem answer_commanded {s t : State} {p : Port} {refusal : Option ResultCode} {acc : State × Word}
    (h : answer s p refusal acc = .next t) (hm : refusal = none → Moves s acc.1) : Commanded p s t := by
  rcases answer_cases h with h | ⟨code, h⟩ | ⟨-, hr, h⟩
  · exact .inl h
  · exact .inr ⟨s, code, 0#16, Moves.refl s, h⟩
  · exact .inr ⟨acc.1, .ok, acc.2, hm hr, h⟩

/-- An event changes nothing, or takes its effect. -/
theorem taken_cases {s t u : State} (h : taken s u = .next t) : t = s ∨ s.chipReset = false ∧ t = u := by
  unfold taken at h
  injection h with h
  subst h
  cases s.chipReset with
  | true => exact .inl rfl
  | false => exact .inr ⟨rfl, rfl⟩

/-! ## Establishment -/

/-- Every check of a list of checks that refuses nothing passes. -/
theorem checks_pass {l : List (Bool × ResultCode)} (h : firstFailing l = none) : l.all fun x => !x.1 := by
  rw [firstFailing_eq_none] at h
  simpa [List.all_eq_true] using h

theorem portOf_endpointOf (p : Port) (w : Word) : portOf (endpointOf p w) = p := by
  apply Fin.ext
  show (8 * p.val + w.toNat % 8) / 8 = p.val
  omega

/-- What the checks of OPEN leave: two ends and an offer in range. -/
theorem open_inRange {s : State} {p : Port} {w : Word} (h : openRefusal s p w = none) (d : Time) :
    (Channel.requested (endpointOf p w) (globalEndpointOf (s.arg p 0)) (s.offerArgs p) d).InRange := by
  have hc := checks_pass h
  simp only [List.all_cons, Bool.and_eq_true, Bool.not_eq_true', Bool.or_eq_false_iff, decide_eq_false_iff_not] at hc
  simp only [Config.maxWindow, Config.maxMessage] at hc
  obtain ⟨-, -, ⟨-, hne⟩, ⟨hw0, hw8⟩, hl, -⟩ := hc
  refine ⟨fun e => hne e.symm, ?_, ?_, ?_⟩ <;> simp only [State.offerArgs] <;> omega

theorem acceptOpen_moves {s : State} {p : Port} {w : Word} (h : openRefusal s p w = none) :
    Moves s (acceptOpen s p w).1 := by
  unfold acceptOpen
  split
  · exact Moves.refl s
  · exact Moves.after (setEndpointCond_moves ..) <|
      Moves.after (modEndpoint_moves_of_depth _ _ _ fun _ => .inl (depth_takeOffer ..)) <|
      Moves.after (setRole_moves _ _ _ fun _ => Nat.zero_le 8) (setChannel_moves s _ _ fun _ => open_inRange h _)

/-- The terms ACCEPT settles are in range. -/
theorem settledTerms_inRange {a b : EpId} {o : Offer} {d : Time} {w n : Nat} {x : Options}
    (h : (Channel.requested a b o d).InRange) (h1 : 1 ≤ w) (h8 : w ≤ 8) : (settledTerms a b o w n x).InRange :=
  ⟨h.1, (Nat.min_le_left ..).trans h.2.2.2, h1, h8, h.2.1, h.2.2.1⟩

theorem openAgreed_moves (s : State) (c : ChanId) (l : LiveChannel) (h : s.LinkLaw → l.InRange) :
    Moves s (s.openAgreed c l) := by
  have ranges {t : State} (ht : t.channels = (s.setChannel c (.opened l)).channels) (hl : t.LinkLaw) : l.InRange := by
    have hc := hl.2.1 c
    rwa [channel_congr ht, channel_setChannel_self] at hc
  exact Moves.after (setEndpointCond_moves ..) <|
    Moves.after (setRole_moves _ _ _ fun hl => (ranges (setRole_channels ..) hl).2.2.2.1) <|
    Moves.after (setRole_moves _ _ _ fun hl => (ranges rfl hl).2.2.2.2.2) (setChannel_moves s c _ h)

theorem acceptAccept_moves {s : State} {p : Port} {w : Word} (h : acceptRefusal s p w = none) :
    Moves s (acceptAccept s p w).1 := by
  have hc := checks_pass h
  simp only [List.all_cons, Bool.and_eq_true, Bool.not_eq_true', Bool.or_eq_false_iff, decide_eq_false_iff_not] at hc
  simp only [Config.maxWindow] at hc
  obtain ⟨-, -, ⟨h0, h8⟩, -⟩ := hc
  unfold acceptAccept
  split
  · exact Moves.refl s
  · next c a ho =>
    split
    · next a b o d hr =>
      refine openAgreed_moves s c _ fun hl => ?_
      have hi := hl.2.1 c
      rw [hr] at hi
      exact settledTerms_inRange hi (by omega) (by omega)
    all_goals exact Moves.refl s

theorem rejectAt_moves (s : State) (e : EpId) (w : Word) : Moves s (s.rejectAt e w) := by
  unfold State.rejectAt
  split
  · exact Moves.refl s
  · exact Moves.after (failCaller_moves ..) <|
      Moves.after (modEndpoint_moves_of_depth _ e _ fun _ => .inl (depth_backToListening _)) (setChannel_free_moves s _)

/-! ## CLOSE -/

theorem closeCalling_moves (s : State) (e : EpId) (c : ChanId) (b : EpId) : Moves s (s.closeCalling e c b) := by
  have withdraw_moves : Moves s (((s.setChannel c .free).setRole e .idle).withdrawCallee b .callerClosed) :=
    Moves.after (withdrawCallee_moves ..) <| Moves.after (setRole_idle_moves ..) (setChannel_free_moves s c)
  unfold State.closeCalling
  dsimp only
  split
  · exact Moves.after (reevaluate_moves ..) withdraw_moves
  · exact withdraw_moves

theorem beginDrain_moves (s : State) (e : EpId) (c : ChanId) (l : LiveChannel) (h : s.channel c = .opened l) :
    Moves s (s.beginDrain e c l) := by
  let t := (((s.setChannel c (.draining l { caller := decide (e = l.caller), callee := decide (e ≠ l.caller) }
    s.drainDeadline)).modEndpoint l.caller fun x => { x with role := x.role.startClosing }).modEndpoint l.callee
      fun x => { x with role := x.role.startClosing }).drainTest c
  have t_moves : Moves s t :=
    Moves.after (drainTest_moves ..) <| Moves.after (modEndpoint_moves_of_depth _ _ _ fun _ => .inl (depth_startClosing _)) <|
    Moves.after (modEndpoint_moves_of_depth _ _ _ fun _ => .inl (depth_startClosing _)) <|
    setChannel_moves s c _ fun hl => by
      have hi := hl.2.1 c
      rwa [h] at hi
  show Moves s (if (t.channel c).isDraining then t.setEndpointCond (l.other e) .peerClosing else t)
  split
  · exact Moves.after (setEndpointCond_moves ..) t_moves
  · exact t_moves

theorem joinDrain_moves (s : State) (e : EpId) (c : ChanId) (l : LiveChannel) (cl : Closers) (d : Option Time)
    (h : s.channel c = .draining l cl d) : Moves s (s.joinDrain e c l cl d) := by
  have drain_moves (x : Closers) : Moves s (s.setChannel c (.draining l x d)) :=
    setChannel_moves s c _ fun hl => by
      have hi := hl.2.1 c
      rwa [h] at hi
  unfold State.joinDrain
  split
  · split
    · exact Moves.refl s
    · exact Moves.after (setEndpointCond_moves ..) (drain_moves _)
  · split
    · exact Moves.refl s
    · exact Moves.after (setEndpointCond_moves ..) (drain_moves _)

theorem abortAt_moves (s : State) (e : EpId) (c : ChanId) (l : LiveChannel) : Moves s (s.abortAt e c l) := by
  unfold State.abortAt
  split
  · exact teardown_moves ..
  · exact teardown_moves ..

theorem closeChannelEnd_moves (s : State) (e : EpId) (c : ChanId) (b : Bool) : Moves s (s.closeChannelEnd e c b) := by
  unfold State.closeChannelEnd
  split
  · next l h =>
    cases b
    · exact beginDrain_moves s e c l h
    · exact abortAt_moves ..
  · next l cl d h =>
    cases b
    · exact joinDrain_moves s e c l cl d h
    · exact abortAt_moves ..
  all_goals exact Moves.refl s

theorem closePublisher_moves (s : State) (g : GroupId) : Moves s (s.closePublisher g) := by
  unfold State.closePublisher
  split
  · exact dissolve_moves ..
  all_goals exact Moves.refl s

theorem closeMember_moves (s : State) (e : EpId) (g : GroupId) : Moves s (s.closeMember e g) := by
  unfold State.closeMember
  split
  · next x h => exact removeMembers_moves s g x [e] h
  all_goals exact Moves.refl s

theorem closeAtRole_moves (s : State) (e : EpId) (b : Bool) : Moves s (s.closeAtRole e b) := by
  unfold State.closeAtRole
  split
  · exact Moves.refl s
  · exact setRole_idle_moves s e
  · exact Moves.after (failCaller_moves ..) <| Moves.after (setRole_idle_moves ..) (setChannel_free_moves s _)
  · exact closeCalling_moves ..
  · exact closeChannelEnd_moves ..
  · exact closeChannelEnd_moves ..
  · exact closePublisher_moves ..
  · exact closeMember_moves ..

/-! ## Groups -/

theorem acceptCreate_moves {s : State} {p : Port} {w : Word} (h : createRefusal s p w = none) :
    Moves s (acceptCreate s p w).1 := by
  have hc := checks_pass h
  simp only [List.all_cons, Bool.and_eq_true, Bool.not_eq_true', decide_eq_false_iff_not] at hc
  simp only [Config.maxMessage] at hc
  obtain ⟨-, -, hl, -⟩ := hc
  unfold acceptCreate
  split
  · exact Moves.refl s
  · exact Moves.after (setRole_moves _ _ _ fun _ => Nat.zero_le 8)
      (setGroup_moves s _ _ fun _ => ⟨Nat.zero_le 12, by simp only [newGroup]; omega⟩)

theorem setPolicy_moves (s : State) (e : EpId) (x : GroupPolicy) : Moves s (s.setPolicy e x) := by
  unfold State.setPolicy
  split
  · exact Moves.refl s
  · exact modActive_moves s _ _ fun _ h => h

theorem acceptJoin_moves {s : State} {p : Port} {w : Word} (h : joinRefusal s p w = none) :
    Moves s (acceptJoin s p w).1 := by
  have hc := checks_pass h
  simp only [List.all_cons, Bool.and_eq_true, Bool.not_eq_true', Bool.or_eq_false_iff, decide_eq_false_iff_not] at hc
  simp only [Config.maxWindow] at hc
  obtain ⟨-, -, -, ⟨h0, h8⟩, -, -, hfull, -⟩ := hc
  unfold acceptJoin
  dsimp only
  split
  · exact Moves.refl s
  · next x hx =>
    have hg : s.group (groupOfWord (s.arg p 0)) = .active x := by
      cases hg : s.group (groupOfWord (s.arg p 0)) <;> simp_all [Group.active?]
    refine Moves.after (setEndpointCond_moves ..) <| Moves.after (setRole_moves _ _ _ fun _ => by
      show (s.arg p 1).toNat ≤ 8
      omega) (setGroup_moves s _ _ fun hl => ?_)
    have hi := hl.2.2 (groupOfWord (s.arg p 0))
    rw [hg] at hi
    rw [State.groupFull, hx, decide_eq_false_iff_not] at hfull
    refine ⟨?_, hi.2⟩
    simp only [List.length_append, List.length_singleton, Config.maxMembers] at hfull ⊢
    omega

/-! ## Messages -/

/-- What the allocation tests leave: enough free blocks (R8). -/
theorem allocationRefusal_blocks {s : State} {p : Port} {n : Nat} (h : s.allocationRefusal p n = none) :
    n ≤ s.freeBlocks.length := by
  have hc := checks_pass h
  simp only [List.all_cons, Bool.and_eq_true, Bool.not_eq_true', decide_eq_false_iff_not] at hc
  omega

/-- A message that SEND or PUBLISH makes of its arguments can be taken in. -/
theorem newMessage_canTakeIn {s : State} {p : Port} {w : Word} {link : RecLink} {q : Word} {r : RecId}
    (ho : s.online p = true) (hl : (s.arg p 0).toNat ≤ 256)
    (ha : s.allocationRefusal p (blocksFor (s.arg p 0).toNat) = none) (hr : s.freeRecord? = some r)
    (hs : ((s.arg p 3).getLsbD 0 && s.receiptSpaceFull p) = false) :
    s.CanTakeIn p r (s.newMessage p (endpointOf p w) link q) := by
  obtain ⟨hb, hn, hf⟩ := s.take_freeBlocks _ (allocationRefusal_blocks ha)
  refine ⟨ho, portOf_endpointOf p w, (s.freeRecord?_eq_some r hr).1, hf, hn, hl, hb, fun hq => ?_⟩
  have hq' : (s.arg p 3).getLsbD 0 = true := hq
  rw [hq', Bool.true_and, State.receiptSpaceFull, decide_eq_false_iff_not] at hs
  simpa [Config.receiptPlaces] using hs

/-- What the checks of SEND leave. -/
structure SendAccepted (s : State) (p : Port) (w : Word) (c : ChanId) (l : LiveChannel) : Prop where
  online : s.online p = true
  unit : (s.port p).sendUnit = none
  length : (s.arg p 0).toNat ≤ 256
  opened : s.openChannelOf (endpointOf p w) = some (c, l)
  fits : (s.arg p 0).toNat ≤ l.maxLength
  credit : (l.direction (l.sendingFrom (endpointOf p w))).credits ≠ 0
  space : ((s.arg p 3).getLsbD 0 && s.receiptSpaceFull p) = false
  allocation : s.allocationRefusal p (blocksFor (s.arg p 0).toNat) = none

theorem sendRefusal_none {s : State} {p : Port} {w : Word} (h : sendRefusal s p w = none) :
    ∃ c l, SendAccepted s p w c l := by
  unfold sendRefusal at h
  split at h
  · cases h
  · next hh =>
    split at h
    · cases h
    · next c l ho =>
      split at h
      · cases h
      · next hc =>
        have hh := checks_pass hh
        have hc := checks_pass hc
        simp only [List.all_cons, Bool.and_eq_true, Bool.not_eq_true', Bool.or_eq_false_iff, decide_eq_false_iff_not,
          Bool.not_eq_false', Option.isSome_eq_false_iff, Option.isNone_iff_eq_none] at hh hc
        simp only [Config.maxMessage] at hh
        obtain ⟨h1, h2, -, ⟨h3, -⟩, -⟩ := hh
        obtain ⟨h4, -, h5, h6, -⟩ := hc
        exact ⟨c, l, h1, h2, by omega, ho, by omega, h5, h6, h⟩

/-- The acceptance of a SEND takes a record in and spends a credit. -/
theorem acceptChannelMessage_eq (s : State) (p : Port) (r : RecId) (e : EpId) (c : ChanId) (l : LiveChannel) :
    s.acceptChannelMessage p r e c l =
      (s.takeIn p r (s.newMessage p e (.channel c (l.sendingFrom e)) (l.direction (l.sendingFrom e)).nextSequence)).modLive c
        fun x => x.modDirection (l.sendingFrom e) Direction.spend := by
  unfold State.acceptChannelMessage State.takeIn
  dsimp only
  split <;> rfl

theorem takeIn_moves {s : State} {p : Port} {r : RecId} {m : Message} (h : s.CanTakeIn p r m) :
    Moves s (s.takeIn p r m) :=
  (Move.takeIn s p r m h).one

theorem beginChannelCopy_moves (s : State) (p : Port) (r : RecId) (c : ChanId) (n life : Nat) :
    Moves s (s.beginChannelCopy p r c n life) := by
  unfold State.beginChannelCopy
  split
  · exact completeCopyIn_moves ..
  · exact Moves.after (startCopyIn_moves ..) (beginTransfer_moves ..)

theorem acceptSend_moves {s : State} {p : Port} {w : Word} (h : sendRefusal s p w = none) :
    Moves s (acceptSend s p w).1 := by
  obtain ⟨c, l, ha⟩ := sendRefusal_none h
  unfold acceptSend
  dsimp only
  rw [ha.opened]
  split
  · next c' l' r ho hr =>
    cases ho
    refine Moves.after (beginChannelCopy_moves ..) ?_
    rw [acceptChannelMessage_eq]
    exact Moves.after (modLive_moves _ _ _ fun _ h => LiveChannel.inRange_modDirection _ (fun _ => rfl) h)
      (takeIn_moves (newMessage_canTakeIn ha.online ha.length ha.allocation hr ha.space))
  all_goals exact Moves.refl s

theorem removeHead_moves (s : State) (e : EpId) : Moves s (s.removeHead e) :=
  modEndpoint_moves_of_depth s e _ fun _ => .inl (depth_withQueue ..)

theorem beginFetchOn_moves (s : State) (k : RecLink) : Moves s (s.beginFetchOn k) := by
  cases k with
  | channel c d => exact beginTransfer_moves s c
  | group g => exact Moves.refl s

theorem fetchHead_moves (s : State) (p : Port) (e : EpId) (r : RecId) (m : Message) :
    Moves s (s.fetchHead p e r m) := by
  have header_moves : Moves s ((s.removeHead e).modPort p fun x =>
      { x with readBuffer := ReadBuffer.forMessage (localOf e) m }) :=
    Moves.after (modPort_moves_of_eq _ p _ fun _ => ⟨rfl, rfl, rfl, rfl, .inl rfl, .inr rfl⟩) (removeHead_moves s e)
  unfold State.fetchHead
  dsimp only
  split
  · exact Moves.after (completeFetch_moves ..) header_moves
  · exact Moves.after (grant_moves _) <| Moves.after (placeRequest_moves ..) <|
      Moves.after (modPort_moves_of_eq _ p _ fun _ => ⟨rfl, rfl, rfl, rfl, .inl rfl, .inl rfl⟩) <|
      Moves.after (beginFetchOn_moves ..) header_moves

theorem acceptFetch_moves (s : State) (p : Port) (w : Word) : Moves s (acceptFetch s p w).1 := by
  unfold acceptFetch
  dsimp only
  split
  · exact Moves.refl s
  · split
    · exact removeHead_moves s _
    · exact fetchHead_moves ..

/-- What the checks of PUBLISH leave. -/
structure PublishAccepted (s : State) (p : Port) (w : Word) (g : GroupId) (x : ActiveGroup) : Prop where
  online : s.online p = true
  unit : (s.port p).sendUnit = none
  length : (s.arg p 0).toNat ≤ 256
  published : s.publishedGroup? (endpointOf p w) = some (g, x)
  fits : (s.arg p 0).toNat ≤ x.maxLength
  space : ((s.arg p 3).getLsbD 0 && s.receiptSpaceFull p) = false
  allocation : s.allocationRefusal p (blocksFor (s.arg p 0).toNat) = none

theorem publishRefusal_none {s : State} {p : Port} {w : Word} (h : publishRefusal s p w = none) :
    ∃ g x, PublishAccepted s p w g x := by
  unfold publishRefusal at h
  split at h
  · cases h
  · next hh =>
    split at h
    · cases h
    · next g x ho =>
      split at h
      · cases h
      · next hc =>
        have hh := checks_pass hh
        have hc := checks_pass hc
        simp only [List.all_cons, Bool.and_eq_true, Bool.not_eq_true', Bool.or_eq_false_iff, decide_eq_false_iff_not,
          Bool.not_eq_false', Option.isSome_eq_false_iff, Option.isNone_iff_eq_none] at hh hc
        simp only [Config.maxMessage] at hh
        obtain ⟨h1, h2, -, ⟨h3, -⟩, -⟩ := hh
        obtain ⟨h4, -, h6, -⟩ := hc
        exact ⟨g, x, h1, h2, by omega, ho, by omega, h6, h⟩

/-- The acceptance of a PUBLISH takes a record in and uses a sequence number. -/
theorem acceptGroupMessage_eq (s : State) (p : Port) (r : RecId) (e : EpId) (g : GroupId) (x : ActiveGroup) :
    s.acceptGroupMessage p r e g x =
      (s.takeIn p r (s.newMessage p e (.group g) x.nextSequence)).modActive g
        fun y => { y with nextSequence := y.nextSequence + 1#16 } := by
  unfold State.acceptGroupMessage State.takeIn
  dsimp only
  split
  · generalize ht : s.allocate r (s.newMessage p e (.group g) x.nextSequence) = t
    have hg : (t.reserveReceipt p).group g = t.group g := rfl
    unfold State.modActive
    rw [hg]
    cases t.group g <;> rfl
  · rfl

theorem beginGroupCopy_moves (s : State) (p : Port) (r : RecId) (g : GroupId) (n life : Nat) :
    Moves s (s.beginGroupCopy p r g n life) := by
  unfold State.beginGroupCopy
  split
  · exact completeCopyIn_moves ..
  · exact Moves.after (startCopyIn_moves ..) (modActive_moves s g _ fun _ h => h)

theorem acceptPublish_moves {s : State} {p : Port} {w : Word} (h : publishRefusal s p w = none) :
    Moves s (acceptPublish s p w).1 := by
  obtain ⟨g, x, ha⟩ := publishRefusal_none h
  unfold acceptPublish
  dsimp only
  rw [ha.published]
  split
  · next g' x' r ho hr =>
    cases ho
    refine Moves.after (beginGroupCopy_moves ..) ?_
    rw [acceptGroupMessage_eq]
    exact Moves.after (modActive_moves _ _ _ fun _ h => h)
      (takeIn_moves (newMessage_canTakeIn ha.online ha.length ha.allocation hr ha.space))
  all_goals exact Moves.refl s

/-! ## Attention, ports and management -/

theorem nudgeFrom_moves {s : State} {p : Port} (q : Port) (ho : s.online p = true) : Moves s (s.nudgeFrom q p) :=
  Moves.after (setPortCond_moves ..) (modPort_moves_of_eq s p _ (fun _ => ⟨rfl, rfl, rfl, rfl, .inl rfl, .inl rfl⟩)
    fun hx => absurd (state_of_online ho) hx)

/-- What the checks of ONLINE leave: the port is OFFLINE. -/
theorem onlineRefusal_none {s : State} {p : Port} (h : onlineRefusal s p = none) : (s.port p).state = .offline := by
  have hc := checks_pass h
  simp only [List.all_cons, Bool.and_eq_true, Bool.not_eq_true', State.outOfReach, State.online,
    decide_eq_false_iff_not] at hc
  obtain ⟨h1, h2, -⟩ := hc
  cases hs : (s.port p).state <;> simp_all [PortState.hidesWindow]

theorem online_moves {s : State} {p : Port} (h : onlineRefusal s p = none) :
    Moves s ((s.modPort p fun x => { x with state := .online }).tellPeers p) :=
  Moves.after (tellPeers_moves ..) (Move.online s p (onlineRefusal_none h)).one

theorem enablePort_moves {s : State} {p : Port} {w : Word} (h : enablePortRefusal s p w = none) :
    Moves s (s.modPort (portOfWord w) fun x => { x with state := .offline }) := by
  have hc := checks_pass h
  simp only [managementChecks, List.cons_append, List.nil_append, List.all_cons, Bool.and_eq_true, Bool.not_eq_true',
    Bool.not_eq_false', State.isDisabled, decide_eq_true_eq] at hc
  exact (Move.enable s _ hc.2.2.2.1).one

theorem disableTarget_moves (s : State) (p : Port) (l : List ShareBlock) : Moves s (s.disableTarget p l) := by
  unfold State.disableTarget
  split
  · exact (Move.pendDisable s p).one
  · exact enterReset_moves ..

theorem setQuota_moves {s : State} {p : Port} {w : Word} (h : setQuotaRefusal s p w = none) :
    Moves s (s.modPort (portOfWord w) fun x =>
      { x with account := { x.account with blockQuota := (s.arg p 0).toNat, recordQuota := (s.arg p 1).toNat } }) := by
  have hc := checks_pass h
  simp only [managementChecks, List.cons_append, List.nil_append, List.all_cons, Bool.and_eq_true, Bool.not_eq_true',
    decide_eq_false_iff_not] at hc
  obtain ⟨-, -, -, hb, hr, -⟩ := hc
  exact (Move.quota s _ _ _ (by omega) (by omega)).one

theorem setTiming_moves {s : State} {p : Port} {w : Word} (h : setTimingRefusal s p w = none) :
    Moves s { s with
      config :=
        { divider := w.toNat, openTimeout := (s.arg p 0).toNat, drainLimit := (s.arg p 1).toNat,
          maxLifetime := (s.arg p 2).toNat } } := by
  have hc := checks_pass h
  simp only [managementChecks, List.cons_append, List.nil_append, List.all_cons, Bool.and_eq_true, Bool.not_eq_true',
    Bool.or_eq_false_iff, decide_eq_false_iff_not] at hc
  obtain ⟨-, -, ⟨h8, h50⟩, ⟨h1, h255⟩, -⟩ := hc
  refine (Move.config s _ ⟨?_, ?_, ?_, ?_, ?_, ?_⟩).one <;> dsimp only <;> omega

/-! ## Expiries -/

theorem timeOutRequest_moves (s : State) (c : ChanId) (a b : EpId) : Moves s (s.timeOutRequest c a b) := by
  have withdraw_moves : Moves s (((s.setChannel c .free).failCaller a .timeout).withdrawCallee b .timeout) :=
    Moves.after (withdrawCallee_moves ..) <| Moves.after (failCaller_moves ..) (setChannel_free_moves s c)
  unfold State.timeOutRequest
  dsimp only
  split
  · exact Moves.after (reevaluate_moves ..) withdraw_moves
  · exact withdraw_moves

theorem expire_moves (s : State) (r : RecId) (m : Message) (d : Option Time) (h : s.record r = .live m d) :
    Moves s (s.expire r m) := by
  let s2 := (s.holdersOf r).foldl (fun t e => t.modEndpoint e (Endpoint.dropEntry r)) (s.setRecord r (.live m none))
  have entries_moves : Moves s s2 :=
    Moves.after (Moves.fold _ (fun t e => modEndpoint_moves_of_depth t e _ fun _ => .inl (depth_withQueue ..)) _ _)
      (setRecord_moves s r _ (by rw [State.held, h]; rfl))
  have claim_moves : Moves s (s2.claim r (s.holdersOf r).length (some .expired) .expired) :=
    Moves.after (claim_moves ..) entries_moves
  unfold State.expire
  dsimp only
  split
  · exact entries_moves
  · split
    · exact Moves.after (drainTest_moves ..) <| Moves.after (returnCredit_moves ..) claim_moves
    · exact claim_moves

/-- A running count of the time base is in range. -/
theorem periodsLeft_inRange {s : State} (h : s.RangeLaw) : 1 ≤ s.periodsLeft ∧ s.periodsLeft ≤ 50 := by
  obtain ⟨_, _, _, _, _, _, _, h⟩ := h
  exact h

/-- Chip reset and the queue change alone. -/
theorem clock_moves (s : State) (reset : Bool) (l : List Instr) :
    Moves s { s with chipReset := reset, pending := l } :=
  (Move.clock s s.now s.periodsLeft reset l periodsLeft_inRange).one

theorem tick_moves (s : State) : Moves s s.tick := by
  unfold State.tick
  split
  · exact Moves.refl s
  · split
    · refine (Move.clock s s.now (s.periodsLeft - 1) s.chipReset s.pending fun h => ?_).one
      have := periodsLeft_inRange h
      omega
    · refine (Move.clock s _ s.config.divider s.chipReset _ fun h => ?_).one
      obtain ⟨_, h1, h2, _⟩ := h
      omega

/-! ## Register accesses -/

theorem stageData_moves {s t : State} {p : Port} {w : Word} (h : exec (.stageData p w) s = .next t) : Moves s t := by
  rcases taken_cases h with rfl | ⟨-, rfl⟩
  · exact Moves.refl _
  · split
    · exact Moves.refl s
    · refine modPort_moves s p _ ⟨rfl, rfl, rfl, fun hp => ?_, id, fun _ h => h⟩ rfl
      show (s.port p).staging.pointer + 1 ≤ 128
      omega

theorem stagePtr_moves {s t : State} {p : Port} {w : Word} (h : exec (.stagePtr p w) s = .next t) : Moves s t := by
  rcases taken_cases h with rfl | ⟨-, rfl⟩
  · exact Moves.refl _
  · split
    · exact Moves.refl s
    · refine modPort_moves s p _ ⟨rfl, rfl, rfl, fun _ => ?_, id, fun _ h => h⟩ rfl
      show w.toNat ≤ 128
      omega

theorem rbData_moves {s t : State} {p : Port} (h : exec (.rbData p) s = .next t) : Moves s t := by
  injection h with h
  subst h
  refine modPort_moves s p _ ⟨rfl, rfl, rfl, id, fun hp => ?_, fun _ h => h⟩ rfl
  dsimp only
  split
  · next hm =>
    simp only [Bool.and_eq_true, decide_eq_true_eq] at hm
    omega
  · exact hp

theorem rbPtr_moves {s t : State} {p : Port} {w : Word} (h : exec (.rbPtr p w) s = .next t) : Moves s t := by
  rcases taken_cases h with rfl | ⟨-, rfl⟩
  · exact Moves.refl _
  · split
    · exact Moves.refl s
    · refine modPort_moves s p _ ⟨rfl, rfl, rfl, id, fun _ => ?_, fun _ h => h⟩ rfl
      show w.toNat ≤ 128
      omega

theorem viewSel_moves {s t : State} {p : Port} {w : Word} (h : exec (.viewSel p w) s = .next t) : Moves s t := by
  rcases taken_cases h with rfl | ⟨-, rfl⟩
  · exact Moves.refl _
  · split
    · exact Moves.refl s
    · exact modPort_moves_of_eq s p _ fun _ => ⟨rfl, rfl, rfl, rfl, .inl rfl, .inl rfl⟩

/-! ## The commands and events, and the step -/

/-- A command strobe of port p changes nothing, or makes its moves and writes its result. -/
theorem exec_commanded {i : Instr} {p : Port} {s t : State} (hi : i.strobe? = some p) (h : exec i s = .next t) :
    Commanded p s t := by
  cases i with
  | listen q w =>
    cases hi
    exact answer_commanded h fun _ => setRole_moves s _ _ fun _ => Nat.zero_le 8
  | openChannel q w =>
    cases hi
    exact answer_commanded h acceptOpen_moves
  | accept q w =>
    cases hi
    exact answer_commanded h acceptAccept_moves
  | reject q w =>
    cases hi
    exact answer_commanded h fun _ => rejectAt_moves ..
  | close q w =>
    cases hi
    exact answer_commanded h fun _ => closeAtRole_moves ..
  | send q w =>
    cases hi
    exact answer_commanded h acceptSend_moves
  | fetch q w =>
    cases hi
    exact answer_commanded h fun _ => acceptFetch_moves ..
  | create q w =>
    cases hi
    exact answer_commanded h acceptCreate_moves
  | policy q w =>
    cases hi
    exact answer_commanded h fun _ => setPolicy_moves ..
  | join q w =>
    cases hi
    exact answer_commanded h acceptJoin_moves
  | publish q w =>
    cases hi
    exact answer_commanded h acceptPublish_moves
  | ack q w =>
    cases hi
    exact answer_commanded h fun _ => Moves.after (reevaluate_moves ..) (removeConds_moves s ..)
  | popReceipt q w =>
    cases hi
    refine answer_commanded h fun hr => (Move.popReceipt s p ?_).one
    have hc := checks_pass hr
    simp only [List.all_cons, Bool.and_eq_true, Bool.not_eq_true', Bool.not_eq_false'] at hc
    exact hc.1
  | nudge q w =>
    cases hi
    refine answer_commanded h fun hr => nudgeFrom_moves _ ?_
    have hc := checks_pass hr
    simp only [List.all_cons, Bool.and_eq_true, Bool.not_eq_true', Bool.not_eq_false'] at hc
    exact hc.2.2.1
  | notifySet q w =>
    cases hi
    refine answer_commanded h fun hr => ?_
    have hc := checks_pass hr
    simp only [List.all_cons, Bool.and_eq_true, Bool.not_eq_true', Bool.not_eq_false'] at hc
    dsimp only
    exact modPort_moves_of_eq s p _ (fun _ => ⟨rfl, rfl, rfl, rfl, .inl rfl, .inl rfl⟩)
      fun hx => absurd (state_of_online hc.1) hx
  | mask q w =>
    cases hi
    refine answer_commanded h fun hr => ?_
    have hc := checks_pass hr
    simp only [List.all_cons, Bool.and_eq_true, Bool.not_eq_true', Bool.not_eq_false'] at hc
    dsimp only
    exact modPort_moves_of_eq s p _ (fun _ => ⟨rfl, rfl, rfl, rfl, .inl rfl, .inl rfl⟩)
      fun hx => absurd (state_of_online hc.1) hx
  | online q w =>
    cases hi
    exact answer_commanded h online_moves
  | offline q w l =>
    cases hi
    exact answer_commanded h fun _ => enterReset_moves ..
  | enablePort q w =>
    cases hi
    exact answer_commanded h enablePort_moves
  | disablePort q w l =>
    cases hi
    exact answer_commanded h fun _ => disableTarget_moves ..
  | resetPort q w l =>
    cases hi
    exact answer_commanded h fun _ => enterReset_moves ..
  | setQuota q w =>
    cases hi
    exact answer_commanded h setQuota_moves
  | setTiming q w =>
    cases hi
    exact answer_commanded h setTiming_moves
  | _ => cases hi

theorem resetInputAssertion_moves {s t : State} {p : Port} {l : List ShareBlock}
    (h : exec (.resetInputAssertion p l) s = .next t) : Moves s t := by
  have pin_moves (r : Bool) : Moves s (s.modPort p fun x => { x with resetPin := true, resetInput := r }) :=
    modPort_moves_of_eq s p _ fun _ => ⟨rfl, rfl, rfl, rfl, .inl rfl, .inl rfl⟩
  have h' : execResetInputAssertion p l s = .next t := h
  unfold execResetInputAssertion at h'
  split at h'
  · injection h' with h'
    subst h'
    exact modPort_moves_of_eq s p _ fun _ => ⟨rfl, rfl, rfl, rfl, .inl rfl, .inl rfl⟩
  · injection h' with h'
    subst h'
    split
    · exact Moves.after (enterReset_moves ..) (pin_moves true)
    · exact Moves.after (enterReset_moves ..) (pin_moves true)
    · exact pin_moves true
    · exact pin_moves true

/-- An event of the part, or a register access, other than ARG_WRITE and the end of chip reset. -/
theorem exec_event_moves {i : Instr} {s t : State} (hi : i.strobe? = none) (ha : ∀ p n w, i ≠ .argWrite p n w)
    (hr : i ≠ .chipResetRelease) (h : exec i s = .next t) : Moves s t := by
  cases i with
  | stageData p w => exact stageData_moves h
  | stagePtr p w => exact stagePtr_moves h
  | rbData p => exact rbData_moves h
  | rbPtr p w => exact rbPtr_moves h
  | viewSel p w => exact viewSel_moves h
  | timeLo p =>
    injection h with h
    subst h
    exact modPort_moves_of_eq s p _ fun _ => ⟨rfl, rfl, rfl, rfl, .inl rfl, .inl rfl⟩
  | argWrite p n w => exact absurd rfl (ha p n w)
  | ignoredWrite p a w =>
    rcases taken_cases h with rfl | ⟨-, rfl⟩ <;> exact Moves.refl _
  | resetInputAssertion p l => exact resetInputAssertion_moves h
  | resetInputRelease p =>
    injection h with h
    subst h
    exact modPort_moves_of_eq s p _ fun _ => ⟨rfl, rfl, rfl, rfl, .inl rfl, .inl rfl⟩
  | chipResetAssertion =>
    injection h with h
    subst h
    exact clock_moves s true s.pending
  | chipResetRelease => exact absurd rfl hr
  | memoryFault b l =>
    rcases taken_cases h with rfl | ⟨-, rfl⟩
    · exact Moves.refl _
    · refine (Move.store s _ _ fun hm => memory_wf_writeBytes _ hm ?_).one
      have hb := blockBase_add_le b
      have hl := List.length_take_le 32 l
      omega
  | blockTransferEnd =>
    rcases taken_cases h with rfl | ⟨-, rfl⟩
    · exact Moves.refl _
    · exact blockTransferEnd_moves s
  | openTimeoutExpiry c =>
    rcases taken_cases h with rfl | ⟨-, rfl⟩
    · exact Moves.refl _
    · split
      · split
        · exact timeOutRequest_moves ..
        · exact Moves.refl s
      all_goals exact Moves.refl s
  | drainExpiry c =>
    rcases taken_cases h with rfl | ⟨-, rfl⟩
    · exact Moves.refl _
    · split
      · split
        · exact teardown_moves ..
        · exact Moves.refl s
      all_goals exact Moves.refl s
  | lifetimeExpiry r =>
    rcases taken_cases h with rfl | ⟨-, rfl⟩
    · exact Moves.refl _
    · split
      · next m d hr =>
        split
        · exact expire_moves s r m _ hr
        · exact Moves.refl s
      all_goals exact Moves.refl s
  | holdoffExpiry p =>
    rcases taken_cases h with rfl | ⟨-, rfl⟩
    · exact Moves.refl _
    · split
      · exact Moves.refl s
      · split
        · next hg =>
          exact modPort_moves_of_eq s p _ (fun _ => ⟨rfl, rfl, rfl, rfl, .inl rfl, .inl rfl⟩)
            fun _ ⟨_, hq, _⟩ => absurd (hq.symm.trans hg.1) (by decide)
        · exact Moves.refl s
  | memoryManagerResetShare p =>
    rcases taken_cases h with rfl | ⟨-, rfl⟩
    · exact Moves.refl _
    · exact takeShare_moves ..
  | endpointTableResetShare p =>
    rcases taken_cases h with rfl | ⟨-, rfl⟩
    · exact Moves.refl _
    · exact takeShare_moves ..
  | channelControllerResetShare p =>
    rcases taken_cases h with rfl | ⟨-, rfl⟩
    · exact Moves.refl _
    · split
      · exact Moves.after (reevaluateAll_moves _) (takeShare_moves ..)
      · exact Moves.refl s
  | groupControllerResetShare p =>
    rcases taken_cases h with rfl | ⟨-, rfl⟩
    · exact Moves.refl _
    · exact takeShare_moves ..
  | receiptUnitResetShare p =>
    rcases taken_cases h with rfl | ⟨-, rfl⟩
    · exact Moves.refl _
    · exact takeShare_moves ..
  | attentionResetShare p =>
    rcases taken_cases h with rfl | ⟨-, rfl⟩
    · exact Moves.refl _
    · exact takeShare_moves ..
  | _ => cases hi

/-- What every small move, every write to a host register and the end of chip reset keep, every command keeps. -/
theorem exec_keeps {P : State → Prop} (hm : ∀ s t, Move s t → P s → P t)
    (hh : ∀ (s : State) (p : Port) (f : HostInterface → HostInterface),
      P s → P (s.modPort p fun x => { x with host := f x.host }))
    (hr : ∀ pins l, P (State.afterChipReset pins l)) {i : Instr} {s t : State} (h : exec i s = .next t) (hs : P s) :
    P t := by
  cases hi : i.strobe? with
  | some p =>
    rcases exec_commanded hi h with rfl | ⟨u, code, v, hu, rfl⟩
    · exact hs
    · exact hh u p (fun x => { x with result := code, resultValue := v }) (Moves.keep hm hu hs)
  | none =>
    by_cases ha : ∃ p n w, i = .argWrite p n w
    · obtain ⟨p, n, w, rfl⟩ := ha
      rcases taken_cases h with rfl | ⟨-, rfl⟩
      · exact hs
      · exact hh s p (fun x => { x with args := x.args.set n w }) hs
    · by_cases hc : i = .chipResetRelease
      · subst hc
        injection h with h
        subst h
        exact hr ..
      · exact Moves.keep hm (exec_event_moves hi (fun p n w e => ha ⟨p, n, w, e⟩) hc h) hs

/-- A step is a period of the clock, or the command at the front of the queue on the state with the queue's rest. -/
theorem step_cases {s t : State} (h : step s = .next t) :
    s.pending = [] ∧ t = s.tick ∨ ∃ i rest, s.pending = i :: rest ∧ exec i { s with pending := rest } = .next t := by
  unfold step at h
  split at h
  · next hp =>
    injection h with h
    exact .inl ⟨hp, h.symm⟩
  · next i rest hp => exact .inr ⟨i, rest, hp, h⟩

/-- What every small move, every write to a host register and the end of chip reset keep, every step keeps. -/
theorem step_keeps {P : State → Prop} (hm : ∀ s t, Move s t → P s → P t)
    (hh : ∀ (s : State) (p : Port) (f : HostInterface → HostInterface),
      P s → P (s.modPort p fun x => { x with host := f x.host }))
    (hr : ∀ pins l, P (State.afterChipReset pins l)) {s t : State} (hs : P s) (h : step s = .next t) : P t := by
  rcases step_cases h with ⟨-, rfl⟩ | ⟨i, rest, -, h⟩
  · exact Moves.keep hm (tick_moves s) hs
  · exact exec_keeps hm hh hr h (Moves.keep hm (clock_moves s s.chipReset rest) hs)

end Sys2Proof.Machine
end

section
/-! The laws of the memory, the ranges, the blocks, the charges and the receipts, each kept by every small move. -/

namespace Sys2Proof.Machine

/-! ## What each move writes -/

theorem awaits_congr {s t : State} {p : Port} (h : (t.port p).state = (s.port p).state) (x : Report) :
    t.awaits p x = s.awaits p x := by
  unfold State.awaits
  rw [h]

theorem online_congr {s t : State} {p : Port} (h : (t.port p).state = (s.port p).state) : t.online p = s.online p := by
  unfold State.online
  rw [h]

/-- A port that is ONLINE awaits nothing. -/
theorem awaits_of_online {s : State} {p : Port} (h : s.online p = true) (x : Report) : s.awaits p x = false := by
  have hs : (s.port p).state = .online := by simpa [State.online] using h
  unfold State.awaits
  rw [hs]

/-- A report is no longer awaited once it is made; the others stay as they are. -/
theorem awaits_report (s : State) (p q : Port) (r x : Report) :
    (s.report p r).awaits q x = (s.awaits q x && !(decide (q = p) && decide (x = r))) := by
  by_cases e : q = p
  · subst e
    unfold State.awaits State.report
    rw [port_modPort_self]
    dsimp only
    cases hs : (s.port q).state with
    | resetting d awaited =>
      simp only [PortState.afterReport]
      by_cases hl : awaited.filter (· ≠ r) = []
      · rw [if_pos hl]
        have hx : awaited.contains x = true → x = r := by
          intro hc
          by_contra hne
          have : x ∈ awaited.filter (· ≠ r) := by simpa using ⟨by simpa using hc, hne⟩
          rw [hl] at this
          cases this
        cases hc : awaited.contains x <;> cases d <;> simp_all
      · rw [if_neg hl]
        by_cases hx : x = r <;> simp [hx]
    | disabled => rfl
    | offline => rfl
    | online => rfl
  · rw [awaits_congr (s := s) (by rw [State.report, port_modPort_ne _ _ e])]
    simp [e]

theorem online_report (s : State) (p q : Port) (r : Report) : (s.report p r).online q = s.online q := by
  by_cases e : q = p
  · subst e
    unfold State.online State.report
    rw [port_modPort_self]
    dsimp only
    cases hs : (s.port q).state with
    | resetting d awaited =>
      simp only [PortState.afterReport]
      split
      · cases d <;> rfl
      · rfl
    | disabled => rfl
    | offline => rfl
    | online => rfl
  · exact online_congr (by rw [State.report, port_modPort_ne _ _ e])

/-- A change of one port record that leaves a part of it leaves that part of every port. -/
theorem modPort_part {α : Type} (g : PortRec → α) (s : State) (p : Port) (f : PortRec → PortRec)
    (h : g (f (s.port p)) = g (s.port p)) (q : Port) : g ((s.modPort p f).port q) = g (s.port q) := by
  rw [port_modPort]
  split
  · next e => rw [e, h]
  · rfl

theorem ports_foldl_placeBlock (f : BlockId → BlockPlace) (l : List BlockId) (s : State) :
    (l.foldl (fun t b => t.placeBlock b (f b)) s).ports = s.ports := by
  rw [foldl_ports]
  intros
  rfl

/-- The port of an allocation after it: its charges and, for a message that asks for a receipt, a reservation. -/
def PortRec.takeIn (x : PortRec) (m : Message) : PortRec :=
  { x with
    account :=
      { x.account with
        chargedBlocks := x.account.chargedBlocks + m.blocks.length
        chargedRecords := x.account.chargedRecords + 1 }
    receipts :=
      { x.receipts with reserved := if m.receiptRequested then x.receipts.reserved + 1 else x.receipts.reserved } }

theorem takeIn_port {s : State} {p : Port} {m : Message} (h : portOf m.origin = p) (r : RecId) (q : Port) :
    (s.takeIn p r m).port q = if q = p then (s.port p).takeIn m else s.port q := by
  have ha : (s.allocate r m).port q =
      if q = p then
        { s.port p with
          account :=
            { (s.port p).account with
              chargedBlocks := (s.port p).account.chargedBlocks + m.blocks.length
              chargedRecords := (s.port p).account.chargedRecords + 1 } }
      else s.port q := by
    have hp : ∀ k, ((m.blocks.foldl (fun t b => t.placeBlock b .held) s).setRecord r (.filling m)).port k = s.port k :=
      port_congr ((setRecord_ports ..).trans (ports_foldl_placeBlock (fun _ => .held) _ s))
    unfold State.allocate State.modAccount
    dsimp only
    rw [h, port_modPort, hp, hp]
  unfold State.takeIn
  cases hm : m.receiptRequested with
  | true =>
    rw [if_pos rfl, State.reserveReceipt, port_modPort, ha]
    by_cases e : q = p
    · subst e
      simp only [if_true, ha, PortRec.takeIn, hm]
    · simp only [if_neg e]
  | false =>
    rw [if_neg (by decide), ha]
    by_cases e : q = p
    · subst e
      simp [PortRec.takeIn, hm]
    · simp only [if_neg e]

theorem takeIn_records (s : State) (p : Port) (r : RecId) (m : Message) :
    (s.takeIn p r m).records = s.records.set r (.filling m) := by
  have h : (m.blocks.foldl (fun t b => t.placeBlock b .held) s).records = s.records := by
    rw [foldl_records]
    intros
    rfl
  have ha : (s.allocate r m).records = s.records.set r (.filling m) := by
    rw [← h]
    rfl
  unfold State.takeIn
  split <;> exact ha

theorem takeIn_record (s : State) (p : Port) (r k : RecId) (m : Message) :
    (s.takeIn p r m).record k = if k = r then .filling m else s.record k := by
  rw [record_congr (s := s.setRecord r (.filling m)) (takeIn_records ..)]
  by_cases h : k = r
  · subst h
    simp
  · simp [h]

theorem takeIn_place (s : State) (p : Port) (r : RecId) (m : Message) (b : BlockId) :
    (s.takeIn p r m).blockPlaces[b] = if b ∈ m.blocks then .held else s.blockPlaces[b] := by
  rw [← places_foldl_placeBlock (fun _ => .held) b m.blocks s]
  unfold State.takeIn
  split <;> rfl

theorem takeIn_channels (s : State) (p : Port) (r : RecId) (m : Message) : (s.takeIn p r m).channels = s.channels := by
  unfold State.takeIn
  split
  · exact (reserveReceipt_channels ..).trans (allocate_channels ..)
  · exact allocate_channels ..

theorem takeIn_groups (s : State) (p : Port) (r : RecId) (m : Message) : (s.takeIn p r m).groups = s.groups := by
  unfold State.takeIn
  split
  · exact (reserveReceipt_groups ..).trans (allocate_groups ..)
  · exact allocate_groups ..

theorem takeIn_endpoints (s : State) (p : Port) (r : RecId) (m : Message) :
    (s.takeIn p r m).endpoints = s.endpoints := by
  unfold State.takeIn
  split
  · exact (reserveReceipt_endpoints ..).trans (allocate_endpoints ..)
  · exact allocate_endpoints ..

theorem takeIn_store (s : State) (p : Port) (r : RecId) (m : Message) : (s.takeIn p r m).store = s.store := by
  unfold State.takeIn
  split
  · exact (reserveReceipt_store ..).trans (allocate_store ..)
  · exact allocate_store ..

theorem takeIn_fixed (s : State) (p : Port) (r : RecId) (m : Message) : (s.takeIn p r m).fixed = s.fixed := by
  unfold State.takeIn
  split
  · exact (reserveReceipt_fixed ..).trans (allocate_fixed ..)
  · exact allocate_fixed ..

/-- The account of every port after a release: the charges of its record are given back (R12). -/
theorem release_account (s : State) (r : RecId) (m : Message) (c : Cause) (q : Port) :
    ((s.release r m c).port q).account =
      if q = portOf m.origin then
        { (s.port q).account with
          chargedBlocks := (s.port q).account.chargedBlocks - m.blocks.length
          chargedRecords := (s.port q).account.chargedRecords - 1 }
      else (s.port q).account := by
  let s1 := m.blocks.foldl (fun t b => t.placeBlock b (releasedTo m b)) s
  let f : Account → Account := fun a =>
    { a with chargedBlocks := a.chargedBlocks - m.blocks.length, chargedRecords := a.chargedRecords - 1 }
  let s2 := s1.modAccount (portOf m.origin) f
  have h2 : (s2.port q).account = if q = portOf m.origin then f (s.port q).account else (s.port q).account := by
    show ((s1.modPort (portOf m.origin) _).port q).account = _
    rw [port_modPort, port_congr (ports_foldl_placeBlock _ _ s), port_congr (ports_foldl_placeBlock _ _ s)]
    split
    · next e => rw [e]
    · rfl
  have h3 (t : State) (rc : Receipt) (p : Port) : ((t.handOff p rc).port q).account = (t.port q).account := by
    unfold State.handOff
    split
    · unfold State.setPortCond State.setCond
      split
      · rw [modPort_part PortRec.account, modPort_part PortRec.account] <;> rfl
      · rw [modPort_part PortRec.account]
        rfl
    · rw [modPort_part PortRec.account]
      rfl
  rw [← h2]
  show ((((if m.receiptRequested then s2.handOff (portOf m.origin) (receiptOf m c) else s2).setRecord r .free).port
    q)).account = _
  rw [port_congr (setRecord_ports ..)]
  split
  · exact h3 ..
  · rfl

/-! ## The message memory -/

/-- Every small move keeps the canonical form of the memory. -/
theorem memoryLaw_move {s t : State} (h : Move s t) (hs : s.MemoryLaw) : t.MemoryLaw := by
  have same {t : State} (h : t.store = s.store) : t.MemoryLaw := by
    unfold State.MemoryLaw
    rw [memory_of_store h]
    exact hs
  cases h with
  | store m b h => exact h hs
  | release r m c h => exact same (release_store ..)
  | takeIn p r m h => exact same (takeIn_store ..)
  | _ => exact hs

/-! ## The ranges -/

theorem rangeLaw_congr {s t : State} (hp : ∀ q, (t.port q).staging.pointer = (s.port q).staging.pointer ∧
    (t.port q).readBuffer.pointer = (s.port q).readBuffer.pointer ∧
    (t.port q).account.blockQuota = (s.port q).account.blockQuota ∧
    (t.port q).account.recordQuota = (s.port q).account.recordQuota) (hf : t.fixed = s.fixed) (h : s.RangeLaw) :
    t.RangeLaw := by
  refine ⟨fun q => ?_, ?_⟩
  · obtain ⟨h1, h2, h3, h4⟩ := hp q
    rw [h1, h2, h3, h4]
    exact h.1 q
  · rw [config_of_fixed hf, periodsLeft_of_fixed hf]
    exact h.2

/-- A change of one port keeps the ranges when it keeps those of that port. -/
theorem rangeLaw_modPort {s : State} {p : Port} {f : PortRec → PortRec} (h : s.RangeLaw)
    (h1 : (f (s.port p)).staging.pointer ≤ 128) (h2 : (f (s.port p)).readBuffer.pointer ≤ 128)
    (h3 : (f (s.port p)).account.blockQuota ≤ 128) (h4 : (f (s.port p)).account.recordQuota ≤ 64) :
    (s.modPort p f).RangeLaw := by
  refine ⟨fun q => ?_, h.2⟩
  rw [port_modPort]
  split
  · exact ⟨h1, h2, h3, h4⟩
  · exact h.1 q

/-- A change of one port outside its pointers and quotas. -/
theorem rangeLaw_modPort_same {s : State} {p : Port} {f : PortRec → PortRec} (h : s.RangeLaw)
    (h1 : (f (s.port p)).staging = (s.port p).staging) (h2 : (f (s.port p)).readBuffer = (s.port p).readBuffer)
    (h3 : (f (s.port p)).account = (s.port p).account) : (s.modPort p f).RangeLaw := by
  obtain ⟨r1, r2, r3, r4⟩ := h.1 p
  refine rangeLaw_modPort h ?_ ?_ ?_ ?_
  · rwa [h1]
  · rwa [h2]
  · rwa [h3]
  · rwa [h3]

theorem rangeLaw_move {s t : State} (h : Move s t) (hs : s.RangeLaw) : t.RangeLaw := by
  cases h with
  | port p f h hd =>
    obtain ⟨-, -, ha, hp, hr, -⟩ := h
    obtain ⟨r1, r2, r3, r4⟩ := hs.1 p
    exact rangeLaw_modPort hs (hp r1) (hr r2) (by rwa [ha]) (by rwa [ha])
  | clock now n reset l h =>
    have hn := h hs
    obtain ⟨r0, r1, r2, r3, r4, r5, r6, -⟩ := hs
    exact ⟨r0, r1, r2, r3, r4, r5, r6, hn⟩
  | config c h =>
    obtain ⟨h1, h2, h3, h4, h5, h6⟩ := h
    have hn : 1 ≤ s.periodsLeft ∧ s.periodsLeft ≤ 50 := periodsLeft_inRange hs
    exact ⟨hs.1, h1, h2, h3, h4, h5, h6, hn⟩
  | release r m c h =>
    refine rangeLaw_congr (fun q => ?_) (release_fixed ..) hs
    have hc := core_of_cores (release_cores s r m c) q
    have ha := release_account s r m c q
    refine ⟨congrArg (·.2.2.2.2.1.pointer) hc, congrArg (·.2.2.2.2.2.2.2.1.pointer) hc, ?_, ?_⟩ <;>
    · rw [ha]
      split <;> rfl
  | takeIn p r m h =>
    refine rangeLaw_congr (fun q => ?_) (takeIn_fixed ..) hs
    rw [takeIn_port h.origin]
    split
    · next e => exact e ▸ ⟨rfl, rfl, rfl, rfl⟩
    · exact ⟨rfl, rfl, rfl, rfl⟩
  | popReceipt p h => exact rangeLaw_modPort_same hs rfl rfl rfl
  | quota p b r hb hr =>
    obtain ⟨r1, r2, -, -⟩ := hs.1 p
    exact rangeLaw_modPort hs r1 r2 hb hr
  | report p r h h' hr => exact rangeLaw_modPort_same hs rfl rfl rfl
  | memoryManager p h => exact rangeLaw_modPort_same (s := s.memoryManagerShare p) hs rfl rfl rfl
  | receiptUnit p h =>
    exact rangeLaw_modPort_same (rangeLaw_modPort_same hs rfl rfl rfl : (s.receiptUnitShare p).RangeLaw) rfl rfl rfl
  | enter p d => exact rangeLaw_modPort_same hs rfl rfl rfl
  | pendDisable p => exact rangeLaw_modPort_same hs rfl rfl rfl
  | online p h => exact rangeLaw_modPort_same hs rfl rfl rfl
  | enable p h => exact rangeLaw_modPort_same hs rfl rfl rfl
  | _ => exact hs

theorem linkLaw_congr {s t : State} (he : t.endpoints = s.endpoints) (hc : t.channels = s.channels)
    (hg : t.groups = s.groups) (h : s.LinkLaw) : t.LinkLaw := by
  unfold State.LinkLaw State.role
  simp only [endpoint_congr he, channel_congr hc, group_congr hg]
  exact h

theorem linkLaw_move {s t : State} (h : Move s t) (hs : s.LinkLaw) : t.LinkLaw := by
  cases h with
  | endpoint e f h hb =>
    refine ⟨fun k => ?_, hs.2⟩
    unfold State.role
    rw [endpoint_modEndpoint]
    split
    · exact h hs
    · exact hs.1 k
  | channel c x h =>
    refine ⟨hs.1, fun k => ?_, hs.2.2⟩
    by_cases e : k = c
    · rw [e, channel_setChannel_self]
      exact h hs
    · rw [channel_setChannel_ne _ _ e]
      exact hs.2.1 k
  | group g x h =>
    refine ⟨hs.1, hs.2.1, fun k => ?_⟩
    by_cases e : k = g
    · rw [e, group_setGroup_self]
      exact h hs
    · rw [group_setGroup_ne _ _ e]
      exact hs.2.2 k
  | release r m c h => exact linkLaw_congr (release_endpoints ..) (release_channels ..) (release_groups ..) hs
  | takeIn p r m h => exact linkLaw_congr (takeIn_endpoints ..) (takeIn_channels ..) (takeIn_groups ..) hs
  | _ => exact hs

/-! ## The blocks -/

/-- The block list of a record. -/
def State.blocksOf (s : State) (r : RecId) : Option (List BlockId) :=
  (s.record r).message?.map Message.blocks

theorem holds_iff (s : State) (r : RecId) (b : BlockId) : s.Holds r b ↔ ∃ l, s.blocksOf r = some l ∧ b ∈ l := by
  simp [State.Holds, State.blocksOf]

theorem blocksOf_of_held {s t : State} {r : RecId} (h : t.held r = s.held r) : t.blocksOf r = s.blocksOf r := by
  have e (u : State) : u.blocksOf r = (u.held r).map (·.2.1) := by
    unfold State.blocksOf State.held
    rw [Option.map_map]
    rfl
  rw [e, e, h]

/-- R3 in terms of the block lists. -/
theorem blockLaw_iff (s : State) :
    s.BlockLaw ↔
      (∀ b : BlockId, s.blockPlaces[b] = .held ↔ ∃ r l, s.blocksOf r = some l ∧ b ∈ l) ∧
      (∀ (b : BlockId) (r r' : RecId) (l l' : List BlockId), s.blocksOf r = some l → b ∈ l → s.blocksOf r' = some l' →
        b ∈ l' → r = r') ∧
      ∀ (r : RecId) (l : List BlockId), s.blocksOf r = some l → l.Nodup := by
  unfold State.BlockLaw
  simp only [holds_iff]
  refine and_congr Iff.rfl (and_congr ⟨?_, ?_⟩ ⟨?_, ?_⟩)
  · exact fun h b r r' l l' h1 h2 h3 h4 => h b r r' ⟨l, h1, h2⟩ ⟨l', h3, h4⟩
  · rintro h b r r' ⟨l, h1, h2⟩ ⟨l', h3, h4⟩
    exact h b r r' l l' h1 h2 h3 h4
  · intro h r l hl
    obtain ⟨m, hm, rfl⟩ := Option.map_eq_some_iff.1 hl
    exact h r m hm
  · exact fun h r m hm => h r m.blocks (by rw [State.blocksOf, hm]; rfl)

theorem blockLaw_congr {s t : State} (hr : ∀ r, t.blocksOf r = s.blocksOf r) (hp : t.blockPlaces = s.blockPlaces)
    (h : s.BlockLaw) : t.BlockLaw := by
  rw [blockLaw_iff] at h ⊢
  simp only [hr, hp]
  exact h

theorem held_setRecord (s : State) (r k : RecId) (x : MsgRecord) :
    (s.setRecord r x).held k = if k = r then x.message?.map Message.fixed else s.held k := by
  unfold State.held
  by_cases h : k = r
  · subst h
    simp
  · simp [h]

/-- A release ends the holding of its record alone. -/
theorem held_release (s : State) (r k : RecId) (m : Message) (c : Cause) :
    (s.release r m c).held k = if k = r then none else s.held k := by
  unfold State.held
  by_cases h : k = r
  · rw [h, release_record_self, if_pos rfl]
    rfl
  · rw [release_record_ne s m c h, if_neg h]

theorem held_takeIn (s : State) (p : Port) (r k : RecId) (m : Message) :
    (s.takeIn p r m).held k = if k = r then some m.fixed else s.held k := by
  unfold State.held
  rw [takeIn_record]
  split <;> rfl

theorem blocksOf_eq_held (s : State) (r : RecId) : s.blocksOf r = (s.held r).map (·.2.1) := by
  unfold State.blocksOf State.held
  rw [Option.map_map]
  rfl

theorem blocksOf_memoryManagerShare (s : State) (p : Port) (r : RecId) :
    (s.memoryManagerShare p).blocksOf r = s.blocksOf r := by
  have h : (s.memoryManagerShare p).record r = (s.record r).mapMessage (Message.withoutReceiptAt p) := mapVector_get ..
  unfold State.blocksOf
  rw [h, message?_mapMessage, Option.map_map]
  congr 1
  funext m
  show (if portOf m.origin = p then { m with receiptRequested := false } else m).blocks = _
  split <;> rfl

/-- The release of a record keeps every block in one place (R3, R12). -/
theorem blockLaw_release {s : State} {r : RecId} {m : Message} (c : Cause) (hm : s.held r = some m.fixed)
    (h : s.BlockLaw) : (s.release r m c).BlockLaw := by
  rw [blockLaw_iff] at h ⊢
  obtain ⟨h1, h2, h3⟩ := h
  have hr : s.blocksOf r = some m.blocks := by rw [blocksOf_eq_held, hm]; rfl
  have ht (k : RecId) : (s.release r m c).blocksOf k = if k = r then none else s.blocksOf k := by
    rw [blocksOf_eq_held, blocksOf_eq_held, held_release]
    split <;> rfl
  have kept {k : RecId} {l : List BlockId} (hk : (s.release r m c).blocksOf k = some l) :
      k ≠ r ∧ s.blocksOf k = some l := by
    rw [ht] at hk
    by_cases e : k = r
    · rw [if_pos e] at hk
      cases hk
    · exact ⟨e, by rwa [if_neg e] at hk⟩
  refine ⟨fun b => ?_, fun b k k' l l' hk hb hk' hb' => h2 b k k' l l' (kept hk).2 hb (kept hk').2 hb',
    fun k l hk => h3 k l (kept hk).2⟩
  rw [release_places]
  by_cases hb : b ∈ m.blocks
  · rw [if_pos hb]
    refine ⟨fun e => ?_, fun ⟨k, l, hk, hl⟩ => absurd (h2 b k r l _ (kept hk).2 hl hr hb) (kept hk).1⟩
    unfold releasedTo at e
    split at e <;> cases e
  · rw [if_neg hb, h1]
    constructor
    · rintro ⟨k, l, hk, hl⟩
      have e : k ≠ r := by
        rintro rfl
        rw [hr] at hk
        cases hk
        exact hb hl
      exact ⟨k, l, by rw [ht, if_neg e, hk], hl⟩
    · rintro ⟨k, l, hk, hl⟩
      exact ⟨k, l, (kept hk).2, hl⟩

/-- An allocation of free blocks to a FREE record keeps every block in one place (R3, R8). -/
theorem blockLaw_takeIn {s : State} {p : Port} {r : RecId} {m : Message} (hc : s.CanTakeIn p r m) (h : s.BlockLaw) :
    (s.takeIn p r m).BlockLaw := by
  rw [blockLaw_iff] at h ⊢
  obtain ⟨h1, h2, h3⟩ := h
  have ht (k : RecId) : (s.takeIn p r m).blocksOf k = if k = r then some m.blocks else s.blocksOf k := by
    rw [blocksOf_eq_held, blocksOf_eq_held, held_takeIn]
    split <;> rfl
  have hn : s.blocksOf r = none := by
    rw [State.blocksOf, hc.record]
    rfl
  have fresh {k : RecId} {l : List BlockId} {b : BlockId} (hk : s.blocksOf k = some l) (hb : b ∈ l) : b ∉ m.blocks := by
    intro hm
    have hf := hc.places b hm
    rw [(h1 b).2 ⟨k, l, hk, hb⟩] at hf
    cases hf
  refine ⟨fun b => ?_, fun b k k' l l' hk hb hk' hb' => ?_, fun k l hk => ?_⟩
  · rw [takeIn_place]
    by_cases hb : b ∈ m.blocks
    · rw [if_pos hb]
      exact ⟨fun _ => ⟨r, m.blocks, by rw [ht, if_pos rfl], hb⟩, fun _ => rfl⟩
    · rw [if_neg hb, h1]
      constructor
      · rintro ⟨k, l, hk, hl⟩
        have e : k ≠ r := by
          rintro rfl
          rw [hn] at hk
          cases hk
        exact ⟨k, l, by rw [ht, if_neg e, hk], hl⟩
      · rintro ⟨k, l, hk, hl⟩
        rw [ht] at hk
        by_cases e : k = r
        · rw [if_pos e] at hk
          cases hk
          exact absurd hl hb
        · rw [if_neg e] at hk
          exact ⟨k, l, hk, hl⟩
  · rw [ht] at hk hk'
    by_cases e : k = r <;> by_cases e' : k' = r
    · rw [e, e']
    · rw [if_pos e] at hk
      rw [if_neg e'] at hk'
      cases hk
      exact absurd hb (fresh hk' hb')
    · rw [if_neg e] at hk
      rw [if_pos e'] at hk'
      cases hk'
      exact absurd hb' (fresh hk hb)
    · rw [if_neg e] at hk
      rw [if_neg e'] at hk'
      exact h2 b k k' l l' hk hb hk' hb'
  · rw [ht] at hk
    by_cases e : k = r
    · rw [if_pos e] at hk
      cases hk
      exact hc.nodup
    · rw [if_neg e] at hk
      exact h3 k l hk

theorem blockLaw_move {s t : State} (h : Move s t) (hs : s.BlockLaw) : t.BlockLaw := by
  cases h with
  | record r x h =>
    refine blockLaw_congr (s := s) (fun k => blocksOf_of_held ?_) rfl hs
    rw [held_setRecord]
    split
    · next e => rw [e, h]
    · rfl
  | release r m c h => exact blockLaw_release c h hs
  | takeIn p r m h => exact blockLaw_takeIn h hs
  | memoryManager p h => exact blockLaw_congr (s := s) (blocksOf_memoryManagerShare s p) rfl hs
  | _ => exact hs

end Sys2Proof.Machine
end

section
/-! The laws of the charges and of the receipts, each kept by every small move; and the laws that every step keeps. -/

namespace Sys2Proof.Machine

/-! ## Sums over all records, and numbers of them -/

theorem finRange_sum {n : Nat} (f : Fin n → Nat) : ((List.finRange n).map f).sum = ∑ i, f i :=
  (Fin.sum_univ_def f).symm

/-- The length of a selection as a sum. -/
theorem finRange_filter_length {n : Nat} (P : Fin n → Bool) :
    ((List.finRange n).filter P).length = ∑ i, if P i = true then 1 else 0 := by
  rw [← finRange_sum]
  induction List.finRange n with
  | nil => rfl
  | cons i l ih =>
    rw [List.filter_cons, List.map_cons, List.sum_cons, ← ih]
    split
    · rw [List.length_cons, Nat.add_comm]
    · rw [Nat.zero_add]

/-- Two sums that differ in one place. -/
theorem sum_add_eq_of_eq_off {n : Nat} {f g : Fin n → Nat} (r : Fin n) (h : ∀ i, i ≠ r → g i = f i) :
    (∑ i, g i) + f r = (∑ i, f i) + g r := by
  have hf := Finset.add_sum_erase _ f (Finset.mem_univ r)
  have hg := Finset.add_sum_erase _ g (Finset.mem_univ r)
  have he : ∑ i ∈ Finset.univ.erase r, g i = ∑ i ∈ Finset.univ.erase r, f i :=
    Finset.sum_congr rfl fun i hi => h i (Finset.ne_of_mem_erase hi)
  omega

/-- A sum over what the records keep, when one record changes. -/
theorem sum_held (F : Option (EpId × List BlockId × Nat × Bool) → Nat) {s t : State} {r : RecId}
    (h : ∀ i, i ≠ r → t.held i = s.held i) :
    (∑ i, F (t.held i)) + F (s.held r) = (∑ i, F (s.held i)) + F (t.held r) :=
  sum_add_eq_of_eq_off (f := fun i => F (s.held i)) (g := fun i => F (t.held i)) r fun i e => congrArg F (h i e)

theorem le_sum {n : Nat} (f : Fin n → Nat) (r : Fin n) : f r ≤ ∑ i, f i :=
  Finset.single_le_sum (f := f) (fun _ _ => Nat.zero_le _) (Finset.mem_univ r)

/-! ## The charges -/

/-- What a record that keeps this charges to port p: its blocks, and itself. -/
def chargeOf (p : Port) : Option (EpId × List BlockId × Nat × Bool) → Nat × Nat
  | none => (0, 0)
  | some k => if portOf k.1 = p then (k.2.1.length, 1) else (0, 0)

theorem chargeOf_none (p : Port) : chargeOf p none = (0, 0) := rfl

theorem charged_eq (s : State) (p : Port) (r : RecId) :
    (s.blocksCharged p r, s.recordsCharged p r) = chargeOf p (s.held r) := by
  unfold State.blocksCharged State.recordsCharged State.held
  cases (s.record r).message? with
  | none => rfl
  | some m =>
    show (if portOf m.origin = p then m.blocks.length else 0, if portOf m.origin = p then 1 else 0) =
      if portOf m.origin = p then _ else _
    split <;> rfl

/-- R7 in terms of what the records keep. -/
theorem chargeLaw_iff (s : State) :
    s.ChargeLaw ↔ ∀ p : Port,
      (s.port p).account.chargedBlocks = ∑ r, (chargeOf p (s.held r)).1 ∧
      (s.port p).account.chargedRecords = ∑ r, (chargeOf p (s.held r)).2 := by
  unfold State.ChargeLaw
  simp only [finRange_sum, ← charged_eq]

theorem chargeLaw_congr {s t : State} (hr : ∀ p r, chargeOf p (t.held r) = chargeOf p (s.held r))
    (ha : ∀ p, (t.port p).account.chargedBlocks = (s.port p).account.chargedBlocks ∧
      (t.port p).account.chargedRecords = (s.port p).account.chargedRecords) (h : s.ChargeLaw) : t.ChargeLaw := by
  rw [chargeLaw_iff] at h ⊢
  intro p
  rw [(ha p).1, (ha p).2]
  simp only [hr]
  exact h p

/-- A change of one port outside its charges. -/
theorem chargeLaw_modPort {s : State} (p : Port) {f : PortRec → PortRec} (h : s.ChargeLaw)
    (ha : (f (s.port p)).account.chargedBlocks = (s.port p).account.chargedBlocks ∧
      (f (s.port p)).account.chargedRecords = (s.port p).account.chargedRecords) : (s.modPort p f).ChargeLaw := by
  refine chargeLaw_congr (s := s) (fun _ _ => rfl) (fun q => ?_) h
  exact ⟨modPort_part (fun x => x.account.chargedBlocks) s p f ha.1 q,
    modPort_part (fun x => x.account.chargedRecords) s p f ha.2 q⟩

/-- A release gives back what its record charged (R7, R12). -/
theorem chargeLaw_release {s : State} {r : RecId} {m : Message} (c : Cause) (hm : s.held r = some m.fixed)
    (h : s.ChargeLaw) : (s.release r m c).ChargeLaw := by
  rw [chargeLaw_iff] at h ⊢
  intro p
  obtain ⟨hb, hr⟩ := h p
  have off (i : RecId) (e : i ≠ r) : (s.release r m c).held i = s.held i := by rw [held_release, if_neg e]
  have self : (s.release r m c).held r = none := by rw [held_release, if_pos rfl]
  have sb := sum_held (fun k => (chargeOf p k).1) off
  have sr := sum_held (fun k => (chargeOf p k).2) off
  rw [self, hm] at sb sr
  rw [release_account]
  by_cases e : p = portOf m.origin
  · have hc : chargeOf p (some m.fixed) = (m.blocks.length, 1) := if_pos e.symm
    simp only [hc, chargeOf_none] at sb sr
    rw [if_pos e]
    dsimp only
    omega
  · have hc : chargeOf p (some m.fixed) = (0, 0) := if_neg (Ne.symm e)
    simp only [hc, chargeOf_none] at sb sr
    rw [if_neg e]
    omega

/-- An allocation charges what its record holds (R7, R8). -/
theorem chargeLaw_takeIn {s : State} {p : Port} {r : RecId} {m : Message} (hc : s.CanTakeIn p r m) (h : s.ChargeLaw) :
    (s.takeIn p r m).ChargeLaw := by
  rw [chargeLaw_iff] at h ⊢
  intro q
  obtain ⟨hb, hr⟩ := h q
  have off (i : RecId) (e : i ≠ r) : (s.takeIn p r m).held i = s.held i := by rw [held_takeIn, if_neg e]
  have self : (s.takeIn p r m).held r = some m.fixed := by rw [held_takeIn, if_pos rfl]
  have free : s.held r = none := by rw [State.held, hc.record]; rfl
  have sb := sum_held (fun k => (chargeOf q k).1) off
  have sr := sum_held (fun k => (chargeOf q k).2) off
  rw [self, free] at sb sr
  rw [takeIn_port hc.origin]
  by_cases e : q = p
  · have hq : chargeOf q (some m.fixed) = (m.blocks.length, 1) := if_pos (hc.origin.trans e.symm)
    simp only [hq, chargeOf_none] at sb sr
    rw [if_pos e]
    subst e
    simp only [PortRec.takeIn]
    omega
  · have hq : chargeOf q (some m.fixed) = (0, 0) := if_neg fun x => e (x.symm.trans hc.origin)
    simp only [hq, chargeOf_none] at sb sr
    rw [if_neg e]
    omega

/-- The Memory Manager's share: what the record of each message keeps, but for the receipt it asked for. -/
theorem held_memoryManagerShare (s : State) (p : Port) (r : RecId) :
    (s.memoryManagerShare p).held r =
      (s.held r).map fun k => (k.1, k.2.1, k.2.2.1, if portOf k.1 = p then false else k.2.2.2) := by
  have h : (s.memoryManagerShare p).record r = (s.record r).mapMessage (Message.withoutReceiptAt p) := mapVector_get ..
  unfold State.held
  rw [h, message?_mapMessage, Option.map_map, Option.map_map]
  congr 1
  funext m
  show (if portOf m.origin = p then { m with receiptRequested := false } else m).fixed =
    (m.origin, m.blocks, m.length, if portOf m.origin = p then false else m.receiptRequested)
  split <;> rfl

theorem chargeLaw_move {s t : State} (h : Move s t) (hs : s.ChargeLaw) : t.ChargeLaw := by
  cases h with
  | port p f h hd =>
    obtain ⟨-, -, ha, -⟩ := h
    exact chargeLaw_modPort p hs ⟨by rw [ha], by rw [ha]⟩
  | record r x h =>
    refine chargeLaw_congr (s := s) (fun p k => ?_) (fun _ => ⟨rfl, rfl⟩) hs
    rw [held_setRecord]
    split
    · next e => rw [e, h]
    · rfl
  | release r m c h => exact chargeLaw_release c h hs
  | takeIn p r m h => exact chargeLaw_takeIn h hs
  | popReceipt p h => exact chargeLaw_modPort p hs ⟨rfl, rfl⟩
  | quota p b r hb hr => exact chargeLaw_modPort p hs ⟨rfl, rfl⟩
  | report p r h h' hr => exact chargeLaw_modPort p hs ⟨rfl, rfl⟩
  | memoryManager p h =>
    refine chargeLaw_modPort (s := s.memoryManagerShare p) p ?_ ⟨rfl, rfl⟩
    refine chargeLaw_congr (s := s) (fun q r => ?_) (fun _ => ⟨rfl, rfl⟩) hs
    rw [held_memoryManagerShare]
    cases s.held r <;> rfl
  | receiptUnit p h =>
    exact chargeLaw_modPort (s := s.receiptUnitShare p) p (chargeLaw_modPort p hs ⟨rfl, rfl⟩) ⟨rfl, rfl⟩
  | enter p d => exact chargeLaw_modPort p hs ⟨rfl, rfl⟩
  | pendDisable p => exact chargeLaw_modPort p hs ⟨rfl, rfl⟩
  | online p h => exact chargeLaw_modPort p hs ⟨rfl, rfl⟩
  | enable p h => exact chargeLaw_modPort p hs ⟨rfl, rfl⟩
  | _ => exact hs

/-! ## The receipts -/

theorem receiptLaw_modPort {s : State} (p : Port) {f : PortRec → PortRec} (h : s.ReceiptLaw)
    (hp : (f (s.port p)).receipts.queue.length + (f (s.port p)).receipts.reserved ≤ 16) : (s.modPort p f).ReceiptLaw := by
  intro q
  rw [port_modPort]
  split
  · exact hp
  · exact h q

/-- What a Receipt Unit takes, it takes from its reservations. -/
theorem ReceiptUnit.after_le (u : ReceiptUnit) (o : Bool) (l : List Receipt) :
    (u.after o l).queue.length + (u.after o l).reserved ≤ u.queue.length + u.reserved := by
  cases o <;> simp only [ReceiptUnit.after, if_true, Bool.false_eq_true, if_false, List.length_append, List.length_take] <;>
    omega

theorem receiptLaw_move {s t : State} (h : Move s t) (hs : s.ReceiptLaw) : t.ReceiptLaw := by
  cases h with
  | port p f h hd =>
    obtain ⟨-, hr, -⟩ := h
    exact receiptLaw_modPort p hs (by rw [hr]; exact hs p)
  | release r m c h =>
    intro q
    rw [(release_handedOff s r m c q).1]
    exact (ReceiptUnit.after_le ..).trans (hs q)
  | takeIn p r m h =>
    intro q
    rw [takeIn_port h.origin]
    split
    · simp only [PortRec.takeIn]
      split
      · next hm =>
        have := h.space hm
        omega
      · exact hs p
    · exact hs q
  | popReceipt p h =>
    refine receiptLaw_modPort p hs ?_
    have := hs p
    simp only [List.length_tail]
    omega
  | quota p b r hb hr => exact receiptLaw_modPort p hs (hs p)
  | report p r h h' hr => exact receiptLaw_modPort p hs (hs p)
  | memoryManager p h => exact receiptLaw_modPort (s := s.memoryManagerShare p) p hs (hs p)
  | receiptUnit p h =>
    have h0 : (s.receiptUnitShare p).ReceiptLaw := receiptLaw_modPort p hs (Nat.zero_le 16)
    exact receiptLaw_modPort p h0 (h0 p)
  | enter p d => exact receiptLaw_modPort p hs (hs p)
  | pendDisable p => exact receiptLaw_modPort p hs (hs p)
  | online p h => exact receiptLaw_modPort p hs (hs p)
  | enable p h => exact receiptLaw_modPort p hs (hs p)
  | _ => exact hs

/-! ## The reservations -/

/-- Does a record that keeps this owe port p a receipt? -/
def owes (p : Port) : Option (EpId × List BlockId × Nat × Bool) → Nat
  | none => 0
  | some k => if portOf k.1 = p ∧ k.2.2.2 = true then 1 else 0

theorem receiptsOwed_eq (s : State) (p : Port) : s.receiptsOwed p = ∑ r, owes p (s.held r) := by
  unfold State.receiptsOwed
  rw [finRange_filter_length]
  refine Finset.sum_congr rfl fun r _ => ?_
  unfold State.owesReceipt State.held
  cases (s.record r).message? with
  | none => rfl
  | some m =>
    show (if (decide (portOf m.origin = p) && m.receiptRequested) = true then 1 else 0) =
      if portOf m.origin = p ∧ m.receiptRequested = true then 1 else 0
    simp

/-- R96 at one port. -/
def State.ReservationLawAt (s : State) (p : Port) : Prop :=
  (s.online p = true → (s.port p).receipts.reserved = s.receiptsOwed p) ∧
  (s.online p = false →
    (s.awaits p (.share .memoryManager) = false → s.receiptsOwed p = 0) ∧
    (s.awaits p (.share .receiptUnit) = false → (s.port p).receipts = { queue := [], reserved := 0 }))

/-- R96 at one port depends on its state, its receipts and what is owed to it. -/
theorem reservationLawAt_congr {s t : State} {p : Port} (hs : (t.port p).state = (s.port p).state)
    (hr : (t.port p).receipts = (s.port p).receipts) (ho : t.receiptsOwed p = s.receiptsOwed p)
    (h : s.ReservationLawAt p) : t.ReservationLawAt p := by
  unfold State.ReservationLawAt
  rw [online_congr hs, awaits_congr hs, awaits_congr hs, hr, ho]
  exact h

theorem receiptsOwed_congr {s t : State} {p : Port} (h : ∀ r, owes p (t.held r) = owes p (s.held r)) :
    t.receiptsOwed p = s.receiptsOwed p := by
  simp only [receiptsOwed_eq, h]

theorem receiptsOwed_of_records {s t : State} (h : t.records = s.records) (p : Port) :
    t.receiptsOwed p = s.receiptsOwed p :=
  receiptsOwed_congr fun r => by rw [State.held, record_congr h, ← State.held]

/-- A change of port p alone concerns R96 at p alone. -/
theorem reservationLaw_modPort {s : State} (p : Port) {f : PortRec → PortRec} (h : s.ReservationLaw)
    (hp : (s.modPort p f).ReservationLawAt p) : (s.modPort p f).ReservationLaw := by
  intro q
  by_cases e : q = p
  · exact e ▸ hp
  · exact reservationLawAt_congr (s := s) (by rw [port_modPort_ne _ _ e]) (by rw [port_modPort_ne _ _ e])
      (receiptsOwed_of_records rfl q) (h q)

/-- The same for a change that keeps the port's state and receipts. -/
theorem reservationLaw_modPort_same {s : State} (p : Port) {f : PortRec → PortRec} (h : s.ReservationLaw)
    (h1 : (f (s.port p)).state = (s.port p).state) (h2 : (f (s.port p)).receipts = (s.port p).receipts) :
    (s.modPort p f).ReservationLaw :=
  reservationLaw_modPort p h <|
    reservationLawAt_congr (s := s) (by rw [port_modPort_self, h1]) (by rw [port_modPort_self, h2]) (receiptsOwed_of_records rfl p)
      (h p)

/-- A report leaves R96 when what it reports is done. -/
theorem reservationLaw_report {s : State} {p : Port} {r : Report} (h : s.ReservationLaw)
    (hm : r = .share .memoryManager → s.receiptsOwed p = 0)
    (hr : r = .share .receiptUnit → (s.port p).receipts = { queue := [], reserved := 0 }) :
    (s.report p r).ReservationLaw := by
  refine reservationLaw_modPort p h ?_
  obtain ⟨h1, h2⟩ := h p
  have e1 : (s.report p r).receiptsOwed p = s.receiptsOwed p := receiptsOwed_of_records rfl p
  have e2 : ((s.report p r).port p).receipts = (s.port p).receipts := by rw [State.report, port_modPort_self]
  show (s.report p r).ReservationLawAt p
  unfold State.ReservationLawAt
  rw [online_report, awaits_report, awaits_report, e1, e2]
  refine ⟨h1, fun ho => ⟨fun ha => ?_, fun ha => ?_⟩⟩
  · by_cases e : r = .share .memoryManager
    · exact hm e
    · exact (h2 ho).1 (by simpa [Ne.symm e] using ha)
  · by_cases e : r = .share .receiptUnit
    · exact hr e
    · exact (h2 ho).2 (by simpa [Ne.symm e] using ha)

/-- What is owed after a record changed. -/
theorem receiptsOwed_change {s t : State} {r : RecId} (q : Port) (h : ∀ i, i ≠ r → t.held i = s.held i) :
    t.receiptsOwed q + owes q (s.held r) = s.receiptsOwed q + owes q (t.held r) := by
  rw [receiptsOwed_eq, receiptsOwed_eq]
  exact sum_held (owes q) h

theorem owes_le_receiptsOwed (s : State) (q : Port) (r : RecId) : owes q (s.held r) ≤ s.receiptsOwed q := by
  rw [receiptsOwed_eq]
  exact le_sum (fun i => owes q (s.held i)) r

theorem owes_fixed (q : Port) (m : Message) :
    owes q (some m.fixed) = if portOf m.origin = q ∧ m.receiptRequested = true then 1 else 0 := rfl

/-- A port is posted as many receipts as the record owes it. -/
theorem receiptAt_length (m : Message) (c : Cause) (q : Port) : (m.receiptAt c q).length = owes q (some m.fixed) := by
  rw [owes_fixed]
  unfold Message.receiptAt
  by_cases hc : m.receiptRequested = true ∧ portOf m.origin = q
  · rw [if_pos hc, if_pos hc.symm]
    rfl
  · rw [if_neg hc, if_neg fun x => hc x.symm]
    rfl

/-- A release ends what its record owed and lowers the reservations by as much (R13, R96). -/
theorem reservationLaw_release {s : State} {r : RecId} {m : Message} (c : Cause) (hm : s.held r = some m.fixed)
    (h : s.ReservationLaw) : (s.release r m c).ReservationLaw := by
  intro q
  obtain ⟨h1, h2⟩ := h q
  have hst : ((s.release r m c).port q).state = (s.port q).state := state_of_cores (release_cores ..) q
  have hu := (release_handedOff s r m c q).1
  have so := receiptsOwed_change (s := s) (t := s.release r m c) q fun i e => by rw [held_release, if_neg e]
  have hle := owes_le_receiptsOwed s q r
  have self : owes q ((s.release r m c).held r) = 0 := by rw [held_release, if_pos rfl]; rfl
  have hl := receiptAt_length m c q
  rw [self, hm] at so
  rw [hm] at hle
  generalize s.release r m c = t at *
  rw [online_congr hst, awaits_congr hst, awaits_congr hst, hu]
  refine ⟨fun ho => ?_, fun ho => ⟨fun ha => ?_, fun ha => ?_⟩⟩
  · have := h1 ho
    simp only [ReceiptUnit.after]
    omega
  · have := (h2 ho).1 ha
    omega
  · rw [(h2 ho).2 ha, ho]
    simp [ReceiptUnit.after]

/-- An allocation at an ONLINE port reserves for the receipt its message asks for (R95, R96). -/
theorem reservationLaw_takeIn {s : State} {p : Port} {r : RecId} {m : Message} (hc : s.CanTakeIn p r m)
    (h : s.ReservationLaw) : (s.takeIn p r m).ReservationLaw := by
  intro q
  have so := receiptsOwed_change (s := s) (t := s.takeIn p r m) q fun i e => by rw [held_takeIn, if_neg e]
  have free : s.held r = none := by rw [State.held, hc.record]; rfl
  have self : (s.takeIn p r m).held r = some m.fixed := by rw [held_takeIn, if_pos rfl]
  have hp := takeIn_port (s := s) hc.origin r q
  rw [free, self, owes_fixed] at so
  have none_owes : owes q none = 0 := rfl
  by_cases e : q = p
  · subst e
    rw [if_pos rfl] at hp
    generalize s.takeIn q r m = t at *
    have hst : (t.port q).state = (s.port q).state := by rw [hp]; rfl
    refine ⟨fun ho => ?_, fun ho => absurd hc.online (by rw [← online_congr hst, ho]; decide)⟩
    have hq := (h q).1 hc.online
    have hres : (t.port q).receipts.reserved =
        if m.receiptRequested = true then (s.port q).receipts.reserved + 1 else (s.port q).receipts.reserved := by
      rw [hp]
      simp only [PortRec.takeIn]
    simp only [hc.origin, true_and] at so
    rw [hres]
    rw [hq]
    split at so
    · next x =>
      rw [if_pos x]
      exact so.symm
    · next x =>
      rw [if_neg x]
      exact so.symm
  · rw [if_neg e] at hp
    refine reservationLawAt_congr (by rw [hp]) (by rw [hp]) ?_ (h q)
    rw [if_neg fun x => e (x.1.symm.trans hc.origin)] at so
    omega

theorem receiptsOwed_memoryManagerShare (s : State) (p q : Port) :
    (s.memoryManagerShare p).receiptsOwed q = if q = p then 0 else s.receiptsOwed q := by
  rw [receiptsOwed_eq, receiptsOwed_eq]
  by_cases e : q = p
  · rw [if_pos e]
    refine Finset.sum_eq_zero fun r _ => ?_
    rw [held_memoryManagerShare]
    cases s.held r with
    | none => rfl
    | some k =>
      show (if portOf k.1 = q ∧ (if portOf k.1 = p then false else k.2.2.2) = true then 1 else 0) = 0
      refine if_neg fun ⟨h1, h2⟩ => ?_
      rw [if_pos (h1.trans e)] at h2
      cases h2
  · rw [if_neg e]
    refine Finset.sum_congr rfl fun r _ => ?_
    rw [held_memoryManagerShare]
    cases s.held r with
    | none => rfl
    | some k =>
      show (if portOf k.1 = q ∧ (if portOf k.1 = p then false else k.2.2.2) = true then 1 else 0) =
        if portOf k.1 = q ∧ k.2.2.2 = true then 1 else 0
      by_cases h : portOf k.1 = q
      · rw [if_neg (fun x : portOf k.1 = p => e (h.symm.trans x))]
      · rw [if_neg fun x => h x.1, if_neg fun x => h x.1]

theorem reservationLaw_move {s t : State} (h : Move s t) (hs : s.ReservationLaw) : t.ReservationLaw := by
  cases h with
  | port p f h hd => exact reservationLaw_modPort_same p hs h.1 h.2.1
  | record r x h =>
    intro q
    refine reservationLawAt_congr (s := s) rfl rfl (receiptsOwed_congr fun k => ?_) (hs q)
    rw [held_setRecord]
    split
    · next e => rw [e, h]
    · rfl
  | release r m c h => exact reservationLaw_release c h hs
  | takeIn p r m h => exact reservationLaw_takeIn h hs
  | popReceipt p h =>
    have ho : (s.modPort p fun x => { x with receipts := { x.receipts with queue := x.receipts.queue.tail } }).online p =
        true := by rw [online_modPort _ _ _ _ rfl, h]
    refine reservationLaw_modPort p hs ⟨fun _ => ?_, fun h' => absurd (ho.symm.trans h') (by decide)⟩
    rw [port_modPort_self, receiptsOwed_of_records (modPort_records ..)]
    exact (hs p).1 h
  | quota p b r hb hr => exact reservationLaw_modPort_same p hs rfl rfl
  | report p r h h' hr => exact reservationLaw_report hs (fun e => absurd e h) fun e => absurd e h'
  | memoryManager p h =>
    have hoff : s.online p = false := by
      by_contra ho
      rw [awaits_of_online (by simpa using ho)] at h
      cases h
    refine reservationLaw_report (fun q => ?_) (fun _ => ?_) fun e => by cases e
    · have ho := receiptsOwed_memoryManagerShare s p q
      by_cases e : q = p
      · subst e
        rw [if_pos rfl] at ho
        exact ⟨fun h' => absurd (hoff.symm.trans h') (by decide), fun h' => ⟨fun _ => ho, ((hs q).2 h').2⟩⟩
      · rw [if_neg e] at ho
        exact reservationLawAt_congr (s := s) rfl rfl ho (hs q)
    · rw [receiptsOwed_memoryManagerShare, if_pos rfl]
  | receiptUnit p h =>
    have hoff : s.online p = false := by
      by_contra ho
      rw [awaits_of_online (by simpa using ho)] at h
      cases h
    have hr : ((s.receiptUnitShare p).port p).receipts = { queue := [], reserved := 0 } := by
      rw [State.receiptUnitShare, port_modPort_self]
      rfl
    refine reservationLaw_report (reservationLaw_modPort p hs ⟨fun h' => ?_, fun h' => ⟨fun ha => ?_, fun _ => hr⟩⟩)
      (fun e => by cases e) fun _ => hr
    · rw [online_modPort _ _ _ _ rfl] at h'
      exact absurd (hoff.symm.trans h') (by decide)
    · rw [receiptsOwed_of_records (modPort_records ..)]
      refine ((hs p).2 hoff).1 ?_
      rwa [awaits_congr (s := s) (by rw [port_modPort_self])] at ha
  | enter p d =>
    have hst : ((s.modPort p fun x => { x with state := .resetting d allReports }).port p).state =
        .resetting d allReports := by rw [port_modPort_self]
    have ha (b : ShareBlock) : (s.modPort p fun x => { x with state := .resetting d allReports }).awaits p (.share b) =
        true := by
      unfold State.awaits
      rw [hst]
      cases b <;> rfl
    refine reservationLaw_modPort p hs ⟨fun h' => ?_, fun _ => ⟨fun h' => ?_, fun h' => ?_⟩⟩
    · unfold State.online at h'
      rw [hst] at h'
      cases h'
    · exact absurd ((ha _).symm.trans h') (by decide)
    · exact absurd ((ha _).symm.trans h') (by decide)
  | pendDisable p =>
    have hst : ((s.modPort p fun x => { x with state := x.state.pendDisable }).port p).state =
        (s.port p).state.pendDisable := by rw [port_modPort_self]
    have ho : (s.modPort p fun x => { x with state := x.state.pendDisable }).online p = s.online p := by
      unfold State.online
      rw [hst]
      cases (s.port p).state <;> rfl
    have ha (r : Report) : (s.modPort p fun x => { x with state := x.state.pendDisable }).awaits p r = s.awaits p r := by
      unfold State.awaits
      rw [hst]
      cases (s.port p).state <;> rfl
    refine reservationLaw_modPort p hs ?_
    unfold State.ReservationLawAt
    rw [ho, ha, ha, port_modPort_self, receiptsOwed_of_records (modPort_records ..)]
    exact hs p
  | online p h =>
    have hoff : s.online p = false := by simp [State.online, h]
    have ha (r : Report) : s.awaits p r = false := by
      unfold State.awaits
      rw [h]
    obtain ⟨h1, h2⟩ := (hs p).2 hoff
    refine reservationLaw_modPort p hs ⟨fun _ => ?_, fun h' => ?_⟩
    · rw [port_modPort_self, receiptsOwed_of_records (modPort_records ..), h1 (ha _)]
      dsimp only
      rw [h2 (ha _)]
    · unfold State.online at h'
      rw [port_modPort_self] at h'
      cases h'
  | enable p h =>
    have hoff : s.online p = false := by simp [State.online, h]
    have ha (r : Report) : s.awaits p r = false := by
      unfold State.awaits
      rw [h]
    obtain ⟨h1, h2⟩ := (hs p).2 hoff
    refine reservationLaw_modPort p hs ⟨fun h' => ?_, fun _ => ⟨fun _ => ?_, fun _ => ?_⟩⟩
    · unfold State.online at h'
      rw [port_modPort_self] at h'
      cases h'
    · rw [receiptsOwed_of_records (modPort_records ..)]
      exact h1 (ha _)
    · rw [port_modPort_self]
      exact h2 (ha _)
  | _ => exact hs

/-! ## The laws at the end of chip reset -/

theorem record_afterChipReset (pins : Vector Bool 4) (l : List Instr) (r : RecId) :
    (State.afterChipReset pins l).record r = .free := by
  simp [State.record, State.afterChipReset]

theorem held_afterChipReset (pins : Vector Bool 4) (l : List Instr) (r : RecId) :
    (State.afterChipReset pins l).held r = none := by
  rw [State.held, record_afterChipReset]
  rfl

/-- The state of a port at the end of chip reset: P0 OFFLINE, the others DISABLED (R148). -/
def firstPortState (p : Port) : PortState :=
  if p = 0 then .offline else .disabled

theorem port_afterChipReset (pins : Vector Bool 4) (l : List Instr) (p : Port) :
    (State.afterChipReset pins l).port p = PortRec.reset (firstPortState p) pins[p] := by
  fin_cases p <;> rfl

theorem endpoint_afterChipReset (pins : Vector Bool 4) (l : List Instr) (e : EpId) :
    (State.afterChipReset pins l).endpoint e = Endpoint.reset := by
  simp [State.endpoint, State.afterChipReset]

theorem channel_afterChipReset (pins : Vector Bool 4) (l : List Instr) (c : ChanId) :
    (State.afterChipReset pins l).channel c = .free := by
  simp [State.channel, State.afterChipReset]

theorem group_afterChipReset (pins : Vector Bool 4) (l : List Instr) (g : GroupId) :
    (State.afterChipReset pins l).group g = .free := by
  simp [State.group, State.afterChipReset]

theorem memoryLaw_afterChipReset (pins : Vector Bool 4) (l : List Instr) : (State.afterChipReset pins l).MemoryLaw :=
  memory_wf_nil

theorem rangeLaw_afterChipReset (pins : Vector Bool 4) (l : List Instr) : (State.afterChipReset pins l).RangeLaw := by
  refine ⟨fun p => ?_, ?_⟩
  · rw [port_afterChipReset]
    unfold PortRec.reset Staging.reset ReadBuffer.reset Account.reset
    simp only
    decide
  · unfold State.afterChipReset DeviceConfig.reset
    simp only
    decide

theorem linkLaw_afterChipReset (pins : Vector Bool 4) (l : List Instr) : (State.afterChipReset pins l).LinkLaw := by
  refine ⟨fun e => ?_, fun c => ?_, fun g => ?_⟩
  · rw [State.role, endpoint_afterChipReset]
    decide
  · rw [channel_afterChipReset]
    trivial
  · rw [group_afterChipReset]
    trivial

theorem blockLaw_afterChipReset (pins : Vector Bool 4) (l : List Instr) : (State.afterChipReset pins l).BlockLaw := by
  have none_held (r : RecId) : (State.afterChipReset pins l).blocksOf r = none := by
    rw [blocksOf_eq_held, held_afterChipReset]
    rfl
  have free (b : BlockId) : (State.afterChipReset pins l).blockPlaces[b] = .free := by simp [State.afterChipReset]
  rw [blockLaw_iff]
  generalize State.afterChipReset pins l = s at *
  simp [none_held, free]

theorem chargeLaw_afterChipReset (pins : Vector Bool 4) (l : List Instr) : (State.afterChipReset pins l).ChargeLaw := by
  rw [chargeLaw_iff]
  intro p
  simp [held_afterChipReset, port_afterChipReset, chargeOf, PortRec.reset, Account.reset]

theorem receiptLaw_afterChipReset (pins : Vector Bool 4) (l : List Instr) : (State.afterChipReset pins l).ReceiptLaw := by
  intro p
  rw [port_afterChipReset]
  exact Nat.zero_le 16

theorem reservationLaw_afterChipReset (pins : Vector Bool 4) (l : List Instr) :
    (State.afterChipReset pins l).ReservationLaw := by
  intro p
  have h0 : (State.afterChipReset pins l).receiptsOwed p = 0 := by
    simp [receiptsOwed_eq, held_afterChipReset, owes]
  rw [h0, port_afterChipReset]
  exact ⟨fun _ => rfl, fun _ => ⟨fun _ => rfl, fun _ => rfl⟩⟩

/-! ## Every step keeps the laws -/

/-- A law that reads no host register is not concerned by a write to one. -/
theorem rangeLaw_host (s : State) (p : Port) (f : HostInterface → HostInterface) (h : s.RangeLaw) :
    (s.modPort p fun x => { x with host := f x.host }).RangeLaw :=
  rangeLaw_modPort_same h rfl rfl rfl

/-- Settles O7: the canonical form is kept by every write of bytes, and nothing else writes the memory. -/
theorem memoryLawKept : Obligations.MemoryLawKept :=
  fun _ _ hs h => step_keeps (fun _ _ => memoryLaw_move) (fun _ _ _ h => h) memoryLaw_afterChipReset hs h

/-- Settles O10: receipts are posted out of reservations, and reservations rise and fall with the records that ask for
a receipt. -/
theorem receiptLawKept : Obligations.ReceiptLawKept :=
  ⟨fun _ _ hs h => step_keeps (fun _ _ => receiptLaw_move) (fun _ p _ h => receiptLaw_modPort p h (h p))
      receiptLaw_afterChipReset hs h,
    fun _ _ hs h => step_keeps (fun _ _ => reservationLaw_move)
      (fun _ p _ h => reservationLaw_modPort_same p h rfl rfl) reservationLaw_afterChipReset hs h⟩

/-- Settles O11: a block moves with the allocation and the release of its record alone. -/
theorem blockLawKept : Obligations.BlockLawKept :=
  fun _ _ hs h => step_keeps (fun _ _ => blockLaw_move) (fun _ _ _ h => h) blockLaw_afterChipReset hs h

/-- Settles O12: an allocation charges what its record holds, and its release gives as much back. -/
theorem chargeLawKept : Obligations.ChargeLawKept :=
  fun _ _ hs h => step_keeps (fun _ _ => chargeLaw_move) (fun _ p _ h => chargeLaw_modPort p h ⟨rfl, rfl⟩)
    chargeLaw_afterChipReset hs h

/-- Settles O13: every command checks the ranges of what it writes. -/
theorem rangeLawsKept : Obligations.RangeLawsKept :=
  ⟨fun _ _ hs h => step_keeps (fun _ _ => rangeLaw_move) rangeLaw_host rangeLaw_afterChipReset hs h,
    fun _ _ hs h => step_keeps (fun _ _ => linkLaw_move) (fun _ _ _ h => h) linkLaw_afterChipReset hs h⟩

end Sys2Proof.Machine
end

section
/-! The state at the end of chip reset: its values, and every law. -/

namespace Sys2Proof.Machine

section
variable (pins : Vector Bool 4) (l : List Instr)

theorem role_afterChipReset (e : EpId) : (State.afterChipReset pins l).role e = .idle := by
  rw [State.role, endpoint_afterChipReset]
  rfl

/-- At the end of chip reset no port is in RESETTING, so no report is due (R148). -/
theorem awaits_afterChipReset (p : Port) (r : Report) : (State.afterChipReset pins l).awaits p r = false := by
  have hst : ((State.afterChipReset pins l).port p).state = firstPortState p := by
    rw [port_afterChipReset]
    rfl
  unfold State.awaits
  rw [hst]
  unfold firstPortState
  by_cases h : p = 0
  · rw [if_pos h]
  · rw [if_neg h]

theorem not_requests_afterChipReset (q : Requester) : ¬(State.afterChipReset pins l).Requests q := by
  simp [State.Requests, State.afterChipReset, Arbiter.reset]

theorem attentionLaw_afterChipReset : (State.afterChipReset pins l).AttentionLaw := by
  intro p
  rw [port_afterChipReset]
  show Attention.reset.Law
  refine ⟨?_, ?_, ?_, ?_⟩ <;> decide

theorem notificationLaw_afterChipReset : (State.afterChipReset pins l).NotificationLaw := by
  intro p
  rw [port_afterChipReset]
  unfold PortRec.NotificationLaw PortRec.reset
  simp only
  decide

end

/-! ## The values at reset -/

theorem port_reset_state (p : Port) : (State.reset.port p).state = firstPortState p := by
  rw [State.reset, port_afterChipReset]
  rfl

/-- At reset no port's reset input is asserted. -/
theorem port_reset (p : Port) : State.reset.port p = PortRec.reset (firstPortState p) false := by
  rw [State.reset, port_afterChipReset]
  congr 1
  fin_cases p <;> rfl

/-- Settles O4: the vectors of chip reset are replications of the reset values. -/
theorem resetValues : Obligations.ResetValues := by
  unfold Obligations.ResetValues
  refine ⟨fun e => ?_, channel_afterChipReset _ _, group_afterChipReset _ _, record_afterChipReset _ _, fun b => ?_,
    fun a => ?_, fun q => ?_, rfl, rfl, rfl, rfl, rfl, fun p hp => ?_, fun p k => ?_, fun p => ?_⟩
  · have h : State.reset.endpoint e = Endpoint.reset := endpoint_afterChipReset _ _ e
    rw [State.role, h]
    exact ⟨rfl, rfl, rfl, rfl, rfl⟩
  · simp [State.reset, State.afterChipReset]
  · rfl
  · simp [State.reset, State.afterChipReset, Arbiter.reset]
  · rw [port_reset_state, firstPortState, if_neg hp]
  · rw [port_reset]
    simp [PortRec.reset, Staging.reset, ReadBuffer.reset]
  · have ha (n : Fin 5) : State.reset.arg p n = 0#16 := by
      rw [State.arg, port_reset]
      simp [PortRec.reset, HostInterface.reset]
    have hs (it : Item) : (State.reset.port p).attention.sets[it] = 0#16 := by
      rw [port_reset]
      simp [PortRec.reset, Attention.reset]
    rw [port_reset] at hs ⊢
    exact ⟨rfl, rfl, rfl, rfl, rfl, rfl, rfl, rfl, rfl, rfl, rfl, rfl, rfl, rfl, hs, rfl, rfl, rfl, rfl, rfl, rfl, rfl,
      rfl, ha, rfl, rfl, rfl, rfl⟩

/-! ## Coherence at the end of chip reset -/

section
variable (pins : Vector Bool 4) (l : List Instr)

theorem holderLaw_afterChipReset : (State.afterChipReset pins l).HolderLaw := by
  intro r
  rw [record_afterChipReset]
  simp [State.entryCount, State.fetchCount, State.copyInCount, role_afterChipReset, Role.queue, port_afterChipReset,
    PortRec.reset]

theorem queueLaw_afterChipReset : (State.afterChipReset pins l).QueueLaw := by
  intro e
  rw [role_afterChipReset]
  simp [Role.queue, Role.depth]

theorem namesLaw_afterChipReset : (State.afterChipReset pins l).NamesLaw := by
  refine ⟨fun e => ?_, fun c => ?_, fun g x h => ?_⟩
  · unfold State.NamesBack
    rw [role_afterChipReset]
    trivial
  · rw [channel_afterChipReset]
    exact ⟨trivial, trivial⟩
  · rw [group_afterChipReset] at h
    cases h

theorem accountLaw_afterChipReset : (State.afterChipReset pins l).AccountLaw := by
  intro c
  rw [channel_afterChipReset]
  intro d
  simp [State.recordsOn, record_afterChipReset, MsgRecord.message?]

theorem copyLaw_afterChipReset : (State.afterChipReset pins l).CopyLaw := by
  intro g
  rw [group_afterChipReset]
  simp [State.copiesOf, record_afterChipReset]

theorem outOfServiceLaw_afterChipReset : (State.afterChipReset pins l).OutOfServiceLaw := by
  intro p
  have hst : ∀ d, ((State.afterChipReset pins l).port p).state ≠ .resetting d [] := by
    intro d
    rw [port_afterChipReset]
    show firstPortState p ≠ _
    unfold firstPortState
    split <;> exact fun h => by cases h
  refine ⟨hst false, hst true, fun _ => ?_⟩
  rw [port_afterChipReset]
  refine ⟨rfl, rfl, rfl, fun _ e => endpoint_afterChipReset .., fun _ c e he => ?_, fun _ g e he => ?_, fun _ => rfl,
    fun _ => ⟨rfl, rfl, rfl, rfl, rfl⟩, fun _ => rfl, fun _ => rfl⟩
  · rw [channel_afterChipReset] at he
    cases he
  · rw [group_afterChipReset] at he
    cases he

theorem unitLaw_afterChipReset : (State.afterChipReset pins l).UnitLaw := by
  refine ⟨⟨fun _ q => ?_, fun q h => ?_⟩, fun r m h => ?_, fun p => ⟨⟨?_, ?_, ?_, ?_⟩, ?_, ?_, ?_, ?_⟩⟩
  · simp [State.afterChipReset, Arbiter.reset]
  · cases h
  · rw [record_afterChipReset] at h
    cases h
  all_goals rw [port_afterChipReset]
  · intro u h
    cases h
  · exact fun _ => not_requests_afterChipReset pins l _
  · exact ⟨fun h => (by cases h), fun ⟨u, h, _⟩ => by cases h⟩
  · rw [awaits_afterChipReset]
    exact ⟨fun h => (by cases h), fun ⟨u, h, _⟩ => by cases h⟩
  · intro u h
    cases h
  · exact fun _ => not_requests_afterChipReset pins l _
  · exact ⟨fun h => (by cases h), fun ⟨u, h, _⟩ => by cases h⟩
  · rw [awaits_afterChipReset]
    exact ⟨fun h => (by cases h), fun ⟨u, h, _⟩ => by cases h⟩

theorem coherent_afterChipReset : (State.afterChipReset pins l).Coherent :=
  ⟨holderLaw_afterChipReset pins l, queueLaw_afterChipReset pins l, namesLaw_afterChipReset pins l,
    accountLaw_afterChipReset pins l,
    copyLaw_afterChipReset pins l, outOfServiceLaw_afterChipReset pins l, unitLaw_afterChipReset pins l⟩

end

/-- Settles O5: reset is the end of chip reset with nothing pending. -/
theorem lawsHoldAtReset : Obligations.LawsHoldAtReset :=
  ⟨memoryLaw_afterChipReset _ _, attentionLaw_afterChipReset _ _, notificationLaw_afterChipReset _ _,
    receiptLaw_afterChipReset _ _, blockLaw_afterChipReset _ _, chargeLaw_afterChipReset _ _,
    rangeLaw_afterChipReset _ _, linkLaw_afterChipReset _ _, coherent_afterChipReset _ _,
    reservationLaw_afterChipReset _ _⟩

end Sys2Proof.Machine
end

section
/-! The message memory, the arbiter and the end of a block transfer: what each does, and the statements about them. -/

namespace Sys2Proof.Machine

/-- An event outside chip reset is taken. -/
theorem taken_running {s u : State} (h : s.chipReset = false) : taken s u = .next u := by
  rw [taken, h]
  rfl

/-! ## The memory -/

/-- A write of 32 bytes to a block: what a read inside the block gives, and that one outside is unchanged. -/
theorem read_block {m : List Host.Cell} (hm : Memory.wf m = true) (b : BlockId) {l : List Byte} (hl : l.length = 32) :
    (∀ j : Fin 32, Memory.readByte (Memory.writeBytes m (blockBase b) l) (32 * b.val + j.val) = l.getD j.val 0#8) ∧
    ∀ a : Nat, a < 32 * b.val ∨ 32 * b.val + 32 ≤ a →
      Memory.readByte (Memory.writeBytes m (blockBase b) l) a = Memory.readByte m a := by
  have hle : blockBase b + l.length ≤ 4096 := hl ▸ blockBase_add_le b
  refine ⟨fun j => ?_, fun a ha => ?_⟩
  · rw [read_writeBytes l hm hle, if_pos (by unfold blockBase; omega)]
    congr 1
    unfold blockBase
    omega
  · rw [read_writeBytes l hm hle, if_neg (by unfold blockBase; omega)]

theorem writeBlock_memory (s : State) (b : BlockId) (l : List Byte) :
    (s.writeBlock b l).memory = Memory.writeBytes s.memory (blockBase b) l := rfl

/-- Settles O49: the fault is a write of 32 bytes, and only the block's check code is changed. -/
theorem memoryFaultSpoilsOneBlock : Obligations.MemoryFaultSpoilsOneBlock := by
  intro b contents s hrun hm hlen
  have hl : (contents.take 32).length = 32 := by rw [List.length_take, hlen]; rfl
  obtain ⟨inside, outside⟩ := read_block hm b hl
  refine ⟨_, taken_running hrun, rfl, fun j => ?_, outside⟩
  rw [inside, List.take_of_length_le (Nat.le_of_eq hlen)]

/-- Byte j of the image of a block position. -/
theorem blockImage_getD (st : Staging) (length k : Nat) (j : Fin 32) :
    (st.blockImage length k).getD j.val 0#8 = st.messageByte length (32 * k + j.val) := by
  rw [Staging.blockImage, List.getD_eq_getElem?_getD, List.getElem?_map, List.getElem?_range j.isLt]
  rfl

/-- A block write of a transfer, in the terms of the statements. -/
theorem blockWritten_writeBlock {s : State} (hm : s.MemoryLaw) (b : BlockId) (st : Staging) (length k : Nat) :
    s.BlockWritten (s.writeBlock b (st.blockImage length k)) b st length k := by
  obtain ⟨inside, outside⟩ := read_block hm b (blockImage_length st length k)
  refine ⟨rfl, fun j => ?_, fun a ha => ?_⟩
  · rw [writeBlock_memory, inside, blockImage_getD]
    rfl
  · rw [writeBlock_memory, outside a ha]

/-! ## The arbiter -/

theorem Arbiter.grant_of_busy {a : Arbiter} {q : Requester} (h : a.inProgress = some q) : a.grant = a := by
  rw [Arbiter.grant, h]

theorem Arbiter.grant_of_none {a : Arbiter} (h : a.inProgress = none) (hf : a.first? = none) : a.grant = a := by
  simp only [Arbiter.grant, h, hf]

theorem Arbiter.grant_of_some {a : Arbiter} {q : Requester} (h : a.inProgress = none) (hf : a.first? = some q) :
    a.grant = { waiting := a.waiting.set q false, inProgress := some q, pointer := q + 1 } := by
  simp only [Arbiter.grant, h, hf]

/-- The first requester is the nearest that waits, counted from the pointer. -/
theorem Arbiter.first?_eq_some {a : Arbiter} {q : Requester} :
    a.first? = some q ↔
      a.waiting[q] = true ∧ ∃ k : Requester, q = a.pointer + k ∧ ∀ j : Requester, j < k → a.waiting[a.pointer + j] = false := by
  unfold Arbiter.first?
  rw [List.find?_eq_some_iff_getElem]
  refine and_congr Iff.rfl ⟨?_, ?_⟩
  · rintro ⟨i, hi, he, hlt⟩
    have hi8 : i < 8 := by simpa using hi
    refine ⟨⟨i, hi8⟩, by simpa using he.symm, fun j hj => ?_⟩
    simpa using hlt j.val hj
  · rintro ⟨k, rfl, hk⟩
    refine ⟨k.val, by simp, by simp, fun j hj => ?_⟩
    have hjk : (⟨j, hj.trans k.isLt⟩ : Requester) < k := hj
    simpa using hk ⟨j, hj.trans k.isLt⟩ hjk

theorem Arbiter.first?_eq_none {a : Arbiter} (h : ∀ q : Requester, a.waiting[q] = false) : a.first? = none := by
  unfold Arbiter.first?
  rw [List.find?_eq_none]
  intro q _
  rw [h q]
  decide

/-- Of two requesters counted from the pointer, the farther one comes nearer when the pointer passes the other. -/
theorem Requester.nearer (k n : Requester) (h : k < n) : (n - (k + 1)).val < n.val := by
  revert k n
  decide

/-- Settles O50: the arbiter takes the first waiting requester from the pointer on, and puts the pointer behind it. -/
theorem arbiterRotates : Obligations.ArbiterRotates := by
  intro a
  refine ⟨fun q h => Arbiter.grant_of_busy h, fun hfree h => ?_, fun k q hq hfree hw hlt => ?_, fun q g hfree hw hg hne => ?_⟩
  · exact Arbiter.grant_of_none hfree (Arbiter.first?_eq_none h)
  · exact Arbiter.grant_of_some hfree (Arbiter.first?_eq_some.2 ⟨hw, k, hq, fun j hj => hlt j _ hj rfl⟩)
  · cases hf : a.first? with
    | none =>
      rw [Arbiter.grant_of_none hfree hf, hfree] at hg
      cases hg
    | some q' =>
      rw [Arbiter.grant_of_some hfree hf] at hg ⊢
      obtain rfl : q' = g := Option.some.inj hg
      obtain ⟨-, k, hk, hlt⟩ := Arbiter.first?_eq_some.1 hf
      have hkq : k < q - a.pointer := by
        by_contra hle
        rcases lt_or_eq_of_le (not_lt.1 hle) with h | h
        · have hq := hlt _ h
          simp only [add_sub_cancel, hw] at hq
          cases hq
        · exact hne (by rw [hk, ← h, add_sub_cancel])
      refine ⟨?_, ?_⟩
      · simp only [Fin.getElem_fin]
        rw [Vector.getElem_set_ne _ _ fun e => hne (Fin.ext e)]
        exact hw
      · have := Requester.nearer k (q - a.pointer) hkq
        show (q - (q' + 1)).val < (q - a.pointer).val
        rwa [hk, add_assoc, ← sub_sub]

/-! ## The unit whose block transfer ends -/

theorem requesterPort_send (p : Port) : requesterPort (sendRequester p) = p :=
  Fin.ext (Nat.mul_div_cancel_left p.val (by decide))

theorem requesterPort_fetch (p : Port) : requesterPort (fetchRequester p) = p := by
  refine Fin.ext ?_
  show (2 * p.val + 1) / 2 = p.val
  omega

/-- The port is free of its transfer. -/
def State.freed (s : State) : State :=
  { s with arbiter := { s.arbiter with inProgress := none } }

theorem blockTransferEnd_idle {s : State} (h : s.arbiter.inProgress = none) : s.blockTransferEnd = s := by
  rw [State.blockTransferEnd, h]

theorem blockTransferEnd_send {s : State} {p : Port} {u : CopyIn} (h : s.arbiter.inProgress = some (sendRequester p))
    (hu : (s.port p).sendUnit = some u) : s.blockTransferEnd = (s.freed.sendTransferEnd p u).grant := by
  have he : s.freed.unitTransferEnd (sendRequester p) = s.freed.sendTransferEnd p u := by
    unfold State.unitTransferEnd
    rw [if_pos (show (sendRequester p).val % 2 = 0 from Nat.mul_mod_right 2 p.val), requesterPort_send,
      show (s.freed.port p).sendUnit = some u from hu]
  rw [State.blockTransferEnd, h, ← he]
  rfl

theorem blockTransferEnd_fetch {s : State} {p : Port} {u : CopyOut} (h : s.arbiter.inProgress = some (fetchRequester p))
    (hu : (s.port p).fetchUnit = some u) : s.blockTransferEnd = (s.freed.fetchTransferEnd p u).grant := by
  have he : s.freed.unitTransferEnd (fetchRequester p) = s.freed.fetchTransferEnd p u := by
    have hodd : ¬(fetchRequester p).val % 2 = 0 := by
      show ¬(2 * p.val + 1) % 2 = 0
      omega
    unfold State.unitTransferEnd
    rw [if_neg hodd, requesterPort_fetch,
      show (s.freed.port p).fetchUnit = some u from hu]
  rw [State.blockTransferEnd, h, ← he]
  rfl

/-- The block write of a position that the record has. -/
theorem writePosition_eq {s : State} {r : RecId} {m : Message} {k : Nat} {b : BlockId} (p : Port)
    (hr : (s.record r).message? = some m) (hb : m.blocks[k]? = some b) :
    s.writePosition p r k = s.writeBlock b ((s.port p).staging.blockImage m.length k) := by
  simp only [State.writePosition, hr, hb]

/-- Settles O51: the block's image is written, and what follows is the next request or the completion. -/
theorem copyInWritesBlocks : Obligations.CopyInWritesBlocks := by
  refine ⟨fun s p u m b hrun => ⟨fun h => ?_, fun h hu hc hn hr hb hm => ?_⟩, fun s p u m b hrun h hu hc hn hr hb => ?_⟩
  · show taken s s.blockTransferEnd = _
    rw [taken_running hrun, blockTransferEnd_idle h]
  · have hw : s.freed.writePosition p u.record u.next =
        s.freed.writeBlock b ((s.port p).staging.blockImage m.length u.next) :=
      writePosition_eq p (by rw [show s.freed.record u.record = .filling m from hr]; rfl) hb
    obtain ⟨-, inside, outside⟩ := blockWritten_writeBlock hm b (s.port p).staging m.length u.next
    generalize (s.port p).staging.blockImage m.length u.next = image at hw inside outside
    refine ⟨(((s.freed.writeBlock b image).modPort p fun x =>
        { x with sendUnit := some { u with next := u.next + 1, remaining := u.remaining - 1 } }).placeRequest
        (sendRequester p)).grant, (taken_running hrun).trans (congrArg _ ?_), ?_, rfl, inside, outside⟩
    · rw [blockTransferEnd_send h hu, State.sendTransferEnd, hw, hc, if_neg (by decide), if_neg (by omega)]
    · exact congrArg PortRec.sendUnit
        (port_modPort_self (s.freed.writeBlock b image) p fun x =>
          { x with sendUnit := some { u with next := u.next + 1, remaining := u.remaining - 1 } })
  · have hw : s.freed.writePosition p u.record u.next =
        s.freed.writeBlock b ((s.port p).staging.blockImage m.length u.next) :=
      writePosition_eq p (by rw [show s.freed.record u.record = .filling m from hr]; rfl) hb
    show taken s s.blockTransferEnd = _
    rw [taken_running hrun, blockTransferEnd_send h hu, State.sendTransferEnd, hw, hc, if_neg (by decide),
      if_pos (by omega)]
    rfl

/-! ## A block read of a fetch -/

/-- A change of a port depends on the port alone. -/
theorem modPort_congr {s : State} {p : Port} {f g : PortRec → PortRec} (h : f (s.port p) = g (s.port p)) :
    s.modPort p f = s.modPort p g := by
  unfold State.modPort
  rw [show f s.ports[p] = g s.ports[p] from h]

/-- The block that a copy-out reads at a position that the record has. -/
theorem blockAt?_eq {s : State} {r : RecId} {m : Message} {k : Nat} {b : BlockId} (hr : (s.record r).message? = some m)
    (hb : m.blocks[k]? = some b) : s.blockAt? r k = some b := by
  rw [State.blockAt?, hr]
  exact hb

/-- A bad mark on a LIVE record is on its message. -/
theorem badMark_live {s : State} {r : RecId} {m : Message} {dl : Option Time} (b : BlockId) (hr : s.record r = .live m dl) :
    s.badMark r b =
      s.setRecord r
        (.live
          { m with badMarks := if m.badMarks.contains b then m.badMarks else m.badMarks ++ [b], damaged := true } dl) := by
  rw [State.badMark, State.modMessage, hr]
  rfl

/-- Settles O53: the words go to the buffer, and the check code decides on the FAIL actions. -/
theorem copyOutReadsOneBlock : Obligations.CopyOutReadsOneBlock := by
  intro s p u m dl b hrun h hu hc hr hb s0 words read failed s1
  have hwords : s.freed.blockWords b = (List.range 16).map fun i =>
      Memory.readByte s.memory (32 * b.val + 2 * i + 1) ++ Memory.readByte s.memory (32 * b.val + 2 * i) :=
    List.map_congr_left fun _ _ => rfl
  have hread : s.freed.storeRead p u.next b = read := by
    rw [State.storeRead, hwords]
    exact modPort_congr rfl
  have hfail : read.failActions p u.record b = failed := by
    rw [State.failActions, badMark_live b (show read.record u.record = .live m dl from hr)]
  have htake : s.freed.takeRead p u = s1 := by
    rw [State.takeRead, blockAt?_eq (by rw [show s.freed.record u.record = .live m dl from hr]; rfl) hb]
    show (if s.badChecks[b] = true then (s.freed.storeRead p u.next b).failActions p u.record b
      else s.freed.storeRead p u.next b) = if s.badChecks[b] = true then failed else read
    rw [hread, hfail]
  have hend : exec .blockTransferEnd s = .next (s.freed.fetchTransferEnd p u).grant := by
    show taken s s.blockTransferEnd = _
    rw [taken_running hrun, blockTransferEnd_fetch h hu]
  rw [hend, State.fetchTransferEnd, htake, hc, if_neg (by decide)]
  refine ⟨fun hn => ?_, fun hn => ?_⟩
  · rw [if_neg (by omega)]
  · rw [if_pos (by omega)]

end Sys2Proof.Machine
end

section
/-! What no command but a few changes: the message memory, and what a host reads back of its commands. -/

namespace Sys2Proof.Machine

/-! ## The message memory -/

theorem answer_store {s t : State} {p : Port} {refusal : Option ResultCode} {acc : State × Word}
    (h : answer s p refusal acc = .next t) (ha : acc.1.store = s.store) : t.store = s.store := by
  rcases answer_cases h with rfl | ⟨code, rfl⟩ | ⟨-, -, rfl⟩
  · rfl
  · rfl
  · exact ha

theorem taken_store {s t u : State} (h : taken s u = .next t) (hu : u.store = s.store) : t.store = s.store := by
  rcases taken_cases h with rfl | ⟨-, rfl⟩
  · rfl
  · exact hu

theorem acceptOpen_store (s : State) (p : Port) (w : Word) : (acceptOpen s p w).1.store = s.store := by
  unfold acceptOpen
  split
  · rfl
  · exact placeRequestOn_store ..

theorem acceptAccept_store (s : State) (p : Port) (w : Word) : (acceptAccept s p w).1.store = s.store := by
  unfold acceptAccept
  split
  · rfl
  · split
    · exact openAgreed_store ..
    all_goals rfl

theorem acceptSend_store (s : State) (p : Port) (w : Word) : (acceptSend s p w).1.store = s.store := by
  unfold acceptSend
  dsimp only
  split
  · exact (beginChannelCopy_store ..).trans (acceptChannelMessage_store ..)
  all_goals rfl

theorem acceptFetch_store (s : State) (p : Port) (w : Word) : (acceptFetch s p w).1.store = s.store := by
  unfold acceptFetch
  dsimp only
  split
  · rfl
  · split
    · exact removeHead_store ..
    · exact fetchHead_store ..

theorem acceptCreate_store (s : State) (p : Port) (w : Word) : (acceptCreate s p w).1.store = s.store := by
  unfold acceptCreate
  split <;> rfl

theorem acceptJoin_store (s : State) (p : Port) (w : Word) : (acceptJoin s p w).1.store = s.store := by
  unfold acceptJoin
  dsimp only
  split
  · rfl
  · exact setEndpointCond_store ..

theorem acceptPublish_store (s : State) (p : Port) (w : Word) : (acceptPublish s p w).1.store = s.store := by
  unfold acceptPublish
  dsimp only
  split
  · exact (beginGroupCopy_store ..).trans (acceptGroupMessage_store ..)
  all_goals rfl

/-- A command that does not reach the memory leaves it and the check codes alone. -/
theorem exec_store {i : Instr} {s t : State} (hi : i.reachesMemory = false) (h : exec i s = .next t) :
    t.store = s.store := by
  cases i with
  | listen p w => exact answer_store h rfl
  | openChannel p w => exact answer_store h (acceptOpen_store ..)
  | accept p w => exact answer_store h (acceptAccept_store ..)
  | reject p w => exact answer_store h (rejectAt_store ..)
  | close p w => exact answer_store h (closeAtRole_store ..)
  | send p w => exact answer_store h (acceptSend_store ..)
  | fetch p w => exact answer_store h (acceptFetch_store ..)
  | create p w => exact answer_store h (acceptCreate_store ..)
  | policy p w => exact answer_store h (setPolicy_store ..)
  | join p w => exact answer_store h (acceptJoin_store ..)
  | publish p w => exact answer_store h (acceptPublish_store ..)
  | ack p w => exact answer_store h rfl
  | popReceipt p w => exact answer_store h rfl
  | nudge p w => exact answer_store h (nudgeFrom_store ..)
  | notifySet p w => exact answer_store h rfl
  | mask p w => exact answer_store h rfl
  | online p w => exact answer_store h (tellPeers_store ..)
  | offline p w l => exact answer_store h (enterReset_store ..)
  | enablePort p w => exact answer_store h rfl
  | disablePort p w l => exact answer_store h (disableTarget_store ..)
  | resetPort p w l => exact answer_store h (enterReset_store ..)
  | setQuota p w => exact answer_store h rfl
  | setTiming p w => exact answer_store h rfl
  | stageData p w => exact taken_store h (by split <;> rfl)
  | stagePtr p w => exact taken_store h (by split <;> rfl)
  | rbData p =>
    injection h with h
    exact h ▸ rfl
  | rbPtr p w => exact taken_store h (by split <;> rfl)
  | viewSel p w => exact taken_store h (by split <;> rfl)
  | timeLo p =>
    injection h with h
    exact h ▸ rfl
  | argWrite p n w => exact taken_store h rfl
  | ignoredWrite p a w => exact taken_store h rfl
  | resetInputAssertion p l =>
    have h' : execResetInputAssertion p l s = .next t := h
    unfold execResetInputAssertion at h'
    split at h'
    · injection h' with h'
      exact h' ▸ rfl
    · injection h' with h'
      subst h'
      split
      · exact enterReset_store ..
      · exact enterReset_store ..
      all_goals rfl
  | resetInputRelease p =>
    injection h with h
    exact h ▸ rfl
  | chipResetAssertion =>
    injection h with h
    exact h ▸ rfl
  | openTimeoutExpiry c =>
    refine taken_store h ?_
    split
    · split
      · exact timeOutRequest_store ..
      · rfl
    all_goals rfl
  | drainExpiry c =>
    refine taken_store h ?_
    split
    · split
      · exact teardown_store ..
      · rfl
    all_goals rfl
  | lifetimeExpiry r =>
    refine taken_store h ?_
    split
    · split
      · exact expire_store ..
      · rfl
    all_goals rfl
  | holdoffExpiry p =>
    refine taken_store h ?_
    split
    · rfl
    · split <;> rfl
  | memoryManagerResetShare p => exact taken_store h (takeShare_store ..)
  | endpointTableResetShare p => exact taken_store h (takeShare_store ..)
  | channelControllerResetShare p =>
    refine taken_store h ?_
    split
    · exact (reevaluateAll_store _).trans (takeShare_store ..)
    · rfl
  | groupControllerResetShare p => exact taken_store h (takeShare_store ..)
  | receiptUnitResetShare p => exact taken_store h (takeShare_store ..)
  | attentionResetShare p => exact taken_store h (takeShare_store ..)
  | memoryFault b l => cases hi
  | blockTransferEnd => cases hi
  | chipResetRelease => cases hi

theorem sameMemory_of_store {s t : State} (h : t.store = s.store) : s.SameMemory t :=
  ⟨fun a => by rw [memory_of_store h], badChecks_of_store h⟩

/-! ## What a host reads back of its commands -/

/-- The change of a port keeps what its host reads back. -/
theorem desk_modPort {s : State} (p : Port) {f : PortRec → PortRec} (h : (f (s.port p)).desk = (s.port p).desk) (q : Port) :
    ((s.modPort p f).port q).desk = (s.port q).desk :=
  modPort_part PortRec.desk s p f h q

theorem desk_of_cores {s t : State} (h : t.cores = s.cores) (q : Port) : (t.port q).desk = (s.port q).desk := by
  unfold PortRec.desk
  rw [host_of_cores h]

/-- No small move touches the arguments and the results of a host. -/
theorem desk_move {s t : State} (h : Move s t) (q : Port) : (t.port q).desk = (s.port q).desk := by
  cases h with
  | port p f h hd => exact desk_modPort p hd q
  | release r m c h => exact desk_of_cores (release_cores ..) q
  | takeIn p r m h =>
    rw [takeIn_port h.origin]
    split
    · next e => rw [e]; rfl
    · rfl
  | popReceipt p h => exact desk_modPort p rfl q
  | quota p b r hb hr => exact desk_modPort p rfl q
  | report p r h h' hr => exact desk_modPort p rfl q
  | memoryManager p h => exact desk_modPort (s := s.memoryManagerShare p) p rfl q
  | receiptUnit p h => exact (desk_modPort (s := s.receiptUnitShare p) p rfl q).trans (desk_modPort p rfl q)
  | enter p d => exact desk_modPort p rfl q
  | pendDisable p => exact desk_modPort p rfl q
  | online p h => exact desk_modPort p rfl q
  | enable p h => exact desk_modPort p rfl q
  | _ => rfl

theorem desk_moves {s t : State} (h : Moves s t) (q : Port) : (t.port q).desk = (s.port q).desk :=
  Moves.keep (P := fun u => (u.port q).desk = (s.port q).desk) (fun _ _ hm hs => (desk_move hm q).trans hs) h rfl

/-- The arguments change by ARG_WRITE of the port alone, and the results by the commands of the port alone. -/
theorem desk_exec {i : Instr} {s t : State} (q : Port) (h : exec i s = .next t) (hr : i ≠ .chipResetRelease) :
    ((∀ n w, i ≠ .argWrite q n w) → (t.port q).host.args = (s.port q).host.args) ∧
    (i.strobe? ≠ some q →
      (t.port q).host.result = (s.port q).host.result ∧ (t.port q).host.resultValue = (s.port q).host.resultValue) := by
  have of_desk {u : State} (hd : (u.port q).desk = (s.port q).desk) :
      (u.port q).host.args = (s.port q).host.args ∧ (u.port q).host.result = (s.port q).host.result ∧
        (u.port q).host.resultValue = (s.port q).host.resultValue := by
    simpa [PortRec.desk] using hd
  cases hi : i.strobe? with
  | some p =>
    rcases exec_commanded hi h with rfl | ⟨u, code, v, hu, rfl⟩
    · exact ⟨fun _ => rfl, fun _ => ⟨rfl, rfl⟩⟩
    · obtain ⟨h1, h2, h3⟩ := of_desk (desk_moves hu q)
      by_cases e : q = p
      · subst e
        refine ⟨fun _ => ?_, fun hne => absurd rfl hne⟩
        rw [State.setResult, port_modPort_self]
        exact h1
      · rw [State.setResult, port_modPort_ne _ _ e]
        exact ⟨fun _ => h1, fun _ => ⟨h2, h3⟩⟩
  | none =>
    by_cases ha : ∃ p n w, i = .argWrite p n w
    · obtain ⟨p, n, w, rfl⟩ := ha
      rcases taken_cases h with rfl | ⟨-, rfl⟩
      · exact ⟨fun _ => rfl, fun _ => ⟨rfl, rfl⟩⟩
      · by_cases e : q = p
        · subst e
          refine ⟨fun hne => absurd rfl (hne n w), fun _ => ?_⟩
          rw [port_modPort_self]
          exact ⟨rfl, rfl⟩
        · rw [port_modPort_ne _ _ e]
          exact ⟨fun _ => rfl, fun _ => ⟨rfl, rfl⟩⟩
    · obtain ⟨h1, h2, h3⟩ := of_desk (desk_moves (exec_event_moves hi (fun p n w e => ha ⟨p, n, w, e⟩) hr h) q)
      exact ⟨fun _ => h1, fun _ => ⟨h2, h3⟩⟩

/-- Settles O15: the store is in no command's reach but three, and no small move touches a host's registers. -/
theorem memoryAndResultFrames : Obligations.MemoryAndResultFrames :=
  ⟨fun _ _ _ hi h => sameMemory_of_store (exec_store hi h), fun _ _ _ q h hr => desk_exec q h hr⟩

end Sys2Proof.Machine
end

section
/-! Receipts and endings: what hands off no receipt, and the teardown of a channel, piece by piece. -/

namespace Sys2Proof.Machine

/-! ## Frames in the words of the statements -/

theorem sameClock_of_fixed {s t : State} (h : t.fixed = s.fixed) : s.SameClock t :=
  ⟨config_of_fixed h, now_of_fixed h, periodsLeft_of_fixed h, chipReset_of_fixed h, pending_of_fixed h⟩

theorem sameTransfers_of_cores {s t : State} (h : t.cores = s.cores) : s.SameTransfers t := by
  intro q
  have hq := core_of_cores h q
  simp only [PortRec.core, Prod.mk.injEq] at hq
  obtain ⟨-, -, -, -, hst, hsu, hso, hrb, hfu, hfo⟩ := hq
  exact ⟨hst, hrb, hsu, hfu, hso, hfo⟩

/-- The role of an endpoint that stays. -/
theorem role_congr {s t : State} {e : EpId} (h : t.endpoint e = s.endpoint e) : t.role e = s.role e :=
  congrArg Endpoint.role h

theorem endpoint_setRole (s : State) (e k : EpId) (r : Role) :
    (s.setRole e r).endpoint k = if k = e then { s.endpoint e with role := r } else s.endpoint k :=
  endpoint_modEndpoint ..

/-! ## What hands off no receipt -/

/-- From s to t no Receipt Unit changes, and RECEIPT stays where it stands. -/
structure State.KeepsReceipts (s t : State) : Prop where
  receipts : ∀ q, (t.port q).receipts = (s.port q).receipts
  stands : ∀ q, s.HasCond q portItem .receipt → t.HasCond q portItem .receipt

theorem State.KeepsReceipts.rfl (s : State) : s.KeepsReceipts s :=
  ⟨fun _ => Eq.refl _, fun _ h => h⟩

theorem State.KeepsReceipts.trans {s t u : State} (h : s.KeepsReceipts t) (h' : t.KeepsReceipts u) : s.KeepsReceipts u :=
  ⟨fun q => (h'.receipts q).trans (h.receipts q), fun q x => h'.stands q (h.stands q x)⟩

/-- What changes no receipt before and after, read from its end. -/
theorem State.KeepsReceipts.after {s t u : State} (h' : t.KeepsReceipts u) (h : s.KeepsReceipts t) : s.KeepsReceipts u :=
  h.trans h'

theorem State.KeepsReceipts.of_ports {s t : State} (h : t.ports = s.ports) : s.KeepsReceipts t :=
  ⟨fun q => by rw [port_congr h], fun _ => hasCond_of_ports h⟩

theorem State.KeepsReceipts.fold {α : Type} {f : State → α → State} (h : ∀ (s : State) a, s.KeepsReceipts (f s a)) :
    ∀ (l : List α) (s : State), s.KeepsReceipts (l.foldl f s)
  | [], s => .rfl s
  | a :: l, s => (h s a).trans (fold h l _)

/-- What follows without a hand-off. -/
theorem State.HandedOff.andThen {s t u : State} {a : Port → List Receipt} (h : s.HandedOff t a) (k : t.KeepsReceipts u) :
    s.HandedOff u a :=
  h.transport (fun _ => rfl) (fun _ => rfl) k.receipts k.stands

/-- What came before without a hand-off. -/
theorem State.HandedOff.after {s t u : State} {a : Port → List Receipt} (h : t.HandedOff u a) (k : s.KeepsReceipts t)
    (ho : ∀ q, t.online q = s.online q) : s.HandedOff u a :=
  h.transport (fun q => (k.receipts q).symm) (fun q => (ho q).symm) (fun _ => rfl) fun _ x => x

theorem State.KeepsReceipts.handedOff {s t : State} (k : s.KeepsReceipts t) : s.HandedOff t fun _ => [] :=
  State.HandedOff.nothing k.receipts

theorem keepsReceipts_modPort (s : State) (p : Port) (f : PortRec → PortRec)
    (h : (f (s.port p)).receipts = (s.port p).receipts) (ha : (f (s.port p)).attention = (s.port p).attention) :
    s.KeepsReceipts (s.modPort p f) :=
  ⟨modPort_part PortRec.receipts s p f h, fun _ => hasCond_modPort ha⟩

theorem setCond_keepsReceipts (s : State) (p : Port) (it : Item) (c : Cond) : s.KeepsReceipts (s.setCond p it c) :=
  ⟨setCond_receipts s p it c, fun _ => hasCond_setCond s p it c⟩

theorem setEndpointCond_keepsReceipts (s : State) (e : EpId) (c : Cond) : s.KeepsReceipts (s.setEndpointCond e c) :=
  setCond_keepsReceipts ..

theorem setRole_keepsReceipts (s : State) (e : EpId) (r : Role) : s.KeepsReceipts (s.setRole e r) :=
  .of_ports (setRole_ports ..)

theorem setChannel_keepsReceipts (s : State) (c : ChanId) (x : Channel) : s.KeepsReceipts (s.setChannel c x) :=
  .of_ports (setChannel_ports ..)

theorem closeAt_keepsReceipts (s : State) (e : EpId) (o : CloseOutcome) (n : Nat) : s.KeepsReceipts (s.closeAt e o n) := by
  unfold State.closeAt
  split
  · exact (setEndpointCond_keepsReceipts ..).after (.of_ports (modEndpoint_ports ..))
  · exact .rfl s

theorem drainTest_keepsReceipts (s : State) (c : ChanId) : s.KeepsReceipts (s.drainTest c) := by
  unfold State.drainTest
  split
  · split
    · exact (closeAt_keepsReceipts ..).after <| (closeAt_keepsReceipts ..).after <|
        (setRole_keepsReceipts ..).after <| (setRole_keepsReceipts ..).after (setChannel_keepsReceipts ..)
    · exact .rfl s
  all_goals exact .rfl s

theorem endMessageTransfer_keepsReceipts (s : State) (c : ChanId) (d : Dirn) (b : Bool) :
    s.KeepsReceipts (s.endMessageTransfer c d b) := by
  rw [endMessageTransfer_eq]
  exact (drainTest_keepsReceipts _ c).after (setChannel_keepsReceipts ..)

theorem endGroupCopy_keepsReceipts (s : State) (g : GroupId) : s.KeepsReceipts (s.endGroupCopy g) := by
  unfold State.endGroupCopy
  split <;> exact .of_ports rfl

/-! ## The receipt hand-off -/

theorem release_released (s : State) (r : RecId) (m : Message) (c : Cause) : s.Released (s.release r m c) r m := by
  refine ⟨release_record_self .., fun k hk => release_record_ne s m c hk, fun b hb => ?_, fun b hb => ?_⟩
  · rw [release_places, if_pos hb]
    rfl
  · rw [release_places, if_neg hb]

/-- A claim of the last holders is the release. -/
theorem claim_eq_release {s : State} {r : RecId} {m : Message} {n : Nat} (k : Option TallyKind) (c : Cause)
    (h : (s.record r).message? = some m) (hn : m.count ≤ n) : s.claim r n k c = s.release r (m.afterClaim n k) c := by
  have h0 : (m.afterClaim n k).count = 0 := Nat.sub_eq_zero_of_le hn
  unfold State.claim
  rw [h]
  exact if_pos h0

/-- A claim that leaves a holder lowers the count. -/
theorem claim_eq_modMessage {s : State} {r : RecId} {m : Message} {n : Nat} (k : Option TallyKind) (c : Cause)
    (h : (s.record r).message? = some m) (hn : n < m.count) :
    s.claim r n k c = s.modMessage r fun _ => m.afterClaim n k := by
  have h0 : (m.afterClaim n k).count ≠ 0 := Nat.sub_ne_zero_of_lt hn
  unfold State.claim
  rw [h]
  exact if_neg h0

/-- What the claim of a copy-in leaves of its record's message. -/
theorem afterClaim_last {m : Message} (h : m.count = 1) : m.afterClaim 1 none = { m with count := 0 } := by
  unfold Message.afterClaim
  rw [h]

/-- A receipt does not show how many holders there were. -/
theorem receiptAt_count (m : Message) (n : Nat) (c : Cause) (q : Port) :
    ({ m with count := n } : Message).receiptAt c q = m.receiptAt c q := rfl

/-- The claim of a copy-in releases its record (R10, R68, R72). -/
theorem claim_copyIn {s : State} {r : RecId} {m : Message} (c : Cause) (h : (s.record r).message? = some m)
    (h1 : m.count = 1) : s.claim r 1 none c = s.release r { m with count := 0 } c := by
  rw [claim_eq_release none c h (Nat.le_of_eq h1), afterClaim_last h1]

theorem claim_copyIn_handedOff {s : State} {r : RecId} {m : Message} (c : Cause) (h : (s.record r).message? = some m)
    (h1 : m.count = 1) : s.HandedOff (s.claim r 1 none c) (m.receiptAt c) := by
  rw [claim_copyIn c h h1]
  exact (release_handedOff s r _ c).congr fun q => receiptAt_count m 0 c q

/-- The outcome of a GROUP record's receipt: DISCARDED only when all its tallies are 0 (R99). -/
theorem receiptOutcome_group {m : Message} {g : GroupId} (c : Cause) (h : m.link = .group g) :
    receiptOutcome m c =
      if c = .discarded ∧ m.tallies.fetched = 0 ∧ m.tallies.expired = 0 ∧ m.tallies.discarded = 0 ∧
          m.tallies.skipped = 0 then .discarded
      else .group m.tallies := by
  have ht : m.tallies = { fetched := 0, expired := 0, discarded := 0, skipped := 0 } ↔
      m.tallies.fetched = 0 ∧ m.tallies.expired = 0 ∧ m.tallies.discarded = 0 ∧ m.tallies.skipped = 0 := by
    cases m.tallies
    simp
  unfold receiptOutcome
  rw [h]
  simp only [ht]

theorem receiptOutcome_channel {m : Message} {c : ChanId} {d : Dirn} (h : m.link = .channel c d) :
    receiptOutcome m .fetched = .fetched ∧ receiptOutcome m .expired = .expired ∧
      receiptOutcome m .discarded = .discarded := by
  unfold receiptOutcome
  rw [h]
  exact ⟨rfl, rfl, rfl⟩

/-- Settles O56: the hand-off by its two branches, and what each ending hands off. -/
theorem receiptHandOff : Obligations.ReceiptHandOff := by
  refine ⟨fun s p rc => ⟨fun ho hr => ?_, fun h => ?_⟩, fun s r m cause => ⟨release_released .., release_handedOff s r m cause,
    fun h => ⟨fun n k => ⟨fun hn => ?_, fun hn => ?_, claim_handedOff s n k cause h⟩, fun h1 => ?_⟩⟩,
    fun s l => bulkDiscard_handedOff s l, fun m cause => ⟨rfl, rfl, rfl, rfl, rfl, fun c d h => ?_, fun g h => ?_⟩⟩
  · exact if_pos ⟨ho, hr⟩
  · refine if_neg fun ⟨ho, hr⟩ => ?_
    rcases h with h | h
    · rw [ho] at h
      cases h
    · omega
  · exact claim_eq_release (some k) cause h hn
  · exact claim_eq_modMessage (some k) cause h hn
  · exact ⟨claim_copyIn cause h h1, claim_copyIn_handedOff cause h h1⟩
  · obtain ⟨h1, h2, h3⟩ := receiptOutcome_channel h
    exact ⟨fun e => e ▸ h1, fun e => e ▸ h2, fun e => e ▸ h3⟩
  · exact receiptOutcome_group cause h

/-! ## The teardown of a channel -/

/-- What the close outcome leaves of an endpoint, its port in service or not. -/
theorem closeAt_endpoint_eq (s : State) (e : EpId) (o : CloseOutcome) (n : Nat) (k : EpId) :
    (s.closeAt e o n).endpoint k =
      if k = e ∧ s.online (portOf e) = true then { s.endpoint e with closeOutcome := o, discarded := n }
      else s.endpoint k := by
  by_cases h : s.online (portOf e) = true
  · rw [closeAt_endpoint s o n h]
    simp [h]
  · rw [State.closeAt, if_neg h, if_neg fun x => h x.2]

/-- An end of a torn down channel: IDLE, and told so when its port is in service. -/
def State.tornEnd (s : State) (e : EpId) (o : CloseOutcome) : Endpoint :=
  if s.online (portOf e) = true then
    { s.endpoint e with role := .idle, closeOutcome := o, discarded := (s.role e).queue.length }
  else { s.endpoint e with role := .idle }

/-- The endpoints after a teardown. -/
theorem teardownLive_endpoint (s : State) (c : ChanId) {l : LiveChannel} (cl : Closers) (o o' : CloseOutcome)
    (hne : l.caller ≠ l.callee) (k : EpId) :
    (s.teardownLive c l cl o o').endpoint k =
      if k = l.caller then s.tornEnd l.caller o else if k = l.callee then s.tornEnd l.callee o' else s.endpoint k := by
  let s2 := ((s.bulkDiscard [l.caller, l.callee]).setRole l.caller .idle).setRole l.callee .idle
  have h2 (k : EpId) : s2.endpoint k =
      if k = l.caller ∨ k = l.callee then { s.endpoint k with role := .idle } else s.endpoint k := by
    unfold s2
    rw [endpoint_setRole, endpoint_setRole, endpoint_setRole, bulkDiscard_endpoint, bulkDiscard_endpoint,
      bulkDiscard_endpoint]
    by_cases h1 : k = l.caller <;> by_cases h3 : k = l.callee <;> simp_all
  have ho (q : Port) : s2.online q = s.online q := online_of_cores (by simp [s2]) q
  have ho' (q : Port) (n : Nat) : (s2.closeAt l.caller o n).online q = s.online q :=
    (online_of_cores (closeAt_cores ..) q).trans (ho q)
  show ((s2.closeAt l.caller o (s.role l.caller).queue.length).closeAt l.callee o'
    (s.role l.callee).queue.length).endpoint k = _
  rw [closeAt_endpoint_eq, closeAt_endpoint_eq, closeAt_endpoint_eq, ho', ho, h2, h2, h2]
  unfold State.tornEnd
  by_cases h1 : k = l.caller
  · subst h1
    simp [hne]
  · by_cases h3 : k = l.callee
    · subst h3
      simp [h1]
    · simp [h1, h3]

/-- The channels after a teardown. -/
theorem teardownLive_channel (s : State) (c : ChanId) (l : LiveChannel) (cl : Closers) (o o' : CloseOutcome) (k : ChanId) :
    (s.teardownLive c l cl o o').channel k = if k = c then Channel.tornDown l cl else s.channel k := by
  unfold State.teardownLive
  dsimp only
  by_cases h : k = c
  · rw [if_pos h, h, channel_setChannel_self]
  · rw [if_neg h, channel_setChannel_ne _ _ h]
    exact channel_congr (by simp) k

theorem teardownLive_records (s : State) (c : ChanId) (l : LiveChannel) (cl : Closers) (o o' : CloseOutcome) :
    (s.teardownLive c l cl o o').records = (s.bulkDiscard [l.caller, l.callee]).records := by
  simp [State.teardownLive]

/-- CLOSED stands at the ends of a torn down channel whose ports are in service. -/
theorem teardownLive_hasCond (s : State) (c : ChanId) (l : LiveChannel) (cl : Closers) (o o' : CloseOutcome) {e : EpId}
    (he : e = l.caller ∨ e = l.callee) (h : s.online (portOf e) = true) :
    (s.teardownLive c l cl o o').HasCond (portOf e) (itemOf (localOf e)) .closed := by
  refine hasCond_of_ports (setChannel_ports ..) ?_
  rcases he with rfl | rfl
  · refine hasCond_closeAt _ _ _ _ (closeAt_hasCond _ _ _ ?_)
    exact (online_of_cores (by simp) _).trans h
  · refine closeAt_hasCond _ _ _ ?_
    exact (online_of_cores (by simp) _).trans h

theorem entriesOf_pair (s : State) (a b : EpId) : s.entriesOf [a, b] = (s.role a).queue ++ (s.role b).queue := by
  simp [State.entriesOf]

/-- A teardown hands off the receipts of the records it releases. -/
theorem teardownLive_handedOff (s : State) (c : ChanId) (l : LiveChannel) (cl : Closers) (o o' : CloseOutcome) :
    s.HandedOff (s.teardownLive c l cl o o')
      (s.discardReceipts ((s.role l.caller).queue ++ (s.role l.callee).queue)) := by
  rw [← entriesOf_pair]
  refine (bulkDiscard_handedOff s [l.caller, l.callee]).andThen ?_
  exact (setChannel_keepsReceipts ..).after <| (closeAt_keepsReceipts ..).after <| (closeAt_keepsReceipts ..).after <|
    (setRole_keepsReceipts ..).after (setRole_keepsReceipts ..)

/-- A record whose last holders are among the discarded entries is FREE. -/
theorem bulkDiscard_record_one (s : State) (l : List EpId) {r : RecId} (h : r ∈ s.entriesOf l)
    (hr : ∀ m, (s.record r).message? = some m → m.count ≤ 1) : (s.bulkDiscard l).record r = .free :=
  bulkDiscard_record_free s l h fun m hm => (hr m hm).trans (List.count_pos_iff.2 h)

/-! ## CLOSE with mode ABORT -/

theorem closeRefusal_abort {s : State} {p : Port} {w : Word} (ho : s.online p = true) (hw : w.toNat ≤ 7)
    (ha : s.arg p 0 = 1#16) (hr : (s.role (endpointOf p w)).isIdle = false) : closeRefusal s p w = none := by
  have h7 : ¬7 < w.toNat := by omega
  simp [closeRefusal, firstFailing, ho, ha, hr, h7]

/-- An accepted CLOSE with mode ABORT. -/
theorem exec_close_abort {s : State} {p : Port} {w : Word} (hrun : s.chipReset = false) (ho : s.online p = true)
    (hw : w.toNat ≤ 7) (ha : s.arg p 0 = 1#16) (hr : (s.role (endpointOf p w)).isIdle = false) :
    exec (.close p w) s = .next ((s.closeAtRole (endpointOf p w) true).setResult p .ok 0#16) := by
  show answer s p (closeRefusal s p w) (s.closeAtRole (endpointOf p w) (decide ((s.arg p 0).toNat = 1)), 0#16) = _
  rw [closeRefusal_abort ho hw ha hr, answer_none hrun, ha]
  rfl

/-- An abortive CLOSE tears the channel down, the outcomes by who closed. -/
theorem abortAt_eq {s : State} {e : EpId} {c : ChanId} {l : LiveChannel} {cl : Closers}
    (h : ∀ o o', s.teardown c o o' = s.teardownLive c l cl o o') :
    s.abortAt e c l =
      s.teardownLive c l cl (if e = l.caller then .abortedLocal else .abortedByPeer)
        (if e = l.caller then .abortedByPeer else .abortedLocal) := by
  unfold State.abortAt
  split <;> exact h _ _

theorem teardown_opened {s : State} {c : ChanId} {l : LiveChannel} (h : s.channel c = .opened l) (o o' : CloseOutcome) :
    s.teardown c o o' = s.teardownLive c l { caller := false, callee := false } o o' := by
  rw [State.teardown, h]

theorem teardown_draining {s : State} {c : ChanId} {l : LiveChannel} {cl : Closers} {d : Option Time}
    (h : s.channel c = .draining l cl d) (o o' : CloseOutcome) : s.teardown c o o' = s.teardownLive c l cl o o' := by
  rw [State.teardown, h]

/-- Settles O26: an abortive CLOSE is a teardown, and a teardown is taken piece by piece. -/
theorem abortTearsDown : Obligations.AbortTearsDown := by
  constructor
  · intro p w s c peer q n l cl d e atCaller atCallee hrun ho hw ha
    refine ⟨fun hr hc => ?_, fun hr hc => ?_⟩
    · have hl : s.closeAtRole e true = s.teardownLive c l { caller := false, callee := false } atCaller atCallee := by
        simp only [State.closeAtRole, hr, State.closeChannelEnd, hc, if_true]
        exact abortAt_eq (teardown_opened hc)
      rw [exec_close_abort hrun ho hw ha (by rw [show s.role (endpointOf p w) = _ from hr]; rfl), hl]
    · have hl : s.closeAtRole e true = s.teardownLive c l cl atCaller atCallee := by
        simp only [State.closeAtRole, hr, State.closeChannelEnd, hc, if_true]
        exact abortAt_eq (teardown_draining hc)
      rw [exec_close_abort hrun ho hw ha (by rw [show s.role (endpointOf p w) = _ from hr]; rfl), hl]
  · intro s c l cl o o' hne t
    have hep (k : EpId) := teardownLive_endpoint s c cl o o' hne k
    refine ⟨?_, fun x hx => ?_, teardownLive_groups .., teardownLive_arbiter .., sameMemory_of_store (teardownLive_store ..),
      sameClock_of_fixed (teardownLive_fixed ..), sameTransfers_of_cores (teardownLive_cores ..), fun x h1 h2 => ?_, ?_, ?_,
      teardownLive_hasCond s c l cl o o' (.inl rfl), teardownLive_hasCond s c l cl o o' (.inr rfl), fun r m hr hm h1 => ?_,
      fun r hr => ?_, teardownLive_handedOff s c l cl o o'⟩
    · rw [teardownLive_channel, if_pos rfl]
      rfl
    · rw [teardownLive_channel, if_neg hx]
    · rw [hep, if_neg h1, if_neg h2]
    · rw [hep, if_pos rfl]
      rfl
    · rw [hep, if_neg hne.symm, if_pos rfl]
      rfl
    · rw [record_congr (teardownLive_records ..)]
      refine bulkDiscard_record_one s _ (entriesOf_pair s _ _ ▸ hr) fun m' hm' => ?_
      obtain rfl : m = m' := Option.some.inj (hm.symm.trans hm')
      exact h1
    · rw [record_congr (teardownLive_records ..)]
      exact bulkDiscard_record_notin s _ fun h => hr (entriesOf_pair s _ _ ▸ h)

end Sys2Proof.Machine
end

section
/-! The completion of a CHANNEL copy-in, and the ends of cancelled transfers. -/

namespace Sys2Proof.Machine

/-! ## The Send Unit's share of a completion -/

/-- The send outcome that a completion writes. -/
def Message.sendOutcome (m : Message) (e : SendEnd) (n : Nat) : SendOutcome where
  outcome := e
  endpoint := localOf m.origin
  link := m.link.toLinkId
  sequence := m.sequence
  count := n

/-- The outcome and the Send Unit's share, which end every completion (R65, R70). -/
def State.copyInDone (v : State) (p : Port) (m : Message) (e : SendEnd) (n : Nat) : State :=
  (v.writeSendOutcome p m e n).sendUnitDone p

/-- The core of a port is what the units and buffers are read from. -/
theorem staging_of_cores {s t : State} (h : t.cores = s.cores) (q : Port) : (t.port q).staging = (s.port q).staging :=
  (sameTransfers_of_cores h q).1

theorem copyInDone_sendUnit (v : State) (p : Port) (m : Message) (e : SendEnd) (n : Nat) :
    ((v.copyInDone p m e n).port p).sendUnit = none := by
  rw [State.copyInDone, State.sendUnitDone, port_modPort_self]

theorem copyInDone_staging (v : State) (p : Port) (m : Message) (e : SendEnd) (n : Nat) :
    ((v.copyInDone p m e n).port p).staging = { (v.port p).staging with locked := false, pointer := 0 } := by
  rw [State.copyInDone, State.sendUnitDone, port_modPort_self]
  show ((v.writeSendOutcome p m e n).port p).staging.released = _
  rw [State.writeSendOutcome, staging_of_cores (setPortCond_cores ..), port_modPort_self]
  rfl

theorem copyInDone_outcome (v : State) (p : Port) (m : Message) (e : SendEnd) (n : Nat) :
    ((v.copyInDone p m e n).port p).sendOutcome = m.sendOutcome e n := by
  rw [State.copyInDone, State.sendUnitDone, port_modPort_self]
  show ((v.writeSendOutcome p m e n).port p).sendOutcome = _
  obtain ⟨-, -, -, -, ho, -⟩ := sameTransfers_of_cores
    (setPortCond_cores (v.modPort p fun x => { x with sendOutcome := m.sendOutcome e n }) p .sendDone) p
  refine ho.trans ?_
  rw [port_modPort_self]

theorem copyInDone_hasCond {v : State} {p : Port} (m : Message) (e : SendEnd) (n : Nat) {q : Port} {it : Item} {c : Cond}
    (h : v.HasCond q it c) : (v.copyInDone p m e n).HasCond q it c :=
  hasCond_modPort rfl (hasCond_setPortCond _ _ _ (hasCond_modPort rfl h))

theorem copyInDone_sendDone {v : State} {p : Port} (m : Message) (e : SendEnd) (n : Nat) (h : v.online p = true) :
    (v.copyInDone p m e n).HasCond p portItem .sendDone := by
  refine hasCond_modPort rfl (hasCond_setPortCond_self _ _ ?_)
  rw [online_modPort _ _ _ _ rfl, h]

theorem copyInDone_keepsReceipts (v : State) (p : Port) (m : Message) (e : SendEnd) (n : Nat) :
    v.KeepsReceipts (v.copyInDone p m e n) :=
  State.KeepsReceipts.after (t := v.writeSendOutcome p m e n)
    (keepsReceipts_modPort (v.writeSendOutcome p m e n) p
      (fun x => { x with sendUnit := none, staging := x.staging.released }) rfl rfl) <|
    (setCond_keepsReceipts (v.modPort p fun x => { x with sendOutcome := m.sendOutcome e n }) p portItem .sendDone).after
      (keepsReceipts_modPort v p _ rfl rfl)

theorem copyInDone_endpoints (v : State) (p : Port) (m : Message) (e : SendEnd) (n : Nat) :
    (v.copyInDone p m e n).endpoints = v.endpoints :=
  (modPort_endpoints ..).trans (writeSendOutcome_endpoints ..)

theorem copyInDone_channels (v : State) (p : Port) (m : Message) (e : SendEnd) (n : Nat) :
    (v.copyInDone p m e n).channels = v.channels :=
  (modPort_channels ..).trans (writeSendOutcome_channels ..)

theorem copyInDone_groups (v : State) (p : Port) (m : Message) (e : SendEnd) (n : Nat) :
    (v.copyInDone p m e n).groups = v.groups :=
  (modPort_groups ..).trans (writeSendOutcome_groups ..)

theorem copyInDone_records (v : State) (p : Port) (m : Message) (e : SendEnd) (n : Nat) :
    (v.copyInDone p m e n).records = v.records :=
  (modPort_records ..).trans (writeSendOutcome_records ..)

theorem copyInDone_blockPlaces (v : State) (p : Port) (m : Message) (e : SendEnd) (n : Nat) :
    (v.copyInDone p m e n).blockPlaces = v.blockPlaces :=
  (modPort_blockPlaces ..).trans (writeSendOutcome_blockPlaces ..)

theorem copyInDone_store (v : State) (p : Port) (m : Message) (e : SendEnd) (n : Nat) :
    (v.copyInDone p m e n).store = v.store :=
  (modPort_store ..).trans (writeSendOutcome_store ..)

/-! ## The two ways a CHANNEL copy-in completes -/

/-- A delivery up to the outcome (R66). -/
def State.delivered (s : State) (r : RecId) (c : ChanId) (e : EpId) (life : Nat) : State :=
  ((s.append e r).makeLive r 1 life).endTransfer c

/-- A discard up to the outcome (R67, R68). -/
def State.discarded (s : State) (r : RecId) (c : ChanId) (d : Dirn) : State :=
  (s.claim r 1 none .discarded).endMessageTransfer c d true

theorem completeCopyIn_channel {s : State} {r : RecId} {m : Message} {c : ChanId} {d : Dirn} (p : Port) (life : Nat)
    (hr : s.record r = .filling m) (hl : m.link = .channel c d) :
    s.completeCopyIn p r life true = (s.completeChannelCopy p r m c d life true).sendUnitDone p := by
  simp only [State.completeCopyIn, hr, message?_filling, hl]

theorem completeCopyIn_deliver {s : State} {r : RecId} {m : Message} {c : ChanId} {d : Dirn} {l : LiveChannel} (p : Port)
    (life : Nat) (hr : s.record r = .filling m) (hl : m.link = .channel c d) (hc : (s.channel c).live? = some l)
    (ho : s.online (portOf (l.receiver d)) = true) :
    s.completeCopyIn p r life true = (s.delivered r c (l.receiver d) life).copyInDone p m .delivered 1 := by
  rw [completeCopyIn_channel p life hr hl]
  simp only [State.completeChannelCopy, hc, ho, if_true]
  rfl

theorem completeCopyIn_discard {s : State} {r : RecId} {m : Message} {c : ChanId} {d : Dirn} (p : Port) (life : Nat)
    (hr : s.record r = .filling m) (hl : m.link = .channel c d)
    (h : ∀ l, (s.channel c).live? = some l → s.online (portOf (l.receiver d)) = false) :
    s.completeCopyIn p r life true = (s.discarded r c d).copyInDone p m .discarded 0 := by
  rw [completeCopyIn_channel p life hr hl, State.completeChannelCopy]
  split
  · next l hc =>
    rw [h l hc]
    rfl
  · rfl

theorem delivered_cores (s : State) (r : RecId) (c : ChanId) (e : EpId) (life : Nat) :
    (s.delivered r c e life).cores = s.cores := by
  simp [State.delivered]

theorem discarded_cores (s : State) (r : RecId) (c : ChanId) (d : Dirn) : (s.discarded r c d).cores = s.cores := by
  simp [State.discarded]

theorem delivered_record_self {s : State} {r : RecId} {m : Message} (c : ChanId) (e : EpId) (life : Nat)
    (hr : s.record r = .filling m) (h1 : m.count = 1) :
    (s.delivered r c e life).record r = .live m (s.deadlineFor life) := by
  have ha : ((s.append e r).record r).message? = some m := by rw [record_congr (append_records ..), hr]; rfl
  show ((s.append e r).makeLive r 1 life).record r = _
  rw [State.makeLive, ha]
  show (State.setRecord _ r _).record r = _
  rw [record_setRecord_self]
  have hnow : (s.append e r).now = s.now := now_of_fixed (append_fixed ..)
  unfold State.deadlineFor
  rw [hnow]
  cases m
  cases h1
  rfl

theorem makeLive_record_ne (s : State) {r k : RecId} (d life : Nat) (h : k ≠ r) :
    (s.makeLive r d life).record k = s.record k := by
  unfold State.makeLive
  split
  · rfl
  · exact record_setRecord_ne _ _ h

theorem delivered_record_ne (s : State) {r k : RecId} (c : ChanId) (e : EpId) (life : Nat) (h : k ≠ r) :
    (s.delivered r c e life).record k = s.record k :=
  (makeLive_record_ne _ 1 life h).trans (record_congr (append_records ..) k)

theorem append_endpoint (s : State) (e : EpId) (r : RecId) (k : EpId) :
    (s.append e r).endpoint k =
      if k = e then { s.endpoint e with role := (s.role e).withQueue ((s.role e).queue ++ [r]) } else s.endpoint k := by
  rw [State.append, endpoint_congr (setEndpointCond_endpoints ..), endpoint_modEndpoint]
  rfl

theorem delivered_endpoint (s : State) (r : RecId) (c : ChanId) (e : EpId) (life : Nat) (k : EpId) :
    (s.delivered r c e life).endpoint k =
      if k = e then { s.endpoint e with role := (s.role e).withQueue ((s.role e).queue ++ [r]) } else s.endpoint k :=
  (endpoint_congr (makeLive_endpoints ..) k).trans (append_endpoint s e r k)

/-- A transfer ends on a channel that carries something: one transfer less. -/
theorem endTransfer_live {x : Channel} {l : LiveChannel} (h : x.live? = some l) :
    x.endTransfer = x.mapLive fun y => { y with transfers := y.transfers - 1 } := by
  cases x <;> first | rfl | cases h

theorem delivered_channel (s : State) (r : RecId) (c : ChanId) (e : EpId) (life : Nat) (k : ChanId) :
    (s.delivered r c e life).channel k = if k = c then (s.channel c).endTransfer else s.channel k := by
  have h (x : ChanId) : ((s.append e r).makeLive r 1 life).channel x = s.channel x := channel_congr (by simp) x
  unfold State.delivered State.endTransfer
  split
  · next e => rw [e, channel_setChannel_self, h]
  · next e => rw [channel_setChannel_ne _ _ e, h]

theorem append_hasCond {s : State} {e : EpId} (r : RecId) (h : s.online (portOf e) = true) :
    (s.append e r).HasCond (portOf e) (itemOf (localOf e)) .arrival :=
  hasCond_setEndpointCond_self _ _ _ h

theorem append_keepsReceipts (s : State) (e : EpId) (r : RecId) : s.KeepsReceipts (s.append e r) :=
  (setEndpointCond_keepsReceipts ..).after (.of_ports (modEndpoint_ports ..))

theorem makeLive_keepsReceipts (s : State) (r : RecId) (d life : Nat) : s.KeepsReceipts (s.makeLive r d life) :=
  .of_ports (makeLive_ports ..)

theorem delivered_keepsReceipts (s : State) (r : RecId) (c : ChanId) (e : EpId) (life : Nat) :
    s.KeepsReceipts (s.delivered r c e life) :=
  (setChannel_keepsReceipts ..).after <| (makeLive_keepsReceipts ..).after (append_keepsReceipts s e r)

/-- A discard releases the record. -/
theorem discarded_released {s : State} {r : RecId} {m : Message} (c : ChanId) (d : Dirn)
    (h : (s.record r).message? = some m) (h1 : m.count = 1) : s.Released (s.discarded r c d) r m := by
  obtain ⟨hf, hr, hb, hn⟩ := claim_released s (t := none) (c := .discarded) h (Nat.le_of_eq h1)
  have e1 : (s.discarded r c d).records = (s.claim r 1 none .discarded).records := endMessageTransfer_records ..
  have e2 : (s.discarded r c d).blockPlaces = (s.claim r 1 none .discarded).blockPlaces :=
    endMessageTransfer_blockPlaces ..
  refine ⟨(record_congr e1 r).trans hf, fun k hk => (record_congr e1 k).trans (hr k hk), fun b hm => ?_, fun b hm => ?_⟩
  · rw [e2]
    exact hb b hm
  · rw [e2]
    exact hn b hm

theorem discarded_handedOff {s : State} {r : RecId} {m : Message} (c : ChanId) (d : Dirn)
    (h : (s.record r).message? = some m) (h1 : m.count = 1) :
    s.HandedOff (s.discarded r c d) (m.receiptAt .discarded) :=
  (claim_copyIn_handedOff .discarded h h1).andThen (endMessageTransfer_keepsReceipts ..)

/-- A record's claim before the channel's part does not show in how the channel's message ended. -/
theorem claim_endMessageTransfer_ended (s : State) (r : RecId) (n : Nat) (k : Option TallyKind) (cause : Cause) (c : ChanId)
    (d : Dirn) (counted : Bool) :
    s.MessageEnded ((s.claim r n k cause).endMessageTransfer c d counted) c d counted fun e => (s.role e).queue := by
  have hq (e : EpId) : (s.claim r n k cause).role e = s.role e :=
    role_congr (endpoint_congr (claim_endpoints ..) e)
  have h := endMessageTransfer_ended (s.claim r n k cause) c d counted
  simp only [hq] at h
  exact h.transport (claim_channels ..).symm (claim_endpoints ..).symm
    (fun q => (online_of_cores (claim_cores ..) q).symm) rfl rfl fun _ _ _ x => x

/-- Settles O52: the completion by the state of the channel and of the receiving port, piece by piece. -/
theorem channelCopyInCompletion : Obligations.ChannelCopyInCompletion := by
  intro s p r m c d life hr hl h1 ho t
  have hm : (s.record r).message? = some m := by rw [hr]; rfl
  have hlink : m.link.toLinkId = .channel c := by rw [hl]; rfl
  by_cases hdel : ∃ l, (s.channel c).live? = some l ∧ s.online (portOf (l.receiver d)) = true
  · obtain ⟨l, hc, hol⟩ := hdel
    have ht : t = (s.delivered r c (l.receiver d) life).copyInDone p m .delivered 1 :=
      completeCopyIn_deliver p life hr hl hc hol
    have hcores := delivered_cores s r c (l.receiver d) life
    have hrec (k : RecId) : t.record k = (s.delivered r c (l.receiver d) life).record k := by
      rw [ht, record_congr (copyInDone_records ..)]
    have hep (k : EpId) : t.endpoint k = (s.delivered r c (l.receiver d) life).endpoint k := by
      rw [ht, endpoint_congr (copyInDone_endpoints ..)]
    have hch (k : ChanId) : t.channel k = (s.delivered r c (l.receiver d) life).channel k := by
      rw [ht, channel_congr (copyInDone_channels ..)]
    refine ⟨?_, ?_, ?_, sameMemory_of_store ?_, ?_, fun k hk => ?_, fun k hk => ?_, fun l' hl' hol' => ?_, fun h => ?_⟩
    · rw [ht, copyInDone_sendUnit]
    · rw [ht, copyInDone_staging, staging_of_cores hcores]
    · rw [ht]
      exact copyInDone_sendDone m _ _ ((online_of_cores hcores p).trans ho)
    · rw [ht, copyInDone_store]
      simp [State.delivered]
    · rw [ht, copyInDone_groups]
      simp [State.delivered]
    · rw [hch, delivered_channel, if_neg hk]
    · rw [hrec, delivered_record_ne s c _ life hk]
    · obtain rfl : l = l' := Option.some.inj (hc.symm.trans hl')
      refine ⟨?_, ?_, fun e he => ?_, ?_, ?_, ?_, ?_⟩
      · rw [hrec, delivered_record_self c _ life hr h1]
      · rw [State.role, hep, delivered_endpoint, if_pos rfl]
      · rw [hep, delivered_endpoint, if_neg he]
      · rw [hch, delivered_channel, if_pos rfl, endTransfer_live hc]
      · rw [ht]
        exact copyInDone_hasCond m _ _
          (hasCond_of_ports ((setChannel_ports ..).trans (makeLive_ports ..)) (append_hasCond r hol))
      · rw [ht]
        exact ((delivered_keepsReceipts ..).trans (copyInDone_keepsReceipts ..)).handedOff
      · rw [ht, copyInDone_outcome, Message.sendOutcome, hlink]
    · rw [h l hc] at hol
      cases hol
  · have hoff (l : LiveChannel) (hc : (s.channel c).live? = some l) : s.online (portOf (l.receiver d)) = false := by
      by_contra hn
      exact hdel ⟨l, hc, by simpa using hn⟩
    have ht : t = (s.discarded r c d).copyInDone p m .discarded 0 := completeCopyIn_discard p life hr hl hoff
    have hcores := discarded_cores s r c d
    obtain ⟨hf, hne, hb, hbn⟩ := discarded_released c d hm h1
    have hrec (k : RecId) : t.record k = (s.discarded r c d).record k := by
      rw [ht, record_congr (copyInDone_records ..)]
    have hpl : t.blockPlaces = (s.discarded r c d).blockPlaces := by rw [ht, copyInDone_blockPlaces]
    refine ⟨?_, ?_, ?_, sameMemory_of_store ?_, ?_, fun k hk => ?_, fun k hk => ?_, fun l' hl' hol' => ?_, fun _ => ?_⟩
    · rw [ht, copyInDone_sendUnit]
    · rw [ht, copyInDone_staging, staging_of_cores hcores]
    · rw [ht]
      exact copyInDone_sendDone m _ _ ((online_of_cores hcores p).trans ho)
    · rw [ht, copyInDone_store]
      simp [State.discarded]
    · rw [ht, copyInDone_groups]
      simp [State.discarded]
    · rw [ht, channel_congr (copyInDone_channels ..), State.discarded, endMessageTransfer_channel_ne _ _ _ hk,
        channel_congr (claim_channels ..)]
    · rw [hrec, hne k hk]
    · rw [hoff l' hl'] at hol'
      cases hol'
    · refine ⟨?_, ⟨?_, fun k hk => ?_, fun b hm => ?_, fun b hm => ?_⟩, ?_, ?_, ?_⟩
      · rw [hrec, hf]
      · rw [hrec, hf]
      · rw [hrec, hne k hk]
      · rw [hpl]
        exact hb b hm
      · rw [hpl]
        exact hbn b hm
      · rw [ht]
        exact (discarded_handedOff c d hm h1).andThen (copyInDone_keepsReceipts ..)
      · rw [ht, copyInDone_outcome, Message.sendOutcome, hlink]
      · rw [ht]
        exact (claim_endMessageTransfer_ended ..).transport rfl rfl (fun _ => rfl) (copyInDone_channels ..)
          (copyInDone_endpoints ..) fun _ _ _ => copyInDone_hasCond m _ _

/-! ## Cancelled transfers -/

/-- A unit is IDLE and its stop reported: what that leaves. -/
theorem report_awaits (s : State) (p : Port) (r : Report) : (s.report p r).awaits p r = false := by
  rw [awaits_report]
  simp

theorem report_keepsReceipts (s : State) (p : Port) (r : Report) : s.KeepsReceipts (s.report p r) :=
  keepsReceipts_modPort s p _ rfl rfl

theorem report_part {α : Type} (g : PortRec → α) (h : ∀ (x : PortRec) st, g { x with state := st } = g x) (s : State)
    (p : Port) (r : Report) (q : Port) : g ((s.report p r).port q) = g (s.port q) :=
  modPort_part g s p _ (h _ _) q

/-- The channel's or the group's part of a cancelled copy-in (R72, R129). -/
def State.copyInDropped (s : State) (r : RecId) : RecLink → State
  | .channel c d => (s.claim r 1 none .cancelled).endMessageTransfer c d true
  | .group g => (s.claim r 1 none .cancelled).endGroupCopy g

theorem cancelCopyIn_eq {s : State} {r : RecId} {m : Message} (p : Port) (h : (s.record r).message? = some m) :
    s.cancelCopyIn p r =
      ((s.copyInDropped r m.link).modPort p fun x => { x with sendUnit := none }).report p .sendStopped := by
  simp only [State.cancelCopyIn, h]
  cases m.link <;> rfl

theorem copyInDropped_cores (s : State) (r : RecId) (k : RecLink) : (s.copyInDropped r k).cores = s.cores := by
  cases k <;> simp [State.copyInDropped]

theorem copyInDropped_records (s : State) (r : RecId) (k : RecLink) :
    (s.copyInDropped r k).records = (s.claim r 1 none .cancelled).records := by
  cases k <;> simp [State.copyInDropped]

theorem copyInDropped_blockPlaces (s : State) (r : RecId) (k : RecLink) :
    (s.copyInDropped r k).blockPlaces = (s.claim r 1 none .cancelled).blockPlaces := by
  cases k <;> simp [State.copyInDropped]

theorem copyInDropped_arbiter (s : State) (r : RecId) (k : RecLink) : (s.copyInDropped r k).arbiter = s.arbiter := by
  cases k <;> simp [State.copyInDropped]

theorem copyInDropped_keepsReceipts (s : State) (r : RecId) (k : RecLink) :
    (s.claim r 1 none .cancelled).KeepsReceipts (s.copyInDropped r k) := by
  cases k with
  | channel c d => exact endMessageTransfer_keepsReceipts ..
  | group g => exact endGroupCopy_keepsReceipts ..

theorem endGroupCopy_group (s : State) (g k : GroupId) :
    (∀ x, s.group g = .active x → (s.endGroupCopy g).group g = .active { x with copyInFlight := false }) ∧
      (s.group g = .dissolving → (s.endGroupCopy g).group g = .free) ∧
      (k ≠ g → (s.endGroupCopy g).group k = s.group k) := by
  unfold State.endGroupCopy
  refine ⟨fun x h => ?_, fun h => ?_, fun hk => ?_⟩
  · rw [h]
    exact group_setGroup_self ..
  · rw [h]
    exact group_setGroup_self ..
  · split
    · exact group_setGroup_ne _ _ hk
    · exact group_setGroup_ne _ _ hk
    · rfl

/-- The end of a cancelled copy-in, all of it (R72, R129). -/
theorem cancelCopyIn_gone {s : State} {r : RecId} {m : Message} (p : Port) (hr : s.record r = .filling m)
    (h1 : m.count = 1) : s.CopyInGone (s.cancelCopyIn p r) p r m := by
  have hm : (s.record r).message? = some m := by rw [hr]; rfl
  obtain ⟨hf, hne, hb, hbn⟩ := claim_released s (t := none) (c := .cancelled) hm (Nat.le_of_eq h1)
  let u := s.copyInDropped r m.link
  let v := u.modPort p fun x => { x with sendUnit := none }
  have hv : s.cancelCopyIn p r = v.report p .sendStopped := cancelCopyIn_eq p hm
  obtain ⟨hst, -, -, -, hso, -⟩ := sameTransfers_of_cores (copyInDropped_cores s r m.link) p
  have hrec : v.records = (s.claim r 1 none .cancelled).records := copyInDropped_records ..
  have hpl : v.blockPlaces = (s.claim r 1 none .cancelled).blockPlaces := copyInDropped_blockPlaces ..
  rw [hv]
  refine ⟨?_, report_awaits .., ?_, ?_, ⟨(record_congr hrec r).trans hf, fun k hk => (record_congr hrec k).trans (hne k hk),
    fun b hb' => ?_, fun b hb' => ?_⟩, fun _ => ?_, fun c d hl => ⟨?_, ?_⟩, fun g hl => ?_⟩
  · rw [report_part PortRec.sendUnit (fun _ _ => rfl), port_modPort_self]
  · rw [report_part PortRec.sendOutcome (fun _ _ => rfl), port_modPort_self, hso]
  · rw [report_part PortRec.staging (fun _ _ => rfl), port_modPort_self, hst]
  · rw [report_blockPlaces, hpl]
    exact hb b hb'
  · rw [report_blockPlaces, hpl]
    exact hbn b hb'
  · exact ((claim_copyIn_handedOff .cancelled hm h1).andThen (copyInDropped_keepsReceipts s r m.link)).andThen
      ((report_keepsReceipts ..).after (keepsReceipts_modPort u p _ rfl rfl))
  · have hu : u = (s.claim r 1 none .cancelled).endMessageTransfer c d true := by rw [show u = s.copyInDropped r m.link from rfl, hl]; rfl
    have h := claim_endMessageTransfer_ended s r 1 none .cancelled c d true
    rw [← hu] at h
    exact h.transport rfl rfl (fun _ => rfl) rfl rfl fun _ _ _ x => hasCond_modPort rfl (hasCond_modPort rfl x)
  · show u.groups = s.groups
    rw [show u = s.copyInDropped r m.link from rfl, hl]
    simp [State.copyInDropped]
  · have hu : u = (s.claim r 1 none .cancelled).endGroupCopy g := by rw [show u = s.copyInDropped r m.link from rfl, hl]; rfl
    have hg (k : GroupId) : (s.claim r 1 none .cancelled).group k = s.group k := group_congr (claim_groups ..) k
    have hgu (k : GroupId) : (v.report p .sendStopped).group k = u.group k := rfl
    refine ⟨?_, ?_, fun x hx => ?_, fun hx => ?_, fun k hk => ?_⟩
    · show u.channels = s.channels
      rw [hu]
      simp
    · show u.endpoints = s.endpoints
      rw [hu]
      simp
    · rw [hgu, hu]
      exact (endGroupCopy_group _ g g).1 x ((hg g).trans hx)
    · rw [hgu, hu]
      exact (endGroupCopy_group _ g g).2.1 ((hg g).trans hx)
    · rw [hgu, hu, (endGroupCopy_group _ g k).2.2 hk, hg]

/-- The end of a cancelled copy-in concerns the state before through its ports, links, records and block places. -/
theorem copyInGone_before {s s' t : State} {p : Port} {r : RecId} {m : Message} (hp : s'.ports = s.ports)
    (he : s'.endpoints = s.endpoints) (hc : s'.channels = s.channels) (hg : s'.groups = s.groups)
    (hr : s'.records = s.records) (hb : s'.blockPlaces = s.blockPlaces) (h : s'.CopyInGone t p r m) :
    s.CopyInGone t p r m := by
  cases s
  cases s'
  cases hp
  cases he
  cases hc
  cases hg
  cases hr
  cases hb
  exact h

/-- The end of a cancelled copy-out, all of it (R86). -/
theorem cancelFetch_gone {s : State} {r : RecId} {m : Message} {dl : Option Time} (p : Port)
    (hr : s.record r = .live m dl) : s.FetchGone (s.cancelFetch p r) p r m dl := by
  have hm : (s.record r).message? = some m := by rw [hr]; rfl
  let w := s.claim r 1 (some .discarded) .discarded
  let u := w.endFetchOn m.link true
  let v := u.modPort p fun x => { x with fetchUnit := none }
  have hv : s.cancelFetch p r = v.report p .fetchStopped := by
    simp only [State.cancelFetch, hm]
    rfl
  have hcores : u.cores = s.cores := (endFetchOn_cores ..).trans (claim_cores ..)
  obtain ⟨-, hrb, -, -, -, hfo⟩ := sameTransfers_of_cores hcores p
  have hrec (k : RecId) : (v.report p .fetchStopped).record k = w.record k := record_congr (endFetchOn_records ..) k
  have hpl : (v.report p .fetchStopped).blockPlaces = w.blockPlaces := endFetchOn_blockPlaces ..
  have hkeep : w.KeepsReceipts u := by
    show w.KeepsReceipts (w.endFetchOn m.link true)
    cases m.link with
    | channel c d => exact endMessageTransfer_keepsReceipts ..
    | group g => exact .rfl w
  rw [hv]
  refine ⟨?_, report_awaits .., ?_, ?_, ?_, ?_, fun h1 => ?_, fun h1 => ⟨?_, fun k hk => ?_, ?_⟩, fun c d hl => ?_,
    fun g hl => ⟨?_, ?_⟩⟩
  · rw [report_part PortRec.fetchUnit (fun _ _ => rfl), port_modPort_self]
  · rw [report_part PortRec.readBuffer (fun _ _ => rfl), port_modPort_self, hrb]
  · rw [report_part PortRec.fetchOutcome (fun _ _ => rfl), port_modPort_self, hfo]
  · exact (endFetchOn_groups ..).trans (claim_groups ..)
  · exact ((claim_handedOff s 1 .discarded .discarded hm).andThen hkeep).andThen
      ((report_keepsReceipts ..).after (keepsReceipts_modPort u p _ rfl rfl))
  · obtain ⟨hf, hne, hb, hbn⟩ := claim_released s (t := some .discarded) (c := .discarded) hm h1
    refine ⟨(hrec r).trans hf, fun k hk => (hrec k).trans (hne k hk), fun b hb' => ?_, fun b hb' => ?_⟩
    · rw [hpl]
      exact hb b hb'
    · rw [hpl]
      exact hbn b hb'
  · rw [hrec]
    exact (claim_record_live s hr).trans (if_neg (by omega))
  · rw [hrec]
    exact claim_record_ne s _ _ _ hk
  · rw [hpl]
    show (s.claim r 1 (some .discarded) .discarded).blockPlaces = _
    rw [claim_eq_modMessage _ _ hm h1, modMessage_blockPlaces]
  · have hu : u = w.endMessageTransfer c d true := by rw [show u = w.endFetchOn m.link true from rfl, hl]; rfl
    have h := claim_endMessageTransfer_ended s r 1 (some .discarded) .discarded c d true
    rw [← hu] at h
    exact h.transport rfl rfl (fun _ => rfl) rfl rfl fun _ _ _ x => hasCond_modPort rfl (hasCond_modPort rfl x)
  · show u.channels = s.channels
    rw [show u = w.endFetchOn m.link true from rfl, hl]
    exact claim_channels ..
  · show u.endpoints = s.endpoints
    rw [show u = w.endFetchOn m.link true from rfl, hl]
    exact claim_endpoints ..

/-- The read of a cancelled fetch leaves the message that the statements name, and nothing else changes. -/
theorem takeCancelledRead_eq {s : State} {u : CopyOut} {m : Message} {dl : Option Time}
    (hr : s.record u.record = .live m dl) :
    s.takeCancelledRead u = s.setRecord u.record (.live (s.afterRead m u.next) dl) := by
  have hid : s.setRecord u.record (.live m dl) = s := by
    unfold State.setRecord
    rw [← hr]
    simp [State.record]
  have hb : s.blockAt? u.record u.next = m.blocks[u.next]? := by
    rw [State.blockAt?, hr]
    rfl
  unfold State.takeCancelledRead State.afterRead
  rw [hb]
  cases m.blocks[u.next]? with
  | none => exact hid.symm
  | some b =>
    show (if s.badChecks[b] = true then s.badMark u.record b else s) =
      s.setRecord u.record (.live (if s.badChecks[b] = true then _ else m) dl)
    split
    · exact badMark_live b hr
    · exact hid.symm

/-- The end of a cancelled copy-out does not show what its record held before. -/
theorem fetchGone_before {s t : State} {p : Port} {r : RecId} {m : Message} {dl : Option Time} {x : MsgRecord}
    (h : (s.setRecord r x).FetchGone t p r m dl) : s.FetchGone t p r m dl := by
  have hne (k : RecId) (hk : k ≠ r) : (s.setRecord r x).record k = s.record k := record_setRecord_ne s x hk
  obtain ⟨h1, h2, h3, h4, h5, h6, h7, h8, h9, h10⟩ := h
  refine ⟨h1, h2, h3, h4, h5, h6, fun hc => ?_, fun hc => ?_, h9, h10⟩
  · obtain ⟨hf, hr, hb, hbn⟩ := h7 hc
    exact ⟨hf, fun k hk => (hr k hk).trans (hne k hk), hb, hbn⟩
  · obtain ⟨hl, hr, hb⟩ := h8 hc
    exact ⟨hl, fun k hk => (hr k hk).trans (hne k hk), hb⟩

/-- The next grant concerns the arbiter alone. -/
theorem copyInGone_grant {s t : State} {p : Port} {r : RecId} {m : Message} (h : s.CopyInGone t p r m) :
    s.CopyInGone t.grant p r m := h

theorem fetchGone_grant {s t : State} {p : Port} {r : RecId} {m : Message} {dl : Option Time}
    (h : s.FetchGone t p r m dl) : s.FetchGone t.grant p r m dl := h

theorem writePosition_written {s : State} {r : RecId} {m : Message} {k : Nat} {b : BlockId} (p : Port) (hs : s.MemoryLaw)
    (hr : (s.record r).message? = some m) (hb : m.blocks[k]? = some b) :
    s.BlockWritten (s.writePosition p r k) b (s.port p).staging m.length k := by
  rw [writePosition_eq p hr hb]
  exact blockWritten_writeBlock hs ..

theorem blockWritten_of_store {s t u : State} {b : BlockId} {st : Staging} {n k : Nat} (h : u.store = t.store)
    (hw : s.BlockWritten t b st n k) : s.BlockWritten u b st n k := by
  unfold State.BlockWritten
  rw [memory_of_store h, badChecks_of_store h]
  exact hw

/-- Settles O54: the cancelled unit ends as its end of a transfer says, and the next grant follows. -/
theorem cancelledTransferEnds : Obligations.CancelledTransferEnds := by
  refine fun s p hrun => ⟨fun u m h hu hc hr h1 => ?_, fun u m dl h hu hc hr => ?_⟩
  · let s1 := s.freed.writePosition p u.record u.next
    have hr1 : s1.record u.record = .filling m := (record_congr (writePosition_records ..) _).trans hr
    have hm1 : (s1.record u.record).message? = some m := by rw [hr1]; rfl
    have hend : s.freed.sendTransferEnd p u = s1.cancelCopyIn p u.record := by
      rw [State.sendTransferEnd, hc]
      rfl
    refine ⟨(s1.cancelCopyIn p u.record).grant, ?_, ?_, ?_, fun b hmem hb => ?_⟩
    · show taken s s.blockTransferEnd = _
      rw [taken_running hrun, blockTransferEnd_send h hu, hend]
    · exact copyInGone_before (s' := s1) (writePosition_ports s.freed p u.record u.next)
        (writePosition_endpoints s.freed p u.record u.next) (writePosition_channels s.freed p u.record u.next)
        (writePosition_groups s.freed p u.record u.next) (writePosition_records s.freed p u.record u.next)
        (writePosition_blockPlaces s.freed p u.record u.next) (copyInGone_grant (cancelCopyIn_gone p hr1 h1))
    · show (s1.cancelCopyIn p u.record).arbiter.grant = s.freed.arbiter.grant
      rw [cancelCopyIn_eq p hm1]
      exact congrArg Arbiter.grant ((copyInDropped_arbiter ..).trans (writePosition_arbiter ..))
    · have hm : (s.freed.record u.record).message? = some m := (congrArg MsgRecord.message? hr).trans rfl
      have hw : s.freed.BlockWritten s1 b (s.freed.port p).staging m.length u.next :=
        writePosition_written (s := s.freed) p hmem hm hb
      exact blockWritten_of_store (t := s1) (cancelCopyIn_store s1 p u.record) hw
  · let s1 := s.freed.setRecord u.record (.live (s.afterRead m u.next) dl)
    have hr1 : s1.record u.record = .live (s.afterRead m u.next) dl := record_setRecord_self ..
    have hend : s.freed.fetchTransferEnd p u = s1.cancelFetch p u.record := by
      rw [State.fetchTransferEnd, hc, if_pos rfl, takeCancelledRead_eq (s := s.freed) hr]
      rfl
    refine ⟨(s1.cancelFetch p u.record).grant, ?_, ?_, sameMemory_of_store (cancelFetch_store s1 p u.record), ?_⟩
    · show taken s s.blockTransferEnd = _
      rw [taken_running hrun, blockTransferEnd_fetch h hu, hend]
    · exact fetchGone_before (s := s) (fetchGone_grant (cancelFetch_gone p hr1))
    · show (s1.cancelFetch p u.record).arbiter.grant = s1.arbiter.grant
      rw [cancelFetch_arbiter]

end Sys2Proof.Machine
end

section
/-! The shares of a port reset that concern one block's own records: memory, receipts, attention and endpoints. -/

namespace Sys2Proof.Machine

/-! ## Taking a share -/

theorem takeShare_due {s : State} {p : Port} {b : ShareBlock} (h : s.awaits p (.share b) = true) :
    s.takeShare p b = (s.shareOf p b).report p (.share b) :=
  if_pos h

theorem takeShare_not_due {s : State} {p : Port} {b : ShareBlock} (h : s.awaits p (.share b) = false) :
    s.takeShare p b = s :=
  if_neg (by rw [h]; decide)

/-! ## The credits of discarded entries -/

/-- What an OPEN or DRAINING channel carries after n and n' of its messages left their queues unfetched. -/
def LiveChannel.refundedBy (n n' : Nat) (l : LiveChannel) : LiveChannel :=
  { l with toCallee := l.toCallee.refunded n, toCaller := l.toCaller.refunded n' }

theorem Direction.refunded_refunded (x : Direction) (m n : Nat) : (x.refunded m).refunded n = x.refunded (m + n) := by
  simp [Direction.refunded, Nat.add_assoc, Nat.sub_sub]

theorem Direction.refund_eq (x : Direction) : x.refund = x.refunded 1 := rfl

theorem Channel.mapLive_mapLive (x : Channel) (f g : LiveChannel → LiveChannel) :
    (x.mapLive f).mapLive g = x.mapLive fun l => g (f l) := by
  cases x <;> rfl

theorem Channel.mapLive_id (x : Channel) : (x.mapLive fun l => l) = x := by
  cases x <;> rfl

theorem Channel.refundedBy_refundedBy (x : Channel) (m n m' n' : Nat) :
    (x.mapLive (LiveChannel.refundedBy m m')).mapLive (LiveChannel.refundedBy n n') =
      x.mapLive (LiveChannel.refundedBy (m + n) (m' + n')) := by
  rw [Channel.mapLive_mapLive]
  simp only [LiveChannel.refundedBy, Direction.refunded_refunded]
  rfl

theorem entriesOn_cons (s : State) (r : RecId) (l : List RecId) (c : ChanId) (d : Dirn) :
    s.entriesOn (r :: l) c d = s.entriesOn [r] c d + s.entriesOn l c d := by
  unfold State.entriesOn
  rw [← List.length_append, ← List.filter_append]
  rfl

theorem entriesOn_one (s : State) (r : RecId) (c : ChanId) (d : Dirn) :
    s.entriesOn [r] c d = if (s.record r).message?.map Message.link = some (.channel c d) then 1 else 0 := by
  unfold State.entriesOn
  rw [List.filter_singleton]
  by_cases h : (s.record r).message?.map Message.link = some (.channel c d) <;> simp [h]

theorem entriesOn_congr {s t : State} (h : t.records = s.records) (l : List RecId) (c : ChanId) (d : Dirn) :
    t.entriesOn l c d = s.entriesOn l c d := by
  unfold State.entriesOn
  simp only [record_congr h]

theorem returnCredit_channel (s : State) (k : ChanId) (d : Dirn) (c : ChanId) :
    (s.returnCredit k d).channel c =
      if c = k then (s.channel k).mapLive fun l => l.modDirection d Direction.refund else s.channel c := by
  unfold State.returnCredit State.modLive
  split
  · next e => rw [e, channel_setChannel_self]
  · next e => rw [channel_setChannel_ne _ _ e]

/-- The credit of one entry (R32). -/
theorem refundEntry_channel (s : State) (r : RecId) (c : ChanId) :
    (s.refundEntry r).channel c =
      (s.channel c).mapLive
        (LiveChannel.refundedBy (s.entriesOn [r] c .callerToCallee) (s.entriesOn [r] c .calleeToCaller)) := by
  have stays : (s.channel c).mapLive (LiveChannel.refundedBy 0 0) = s.channel c := Channel.mapLive_id _
  rw [entriesOn_one, entriesOn_one]
  cases hm : (s.record r).message? with
  | none =>
    have h : s.refundEntry r = s := by rw [State.refundEntry, hm]
    rw [h]
    exact stays.symm
  | some m =>
    cases hl : m.link with
    | group g =>
      have h : s.refundEntry r = s := by simp only [State.refundEntry, hm, hl]
      rw [h, Option.map_some, hl]
      exact stays.symm
    | channel k d =>
      have h : s.refundEntry r = s.returnCredit k d := by simp only [State.refundEntry, hm, hl]
      rw [h, returnCredit_channel, Option.map_some, hl]
      by_cases e : c = k
      · subst e
        rw [if_pos rfl]
        cases d
        · simp only [reduceCtorEq, Option.some.injEq, RecLink.channel.injEq, and_false, if_true, if_false]
          rfl
        · simp only [reduceCtorEq, Option.some.injEq, RecLink.channel.injEq, and_false, if_true, if_false]
          rfl
      · have hne (d' : Dirn) : ¬some (RecLink.channel k d) = some (RecLink.channel c d') := fun x => by
          cases x
          exact e rfl
        rw [if_neg e, if_neg (hne _), if_neg (hne _)]
        exact stays.symm

/-- The credits of a list of entries. -/
theorem foldl_refundEntry_channel (c : ChanId) : ∀ (l : List RecId) (s : State),
    (l.foldl State.refundEntry s).channel c =
      (s.channel c).mapLive
        (LiveChannel.refundedBy (s.entriesOn l c .callerToCallee) (s.entriesOn l c .calleeToCaller))
  | [], s => (Channel.mapLive_id _).symm
  | r :: l, s => by
    have hr : (s.refundEntry r).records = s.records := refundEntry_records ..
    rw [List.foldl_cons, foldl_refundEntry_channel c l, refundEntry_channel, Channel.refundedBy_refundedBy,
      entriesOn_congr hr, entriesOn_congr hr, ← entriesOn_cons, ← entriesOn_cons]

/-! ## The Endpoint Table's share -/

theorem entriesOf_endpointsOf (s : State) (p : Port) :
    s.entriesOf (endpointsOf p) = (List.finRange 8).flatMap fun e => (s.role (globalOf p e)).queue := by
  unfold State.entriesOf endpointsOf
  rw [List.flatMap_map]

/-- The credits of the Endpoint Table's share. -/
def State.refunded (s : State) (p : Port) : State :=
  (s.entriesOf (endpointsOf p)).foldl State.refundEntry s

/-- What the credits leave alone: all but the channels. -/
theorem refunded_frame (s : State) (p : Port) :
    (s.refunded p).endpoints = s.endpoints ∧ (s.refunded p).records = s.records ∧ (s.refunded p).ports = s.ports := by
  unfold State.refunded
  refine ⟨?_, ?_, ?_⟩
  · rw [foldl_endpoints]
    exact fun _ _ => refundEntry_endpoints ..
  · rw [foldl_records]
    exact fun _ _ => refundEntry_records ..
  · rw [foldl_ports]
    exact fun _ _ => refundEntry_ports ..

/-- The discard of the Endpoint Table's share. -/
def State.tableDiscarded (s : State) (p : Port) : State :=
  (s.refunded p).bulkDiscard (endpointsOf p)

theorem refunded_entries (s : State) (p : Port) :
    (s.refunded p).entriesOf (endpointsOf p) = (List.finRange 8).flatMap fun e => (s.role (globalOf p e)).queue := by
  rw [entriesOf_endpointsOf]
  refine List.flatMap_congr fun e _ => ?_
  rw [role_congr (endpoint_congr (refunded_frame s p).1 _)]

/-- The share's endpoints, and its selector. -/
def State.tableCleared (s : State) (p : Port) : State :=
  (endpointsOf p).foldl (fun t e => t.modEndpoint e Endpoint.clear) (s.tableDiscarded p)

theorem endpointTableShare_eq (s : State) (p : Port) :
    s.endpointTableShare p = (s.tableCleared p).modPort p fun x => { x with host := { x.host with viewSel := 0 } } := rfl

theorem tableCleared_frame (s : State) (p : Port) :
    (s.tableCleared p).channels = (s.refunded p).channels ∧ (s.tableCleared p).records = (s.tableDiscarded p).records ∧
      (s.tableCleared p).ports = (s.tableDiscarded p).ports ∧ (s.tableCleared p).cores = s.cores := by
  unfold State.tableCleared
  refine ⟨?_, ?_, ?_, ?_⟩
  · rw [foldl_channels]
    · exact bulkDiscard_channels ..
    · exact fun _ _ => modEndpoint_channels ..
  · rw [foldl_records]
    exact fun _ _ => modEndpoint_records ..
  · rw [foldl_ports]
    exact fun _ _ => modEndpoint_ports ..
  · rw [foldl_cores]
    · refine (bulkDiscard_cores ..).trans ?_
      unfold State.cores
      simp only [port_congr (refunded_frame s p).2.2]
    · exact fun _ _ => modEndpoint_cores ..

theorem endpointTableShare_endpoint (s : State) (p : Port) (e : EpId) :
    (s.endpointTableShare p).endpoint e = if portOf e = p then Endpoint.reset else s.endpoint e := by
  have h : (s.tableCleared p).endpoint e = if e ∈ endpointsOf p then Endpoint.reset else (s.tableDiscarded p).endpoint e :=
    foldl_clear_endpoint e (endpointsOf p) (s.tableDiscarded p)
  rw [endpointTableShare_eq, endpoint_congr (modPort_endpoints ..), h]
  simp only [mem_endpointsOf]
  split
  · rfl
  · next hp =>
    rw [State.tableDiscarded, bulkDiscard_endpoint, if_neg (fun x => hp (mem_endpointsOf.1 x)),
      endpoint_congr (refunded_frame s p).1]

theorem endpointTableShare_channel (s : State) (p : Port) (c : ChanId) :
    (s.endpointTableShare p).channel c =
      (s.channel c).mapLive
        (LiveChannel.refundedBy (s.entriesOn (s.entriesOf (endpointsOf p)) c .callerToCallee)
          (s.entriesOn (s.entriesOf (endpointsOf p)) c .calleeToCaller)) := by
  rw [endpointTableShare_eq, channel_congr (modPort_channels ..), channel_congr (tableCleared_frame s p).1]
  exact foldl_refundEntry_channel c _ s

theorem endpointTableShare_record (s : State) (p : Port) (r : RecId) :
    (s.endpointTableShare p).record r = (s.tableDiscarded p).record r := by
  rw [endpointTableShare_eq, record_congr (modPort_records ..), record_congr (tableCleared_frame s p).2.1]

/-- A record in the discarded queues is as many holders less. -/
theorem tableDiscarded_record_live {s : State} {p : Port} {r : RecId} {m : Message} {dl : Option Time}
    (h : r ∈ s.entriesOf (endpointsOf p)) (hr : s.record r = .live m dl) :
    (s.tableDiscarded p).record r = m.discardedTimes ((s.entriesOf (endpointsOf p)).count r) dl := by
  have he : (s.refunded p).entriesOf (endpointsOf p) = s.entriesOf (endpointsOf p) := by
    rw [refunded_entries, entriesOf_endpointsOf]
  have hr' : (s.refunded p).record r = .live m dl := (record_congr (refunded_frame s p).2.1 r).trans hr
  rw [State.tableDiscarded, bulkDiscard_record_live _ _ (he ▸ h) hr', he]
  rfl

theorem tableDiscarded_record_notin {s : State} {p : Port} {r : RecId} (h : r ∉ s.entriesOf (endpointsOf p)) :
    (s.tableDiscarded p).record r = s.record r := by
  have he : (s.refunded p).entriesOf (endpointsOf p) = s.entriesOf (endpointsOf p) := by
    rw [refunded_entries, entriesOf_endpointsOf]
  rw [State.tableDiscarded, bulkDiscard_record_notin _ _ (he ▸ h), record_congr (refunded_frame s p).2.1]

theorem tableDiscarded_record_free {s : State} {p : Port} {r : RecId} (h : r ∈ s.entriesOf (endpointsOf p))
    (hr : ∀ m, (s.record r).message? = some m → m.count ≤ 1) : (s.tableDiscarded p).record r = .free := by
  have he : (s.refunded p).entriesOf (endpointsOf p) = s.entriesOf (endpointsOf p) := by
    rw [refunded_entries, entriesOf_endpointsOf]
  refine bulkDiscard_record_one _ _ (he ▸ h) fun m hm => hr m ?_
  rwa [record_congr (refunded_frame s p).2.1] at hm

theorem discardReceipts_congr {s t : State} (h : t.records = s.records) (l : List RecId) (q : Port) :
    t.discardReceipts l q = s.discardReceipts l q := by
  unfold State.discardReceipts State.discardReceipt
  simp only [record_congr h]

/-- The receipts of the records that the share releases are handed off (R32, R35). -/
theorem endpointTableShare_handedOff (s : State) (p : Port) :
    s.HandedOff (s.endpointTableShare p) (s.discardReceipts (s.entriesOf (endpointsOf p))) := by
  obtain ⟨-, hrec, hports⟩ := refunded_frame s p
  have h := bulkDiscard_handedOff (s.refunded p) (endpointsOf p)
  rw [refunded_entries, ← entriesOf_endpointsOf] at h
  refine ((h.after (.of_ports hports) fun q => ?_).congr fun q => discardReceipts_congr hrec _ q).andThen ?_
  · unfold State.online
    rw [port_congr hports]
  · exact (keepsReceipts_modPort (s.tableCleared p) p (fun x => { x with host := { x.host with viewSel := 0 } }) rfl
      rfl).after (.of_ports (tableCleared_frame s p).2.2.1)

/-- A part of every port that the Endpoint Table's share and its report leave. -/
theorem endpointTableShare_part {α : Type} (g : PortRec → α) (hg : ∀ x y : PortRec, x.core = y.core → g x = g y)
    (hv : ∀ (x : PortRec) v, g { x with host := { x.host with viewSel := v } } = g x) (s : State) (p q : Port) :
    g ((s.endpointTableShare p).port q) = g (s.port q) := by
  rw [endpointTableShare_eq, modPort_part g (s.tableCleared p) p _ (hv _ 0) q]
  exact hg _ _ (core_of_cores (tableCleared_frame s p).2.2.2 q)

theorem endpointTableShare_host {s : State} {p q : Port} (h : q ≠ p) :
    ((s.endpointTableShare p).port q).host = (s.port q).host := by
  rw [endpointTableShare_eq, port_modPort_ne _ _ h, host_of_cores (tableCleared_frame s p).2.2.2]

theorem endpointTableShare_viewSel (s : State) (p : Port) : ((s.endpointTableShare p).port p).host.viewSel = 0 := by
  rw [endpointTableShare_eq, port_modPort_self]

/-- The share leaves the buffers, units and outcomes. -/
theorem endpointTableShare_transfers (s : State) (p : Port) :
    s.SameTransfers ((s.endpointTableShare p).report p (.share .endpointTable)) := by
  intro q
  have h {α : Type} (g : PortRec → α) (hg : ∀ x y : PortRec, x.core = y.core → g x = g y)
      (hv : ∀ (x : PortRec) v, g { x with host := { x.host with viewSel := v } } = g x)
      (hst : ∀ (x : PortRec) st, g { x with state := st } = g x) :
      g (((s.endpointTableShare p).report p (.share .endpointTable)).port q) = g (s.port q) :=
    (report_part g hst _ p _ q).trans (endpointTableShare_part g hg hv s p q)
  have core_eq {x y : PortRec} (e : x.core = y.core) : x.staging = y.staging ∧ x.sendUnit = y.sendUnit ∧
      x.sendOutcome = y.sendOutcome ∧ x.readBuffer = y.readBuffer ∧ x.fetchUnit = y.fetchUnit ∧
      x.fetchOutcome = y.fetchOutcome := by
    simp only [PortRec.core, Prod.mk.injEq] at e
    obtain ⟨-, -, -, -, h1, h2, h3, h4, h5, h6⟩ := e
    exact ⟨h1, h2, h3, h4, h5, h6⟩
  exact ⟨h PortRec.staging (fun _ _ e => (core_eq e).1) (fun _ _ => rfl) fun _ _ => rfl,
    h PortRec.readBuffer (fun _ _ e => (core_eq e).2.2.2.1) (fun _ _ => rfl) fun _ _ => rfl,
    h PortRec.sendUnit (fun _ _ e => (core_eq e).2.1) (fun _ _ => rfl) fun _ _ => rfl,
    h PortRec.fetchUnit (fun _ _ e => (core_eq e).2.2.2.2.1) (fun _ _ => rfl) fun _ _ => rfl,
    h PortRec.sendOutcome (fun _ _ e => (core_eq e).2.2.1) (fun _ _ => rfl) fun _ _ => rfl,
    h PortRec.fetchOutcome (fun _ _ e => (core_eq e).2.2.2.2.2) (fun _ _ => rfl) fun _ _ => rfl⟩

/-! ## The statement -/

theorem memoryManagerShare_record (s : State) (p : Port) (r : RecId) :
    (s.memoryManagerShare p).record r = (s.record r).mapMessage (Message.withoutReceiptAt p) :=
  mapVector_get ..

/-- Settles O59: each share is its block's own, followed by its report. -/
theorem unitAndEndpointResetShares : Obligations.UnitAndEndpointResetShares := by
  constructor
  · intro s p hrun
    refine ⟨fun h => ⟨s.memoryManagerShare p, ?_, rfl, fun r => ?_⟩, fun h => ?_, fun h => ?_, fun h => ?_, fun h => ?_,
      fun h => ?_⟩
    · exact (taken_running hrun).trans (congrArg _ (takeShare_due h))
    · rw [memoryManagerShare_record]
      cases s.record r <;> rfl
    · exact (taken_running hrun).trans (congrArg _ (takeShare_due h))
    · exact (taken_running hrun).trans (congrArg _ (takeShare_due h))
    · exact (taken_running hrun).trans (congrArg _ (takeShare_not_due h))
    · exact (taken_running hrun).trans (congrArg _ (takeShare_not_due h))
    · exact (taken_running hrun).trans (congrArg _ (takeShare_not_due h))
  · intro s p hrun
    refine ⟨fun h => (taken_running hrun).trans (congrArg _ (takeShare_not_due h)), fun h => ?_⟩
    intro entries
    have hentries : s.entriesOf (endpointsOf p) = entries := entriesOf_endpointsOf s p
    have mem_entries {r : RecId} : r ∈ entries ↔ ∃ e : EpIndex, r ∈ (s.role (globalOf p e)).queue := by
      simp [entries]
    refine ⟨(s.endpointTableShare p).report p (.share .endpointTable),
      (taken_running hrun).trans (congrArg _ (takeShare_due h)), report_awaits .., fun e => ?_, fun e he => ?_, ?_,
      fun q hq => ?_, (report_groups ..).trans (endpointTableShare_groups s p),
      (report_arbiter ..).trans (endpointTableShare_arbiter s p),
      sameMemory_of_store ((report_store ..).trans (endpointTableShare_store s p)),
      sameClock_of_fixed ((report_fixed ..).trans (endpointTableShare_fixed s p)),
      endpointTableShare_transfers s p, fun c => ?_, fun r m dl hr hl => ?_, ?_, fun r hr => ?_, fun r m hr hm h1 => ?_⟩
    · rw [endpoint_congr (report_endpoints ..), endpointTableShare_endpoint, if_pos (portOf_globalOf p e)]
      rfl
    · rw [endpoint_congr (report_endpoints ..), endpointTableShare_endpoint, if_neg he]
    · rw [report_part (fun x => x.host.viewSel) (fun _ _ => rfl), endpointTableShare_viewSel]
    · rw [report_part PortRec.host (fun _ _ => rfl), endpointTableShare_host hq]
    · rw [← hentries, channel_congr (report_channels ..), endpointTableShare_channel]
      rfl
    · rw [← hentries, record_congr (report_records ..), endpointTableShare_record,
        tableDiscarded_record_live (hentries ▸ hr) hl]
    · rw [← hentries]
      exact (endpointTableShare_handedOff s p).andThen (report_keepsReceipts ..)
    · rw [record_congr (report_records ..), endpointTableShare_record]
      refine tableDiscarded_record_notin fun hx => ?_
      obtain ⟨e, he⟩ := mem_entries.1 (hentries ▸ hx)
      exact hr e he
    · rw [record_congr (report_records ..), endpointTableShare_record]
      refine tableDiscarded_record_free (hentries ▸ mem_entries.2 hr) fun m' hm' => ?_
      obtain rfl : m = m' := Option.some.inj (hm.symm.trans hm')
      exact h1

end Sys2Proof.Machine
end

section
/-! The Channel Controller's share of a port reset: what it does channel by channel, and what that makes of the whole. -/

namespace Sys2Proof.Machine

/-! ## What only tells -/

/-- From s to t conditions are only set, except that REQUEST is only removed, and the same ports are in service. -/
structure State.OnlyTells (s t : State) : Prop where
  kept : ∀ p it c, c ≠ .request → s.HasCond p it c → t.HasCond p it c
  fewer : ∀ p it, t.HasCond p it .request → s.HasCond p it .request
  online : ∀ q, t.online q = s.online q

theorem State.OnlyTells.rfl (s : State) : s.OnlyTells s :=
  ⟨fun _ _ _ _ h => h, fun _ _ h => h, fun _ => Eq.refl _⟩

/-- What only tells before and after, read from its end. -/
theorem State.OnlyTells.after {s t u : State} (h' : t.OnlyTells u) (h : s.OnlyTells t) : s.OnlyTells u :=
  ⟨fun p it c hc x => h'.kept p it c hc (h.kept p it c hc x), fun p it x => h.fewer p it (h'.fewer p it x),
    fun q => (h'.online q).trans (h.online q)⟩

theorem State.OnlyTells.fold {α : Type} {f : State → α → State} (h : ∀ (s : State) a, s.OnlyTells (f s a)) :
    ∀ (l : List α) (s : State), s.OnlyTells (l.foldl f s)
  | [], s => .rfl s
  | a :: l, s => (fold h l _).after (h s a)

theorem State.OnlyTells.of_ports {s t : State} (h : t.ports = s.ports) : s.OnlyTells t := by
  refine ⟨fun _ _ _ _ => hasCond_of_ports h, fun _ _ => hasCond_of_ports h.symm, fun q => ?_⟩
  unfold State.online
  rw [port_congr h]

/-- A change of a port that leaves its conditions. -/
theorem onlyTells_modPort (s : State) (p : Port) (f : PortRec → PortRec)
    (ha : (f (s.port p)).attention = (s.port p).attention) (ho : ∀ q, (s.modPort p f).online q = s.online q) :
    s.OnlyTells (s.modPort p f) := by
  refine ⟨fun _ _ _ _ => hasCond_modPort ha, fun q it h => ?_, ho⟩
  unfold State.HasCond at *
  rwa [modPort_part PortRec.attention s p f ha q] at h

theorem onlyTells_modPort_same (s : State) (p : Port) (f : PortRec → PortRec)
    (ha : (f (s.port p)).attention = (s.port p).attention) (hs : (f (s.port p)).state = (s.port p).state) :
    s.OnlyTells (s.modPort p f) :=
  onlyTells_modPort s p f ha fun q => online_modPort s p q f hs

theorem only_and_request {d : Cond} (h : d ≠ .request) : d.only &&& Cond.request.only = 0#16 := by
  cases d <;> first | rfl | exact absurd rfl h

theorem only_and_not_request {c : Cond} (h : c ≠ .request) : ~~~Cond.request.only &&& c.only = c.only := by
  cases c <;> first | rfl | exact absurd rfl h

/-- A setting of another condition does not set REQUEST. -/
theorem setCond_onlyTells (s : State) (p : Port) (it : Item) {d : Cond} (hd : d ≠ .request) :
    s.OnlyTells (s.setCond p it d) := by
  refine ⟨fun _ _ _ _ => hasCond_setCond s p it d, fun q jt h => ?_, fun q => online_of_cores (setCond_cores ..) q⟩
  unfold State.setCond at h
  split at h
  · unfold State.HasCond at *
    by_cases e : q = p
    · subst e
      rw [port_modPort_self] at h
      simp only [Attention.add] at h
      by_cases ei : jt = it
      · subst ei
        intro hz
        apply h
        simp only [Fin.getElem_fin, Vector.getElem_set_self]
        rw [BitVec.and_comm, BitVec.and_or_distrib_left, BitVec.and_comm _ d.only, only_and_request hd, BitVec.or_zero,
          BitVec.and_comm]
        exact hz
      · have : it.val ≠ jt.val := fun x => ei (Fin.ext x.symm)
        simpa [this] using h
    · rwa [port_modPort_ne _ _ e] at h
  · exact h

theorem setEndpointCond_onlyTells (s : State) (e : EpId) {d : Cond} (hd : d ≠ .request) :
    s.OnlyTells (s.setEndpointCond e d) :=
  setCond_onlyTells s _ _ hd

/-- The removal of REQUEST removes nothing else. -/
theorem removeRequest_onlyTells (s : State) (p : Port) (it : Item) :
    s.OnlyTells (s.removeConds p it Cond.request.only) := by
  refine ⟨fun q jt c hc h => ?_, fun q jt h => ?_, fun q => online_modPort _ _ _ _ rfl⟩
  · unfold State.HasCond State.removeConds at *
    by_cases e : q = p
    · subst e
      rw [port_modPort_self]
      simp only [Attention.remove]
      by_cases ei : jt = it
      · subst ei
        simp only [Fin.getElem_fin, Vector.getElem_set_self]
        rw [BitVec.and_assoc, only_and_not_request hc]
        exact h
      · have : it.val ≠ jt.val := fun x => ei (Fin.ext x.symm)
        simpa [this] using h
    · rwa [port_modPort_ne _ _ e]
  · unfold State.HasCond State.removeConds at *
    by_cases e : q = p
    · subst e
      rw [port_modPort_self] at h
      simp only [Attention.remove] at h
      by_cases ei : jt = it
      · subst ei
        simp only [Fin.getElem_fin, Vector.getElem_set_self] at h
        refine absurd ?_ h
        rw [BitVec.and_assoc, show ~~~Cond.request.only &&& Cond.request.only = 0#16 from by decide, BitVec.and_zero]
      · have : it.val ≠ jt.val := fun x => ei (Fin.ext x.symm)
        simpa [this] using h
    · rwa [port_modPort_ne _ _ e] at h

/-- After the removal of REQUEST it does not stand there. -/
theorem removeRequest_gone (s : State) (p : Port) (it : Item) :
    ¬(s.removeConds p it Cond.request.only).HasCond p it .request := by
  unfold State.HasCond State.removeConds
  rw [port_modPort_self]
  simp only [Attention.remove, Fin.getElem_fin, Vector.getElem_set_self, ne_eq, not_not]
  rw [BitVec.and_assoc, show ~~~Cond.request.only &&& Cond.request.only = 0#16 from by decide, BitVec.and_zero]

theorem handOff_onlyTells (s : State) (p : Port) (rc : Receipt) : s.OnlyTells (s.handOff p rc) := by
  unfold State.handOff
  split
  · exact (setCond_onlyTells _ _ _ (by decide)).after (onlyTells_modPort_same s p _ rfl rfl)
  · exact onlyTells_modPort_same s p _ rfl rfl

theorem release_onlyTells (s : State) (r : RecId) (m : Message) (c : Cause) : s.OnlyTells (s.release r m c) := by
  have blocks_tell : s.OnlyTells (m.blocks.foldl (fun t b => t.placeBlock b (releasedTo m b)) s) :=
    .of_ports (ports_foldl_placeBlock ..)
  unfold State.release
  dsimp only
  refine State.OnlyTells.after (.of_ports (setRecord_ports ..)) ?_
  split
  · exact (handOff_onlyTells ..).after ((onlyTells_modPort_same _ _ _ rfl rfl).after blocks_tell)
  · exact (onlyTells_modPort_same _ _ _ rfl rfl).after blocks_tell

theorem claim_onlyTells (s : State) (r : RecId) (n : Nat) (k : Option TallyKind) (c : Cause) :
    s.OnlyTells (s.claim r n k c) := by
  rcases claim_cases s r n k c with ⟨-, h⟩ | ⟨m, -, ⟨-, h⟩ | ⟨-, h⟩⟩
  · rw [h]
    exact .rfl s
  · rw [h]
    exact .of_ports (modMessage_ports ..)
  · rw [h]
    exact release_onlyTells ..

theorem bulkDiscard_onlyTells (s : State) (l : List EpId) : s.OnlyTells (s.bulkDiscard l) :=
  (State.OnlyTells.fold (fun t r => claim_onlyTells t r _ _ _) _ _).after
    (State.OnlyTells.fold (fun t e => .of_ports (emptyQueue_ports t e)) l s)

theorem closeAt_onlyTells (s : State) (e : EpId) (o : CloseOutcome) (n : Nat) : s.OnlyTells (s.closeAt e o n) := by
  unfold State.closeAt
  split
  · exact (setEndpointCond_onlyTells _ _ (by decide)).after (.of_ports (modEndpoint_ports ..))
  · exact .rfl s

theorem setRole_onlyTells (s : State) (e : EpId) (r : Role) : s.OnlyTells (s.setRole e r) :=
  .of_ports (setRole_ports ..)

theorem setChannel_onlyTells (s : State) (c : ChanId) (x : Channel) : s.OnlyTells (s.setChannel c x) :=
  .of_ports (setChannel_ports ..)

theorem teardownLive_onlyTells (s : State) (c : ChanId) (l : LiveChannel) (cl : Closers) (o o' : CloseOutcome) :
    s.OnlyTells (s.teardownLive c l cl o o') :=
  (setChannel_onlyTells ..).after <| (closeAt_onlyTells ..).after <| (closeAt_onlyTells ..).after <|
    (setRole_onlyTells ..).after <| (setRole_onlyTells ..).after (bulkDiscard_onlyTells ..)

theorem failCaller_onlyTells (s : State) (a : EpId) (o : OpenOutcome) : s.OnlyTells (s.failCaller a o) := by
  unfold State.failCaller
  dsimp only
  split
  · exact (setEndpointCond_onlyTells _ _ (by decide)).after <|
      State.OnlyTells.after (.of_ports (modEndpoint_ports ..)) (setRole_onlyTells ..)
  · exact setRole_onlyTells ..

theorem withdrawCallee_onlyTells (s : State) (b : EpId) (o : WithdrawOutcome) : s.OnlyTells (s.withdrawCallee b o) := by
  unfold State.withdrawCallee
  split
  · exact (removeRequest_onlyTells ..).after <| (setEndpointCond_onlyTells _ _ (by decide)).after
      (.of_ports (modEndpoint_ports ..))
  · exact setRole_onlyTells ..

theorem reevaluateAll_onlyTells (s : State) : s.OnlyTells s.reevaluateAll :=
  .fold (fun t q => onlyTells_modPort_same t q _ rfl rfl) _ s

theorem report_onlyTells (s : State) (p : Port) (r : Report) : s.OnlyTells (s.report p r) :=
  onlyTells_modPort s p _ rfl fun q => online_report s p q r

/-! ## What the ends of a request hand off: nothing -/

theorem removeRequest_keepsReceipts (s : State) (p : Port) (it : Item) :
    s.KeepsReceipts (s.removeConds p it Cond.request.only) :=
  ⟨modPort_part PortRec.receipts s p _ rfl, fun q h => (removeRequest_onlyTells s p it).kept q _ _ (by decide) h⟩

theorem failCaller_keepsReceipts (s : State) (a : EpId) (o : OpenOutcome) : s.KeepsReceipts (s.failCaller a o) := by
  unfold State.failCaller
  dsimp only
  split
  · exact (setEndpointCond_keepsReceipts ..).after <|
      State.KeepsReceipts.after (.of_ports (modEndpoint_ports ..)) (setRole_keepsReceipts ..)
  · exact setRole_keepsReceipts ..

theorem withdrawCallee_keepsReceipts (s : State) (b : EpId) (o : WithdrawOutcome) :
    s.KeepsReceipts (s.withdrawCallee b o) := by
  unfold State.withdrawCallee
  split
  · exact (removeRequest_keepsReceipts ..).after <| (setEndpointCond_keepsReceipts ..).after
      (.of_ports (modEndpoint_ports ..))
  · exact setRole_keepsReceipts ..

theorem reevaluateAll_keepsReceipts (s : State) : s.KeepsReceipts s.reevaluateAll :=
  .fold (fun t q => keepsReceipts_modPort t q _ rfl rfl) _ s

/-! ## The ends of a request -/

theorem failCaller_endpoint (s : State) (a : EpId) (o : OpenOutcome) (k : EpId) :
    (s.failCaller a o).endpoint k =
      if k = a then
        (if s.online (portOf a) = true then { s.endpoint a with role := .idle, openOutcome := o }
        else { s.endpoint a with role := .idle })
      else s.endpoint k := by
  unfold State.failCaller
  by_cases h : s.online (portOf a) = true
  · rw [if_pos h, if_pos h, endpoint_congr (setEndpointCond_endpoints ..), endpoint_modEndpoint, endpoint_setRole,
      endpoint_setRole, if_pos rfl]
    split <;> rfl
  · rw [if_neg h, if_neg h, endpoint_setRole]

theorem withdrawCallee_endpoint (s : State) (b : EpId) (o : WithdrawOutcome) (k : EpId) :
    (s.withdrawCallee b o).endpoint k =
      if k = b then
        (if s.online (portOf b) = true then
          { s.endpoint b with role := (s.role b).backToListening, withdrawOutcome := o }
        else { s.endpoint b with role := .idle })
      else s.endpoint k := by
  unfold State.withdrawCallee
  by_cases h : s.online (portOf b) = true
  · rw [if_pos h, if_pos h, endpoint_congr (removeConds_endpoints ..), endpoint_congr (setEndpointCond_endpoints ..),
      endpoint_modEndpoint]
    rfl
  · rw [if_neg h, if_neg h, endpoint_setRole]

theorem failCaller_hasCond {s : State} {a : EpId} (o : OpenOutcome) (h : s.online (portOf a) = true) :
    (s.failCaller a o).HasCond (portOf a) (itemOf (localOf a)) .openFailed := by
  unfold State.failCaller
  rw [if_pos h]
  exact hasCond_setEndpointCond_self _ _ _ h

theorem withdrawCallee_hasCond {s : State} {b : EpId} (o : WithdrawOutcome) (h : s.online (portOf b) = true) :
    (s.withdrawCallee b o).HasCond (portOf b) (itemOf (localOf b)) .withdrawn ∧
      ¬(s.withdrawCallee b o).HasCond (portOf b) (itemOf (localOf b)) .request := by
  unfold State.withdrawCallee
  rw [if_pos h]
  exact ⟨(removeRequest_onlyTells ..).kept _ _ _ (by decide) (hasCond_setEndpointCond_self _ _ _ h),
    removeRequest_gone _ _ _⟩

/-! ## One channel -/

theorem failCaller_offline {s : State} {a : EpId} (o : OpenOutcome) (h : s.online (portOf a) = false) :
    s.failCaller a o = s.setRole a .idle := by
  unfold State.failCaller
  rw [h]
  rfl

theorem withdrawCallee_offline {s : State} {b : EpId} (o : WithdrawOutcome) (h : s.online (portOf b) = false) :
    s.withdrawCallee b o = s.setRole b .idle := by
  unfold State.withdrawCallee
  rw [h]
  rfl

/-- While the port is out of service its own ends need no case of their own. -/
theorem resetRequest_eq {s : State} {p : Port} (hp : s.online p = false) (c : ChanId) (a b : EpId) :
    s.resetRequest c a b p = ((s.setChannel c .free).failCaller a .peerReset).withdrawCallee b .callerReset := by
  have ha : (if portOf a = p then (s.setChannel c .free).setRole a .idle
      else (s.setChannel c .free).failCaller a .peerReset) = (s.setChannel c .free).failCaller a .peerReset := by
    split
    · next h => exact (failCaller_offline _ (h ▸ hp)).symm
    · rfl
  unfold State.resetRequest
  dsimp only
  rw [ha]
  split
  · next h =>
    refine (withdrawCallee_offline _ ?_).symm
    rw [(failCaller_onlyTells ..).online]
    exact h ▸ hp
  · rfl

/-- A channel after the Channel Controller's share. -/
def Channel.afterReset (p : Port) (x : Channel) : Channel :=
  match x with
  | .free => .free
  | .requested a b o d => if portOf a = p ∨ portOf b = p then .free else .requested a b o d
  | .opened l =>
    if portOf l.caller = p ∨ portOf l.callee = p then .tornDown l { caller := false, callee := false } else .opened l
  | .draining l cl d => if portOf l.caller = p ∨ portOf l.callee = p then .tornDown l cl else .draining l cl d
  | .aborting a b cl k => .aborting a b cl k

/-- An end of a channel that the share concerns, afterwards (R53, R116). -/
def Channel.endAfterReset (x : Channel) (on : Bool) (e : EpId) (y : Endpoint) : Endpoint :=
  if on then
    match x with
    | .requested a _ _ _ =>
      if e = a then { y with role := .idle, openOutcome := .peerReset }
      else { y with role := y.role.backToListening, withdrawOutcome := .callerReset }
    | .free | .opened _ | .draining _ _ _ | .aborting _ _ _ _ =>
      { y with role := .idle, closeOutcome := .peerReset, discarded := y.role.queue.length }
  else { y with role := .idle }

/-- The entries at the ends of a channel that the share tears down, the caller's before the callee's. -/
def State.tornAt (s : State) (p : Port) (c : ChanId) : List RecId :=
  match (s.channel c).live? with
  | none => []
  | some l =>
    if portOf l.caller = p ∨ portOf l.callee = p then (s.role l.caller).queue ++ (s.role l.callee).queue else []

theorem Channel.tornDown_not_endsAt (p : Port) (l : LiveChannel) (cl : Closers) : ¬(Channel.tornDown l cl).EndsAt p := by
  unfold Channel.tornDown
  split <;> exact id

/-- No channel has an end at the port after the share. -/
theorem Channel.afterReset_not_endsAt (p : Port) (x : Channel) : ¬(x.afterReset p).EndsAt p := by
  cases x with
  | free => exact id
  | aborting a b cl k => exact id
  | requested a b o d =>
    unfold Channel.afterReset
    dsimp only
    split
    · exact id
    · next h => exact h
  | opened l =>
    unfold Channel.afterReset
    dsimp only
    split
    · exact tornDown_not_endsAt p l _
    · next h => exact h
  | draining l cl d =>
    unfold Channel.afterReset
    dsimp only
    split
    · exact tornDown_not_endsAt p l _
    · next h => exact h

theorem Channel.afterReset_of_not_endsAt {p : Port} {x : Channel} (h : ¬x.EndsAt p) : x.afterReset p = x := by
  cases x with
  | requested a b o d => exact if_neg h
  | opened l => exact if_neg h
  | draining l cl d => exact if_neg h
  | _ => rfl

/-- A channel with no end at the port is left alone. -/
theorem resetChannel_of_not_endsAt {s : State} {p : Port} {c : ChanId} (h : ¬(s.channel c).EndsAt p) :
    State.resetChannel p s c = s := by
  unfold State.resetChannel
  split
  · next hc =>
    rw [hc] at h
    exact if_neg h
  · next hc =>
    rw [hc] at h
    exact if_neg h
  · next hc =>
    rw [hc] at h
    exact if_neg h
  all_goals rfl

/-- The three ways in which the share concerns a channel. -/
theorem resetChannel_of_endsAt {s : State} {p : Port} {c : ChanId} (hp : s.online p = false) (h : (s.channel c).EndsAt p) :
    (∃ a b o d, s.channel c = .requested a b o d ∧ (portOf a = p ∨ portOf b = p) ∧
      State.resetChannel p s c =
        ((s.setChannel c .free).failCaller a .peerReset).withdrawCallee b .callerReset) ∨
    ∃ l cl, (s.channel c).live? = some l ∧ (portOf l.caller = p ∨ portOf l.callee = p) ∧
      (s.channel c).afterReset p = .tornDown l cl ∧ (s.channel c).ends = [l.caller, l.callee] ∧
      (∀ on e y, (s.channel c).endAfterReset on e y = if on = true then
        { y with role := .idle, closeOutcome := .peerReset, discarded := y.role.queue.length }
        else { y with role := .idle }) ∧
      State.resetChannel p s c = s.teardownLive c l cl .peerReset .peerReset := by
  cases hc : s.channel c with
  | requested a b o d =>
    rw [hc] at h
    refine .inl ⟨a, b, o, d, rfl, h, ?_⟩
    rw [← resetRequest_eq hp]
    simp only [State.resetChannel, hc]
    exact if_pos h
  | opened l =>
    rw [hc] at h
    refine .inr ⟨l, { caller := false, callee := false }, rfl, h, if_pos h, rfl, fun on e y => rfl, ?_⟩
    simp only [State.resetChannel, hc]
    exact (if_pos h).trans (teardown_opened hc ..)
  | draining l cl d =>
    rw [hc] at h
    refine .inr ⟨l, cl, rfl, h, if_pos h, rfl, fun on e y => rfl, ?_⟩
    simp only [State.resetChannel, hc]
    exact (if_pos h).trans (teardown_draining hc ..)
  | free =>
    rw [hc] at h
    exact absurd h id
  | aborting a b cl k =>
    rw [hc] at h
    exact absurd h id

theorem resetChannel_channel {s : State} {p : Port} (hp : s.online p = false) (c k : ChanId) :
    (State.resetChannel p s c).channel k = if k = c then (s.channel c).afterReset p else s.channel k := by
  by_cases h : (s.channel c).EndsAt p
  · rcases resetChannel_of_endsAt hp h with ⟨a, b, o, d, hc, hab, e⟩ | ⟨l, cl, -, -, ha, -, -, e⟩
    · have hfree : (s.channel c).afterReset p = .free := by rw [hc]; exact if_pos hab
      rw [e, channel_congr (withdrawCallee_channels ..), channel_congr (failCaller_channels ..), hfree]
      split
      · next hk => rw [hk, channel_setChannel_self]
      · next hk => rw [channel_setChannel_ne _ _ hk]
    · rw [e, teardownLive_channel, ha]
  · rw [resetChannel_of_not_endsAt h, Channel.afterReset_of_not_endsAt h]
    split
    · next hk => rw [hk]
    · rfl

theorem resetChannel_onlyTells {s : State} {p : Port} (hp : s.online p = false) (c : ChanId) :
    s.OnlyTells (State.resetChannel p s c) := by
  by_cases h : (s.channel c).EndsAt p
  · rcases resetChannel_of_endsAt hp h with ⟨a, b, o, d, -, -, e⟩ | ⟨l, cl, -, -, -, -, -, e⟩
    · rw [e]
      exact (withdrawCallee_onlyTells ..).after <| (failCaller_onlyTells ..).after (setChannel_onlyTells ..)
    · rw [e]
      exact teardownLive_onlyTells ..
  · rw [resetChannel_of_not_endsAt h]
    exact .rfl s

/-- An endpoint that is no end of the channel, or whose channel is not concerned, stays. -/
theorem resetChannel_endpoint_of_not {s : State} {p : Port} (hp : s.online p = false) {c : ChanId} {e : EpId}
    (h : ¬s.EndConcerned p c e) : (State.resetChannel p s c).endpoint e = s.endpoint e := by
  by_cases hc : (s.channel c).EndsAt p
  · have he : e ∉ (s.channel c).ends := fun x => h ⟨hc, x⟩
    rcases resetChannel_of_endsAt hp hc with ⟨a, b, o, d, hx, -, ht⟩ | ⟨l, cl, -, -, -, hends, -, ht⟩
    · rw [hx] at he
      simp only [Channel.ends, List.mem_cons, List.not_mem_nil, or_false, not_or] at he
      rw [ht, withdrawCallee_endpoint, if_neg he.2, failCaller_endpoint, if_neg he.1]
      rfl
    · rw [hends] at he
      simp only [List.mem_cons, List.not_mem_nil, or_false, not_or] at he
      rw [ht, State.teardownLive, endpoint_congr (setChannel_endpoints ..), closeAt_endpoint_eq, if_neg fun x => he.2 x.1, closeAt_endpoint_eq,
        if_neg fun x => he.1 x.1, endpoint_setRole, if_neg he.2, endpoint_setRole, if_neg he.1, bulkDiscard_endpoint,
        if_neg (by simp [he])]
  · rw [resetChannel_of_not_endsAt hc]

/-- The ends of a concerned channel differ unless their port is the one in reset. -/
theorem ends_ne {a b : EpId} {p : Port} {s : State} (hp : s.online p = false) (h : portOf a = p ∨ portOf b = p) {e : EpId}
    (he : e = a ∨ e = b) (ho : s.online (portOf e) = true) : a ≠ b := by
  rintro rfl
  have : portOf e = p := by rcases he with rfl | rfl <;> rcases h with h | h <;> exact h
  rw [this, hp] at ho
  cases ho

/-- An end of a torn down channel, its port in service or not, and whichever ends the channel names. -/
theorem teardownLive_endpoint_offline (s : State) (c : ChanId) {l : LiveChannel} (cl : Closers) (o o' : CloseOutcome) {e : EpId}
    (he : e = l.caller ∨ e = l.callee) (ho : s.online (portOf e) = false) :
    (s.teardownLive c l cl o o').endpoint e = { s.endpoint e with role := .idle } := by
  let s2 := ((s.bulkDiscard [l.caller, l.callee]).setRole l.caller .idle).setRole l.callee .idle
  have h2 : s2.endpoint e = { s.endpoint e with role := .idle } := by
    unfold s2
    rw [endpoint_setRole, endpoint_setRole, endpoint_setRole, bulkDiscard_endpoint, bulkDiscard_endpoint,
      bulkDiscard_endpoint]
    rcases he with rfl | rfl
    · by_cases h : l.caller = l.callee <;> simp [h]
    · by_cases h : l.callee = l.caller <;> simp [h]
  have hon (q : Port) : s2.online q = s.online q := online_of_cores (by simp [s2]) q
  have hon' (q : Port) (n : Nat) : (s2.closeAt l.caller o n).online q = s.online q :=
    (online_of_cores (closeAt_cores ..) q).trans (hon q)
  have off {k : EpId} {b : Prop} (h : k = e) (x : s.online (portOf k) = true) : b := by
    rw [h, ho] at x
    cases x
  show ((s2.closeAt l.caller o (s.role l.caller).queue.length).closeAt l.callee o'
    (s.role l.callee).queue.length).endpoint e = _
  rw [closeAt_endpoint_eq, hon', if_neg fun x => off x.1.symm x.2, closeAt_endpoint_eq, hon,
    if_neg fun x => off x.1.symm x.2, h2]

/-- An end of a concerned channel. -/
theorem resetChannel_endpoint {s : State} {p : Port} (hp : s.online p = false) {c : ChanId} {e : EpId}
    (h : s.EndConcerned p c e) :
    (State.resetChannel p s c).endpoint e =
      (s.channel c).endAfterReset (s.online (portOf e)) e (s.endpoint e) := by
  obtain ⟨hc, he⟩ := h
  rcases resetChannel_of_endsAt hp hc with ⟨a, b, o, d, hx, hab, ht⟩ | ⟨l, cl, -, hl, -, hends, hafter, ht⟩
  · rw [hx] at he
    simp only [Channel.ends, List.mem_cons, List.not_mem_nil, or_false] at he
    have hon : ((s.setChannel c .free).failCaller a .peerReset).online (portOf b) = s.online (portOf b) :=
      ((failCaller_onlyTells ..).online _).trans rfl
    have hfail (k : EpId) := failCaller_endpoint (s.setChannel c .free) a .peerReset k
    rw [ht, withdrawCallee_endpoint, hon, State.role, hfail, hfail, hx]
    cases ho : s.online (portOf e) with
    | true =>
      have hne := ends_ne hp hab he ho
      rcases he with rfl | rfl
      · have ho' : (s.setChannel c .free).online (portOf e) = true := ho
        rw [if_neg hne, if_pos rfl, if_pos ho']
        simp only [Channel.endAfterReset, if_true]
        rfl
      · rw [if_pos rfl, if_neg hne.symm, if_pos ho]
        simp only [Channel.endAfterReset, if_true, if_neg hne.symm]
        rfl
    | false =>
      by_cases hb : e = b
      · subst hb
        rw [if_pos rfl, ho, if_neg (by decide)]
        split
        · next ha =>
          subst ha
          rw [if_neg (by rw [show (s.setChannel c .free).online _ = _ from ho]; decide)]
          rfl
        · rfl
      · have ha : e = a := he.resolve_right hb
        subst ha
        rw [if_neg hb, if_pos rfl, if_neg (by rw [show (s.setChannel c .free).online _ = _ from ho]; decide)]
        rfl
  · rw [hends] at he
    simp only [List.mem_cons, List.not_mem_nil, or_false] at he
    rw [ht, hafter]
    cases ho : s.online (portOf e) with
    | true =>
      have hne := ends_ne hp hl he ho
      rw [teardownLive_endpoint s c cl _ _ hne, if_pos rfl]
      rcases he with rfl | rfl
      · rw [if_pos rfl, State.tornEnd, if_pos ho]
        rfl
      · rw [if_neg hne.symm, if_pos rfl, State.tornEnd, if_pos ho]
        rfl
    | false =>
      rw [teardownLive_endpoint_offline s c cl _ _ he ho]
      rfl

/-- What an end in service is told. -/
theorem resetChannel_told {s : State} {p : Port} (hp : s.online p = false) {c : ChanId} {e : EpId}
    (h : s.EndConcerned p c e) (ho : s.online (portOf e) = true) :
    (∀ a b o d, s.channel c = .requested a b o d → e = a →
      (State.resetChannel p s c).HasCond (portOf e) (itemOf (localOf e)) .openFailed) ∧
    (∀ a b o d, s.channel c = .requested a b o d → e = b →
      (State.resetChannel p s c).HasCond (portOf e) (itemOf (localOf e)) .withdrawn ∧
        ¬(State.resetChannel p s c).HasCond (portOf e) (itemOf (localOf e)) .request) ∧
    (∀ l, (s.channel c).live? = some l →
      (State.resetChannel p s c).HasCond (portOf e) (itemOf (localOf e)) .closed) := by
  obtain ⟨hc, he⟩ := h
  rcases resetChannel_of_endsAt hp hc with ⟨a, b, o, d, hx, hab, ht⟩ | ⟨l, cl, hl, -, -, hends, -, ht⟩
  · refine ⟨fun a' b' o' d' hx' hea => ?_, fun a' b' o' d' hx' heb => ?_, fun l hl => ?_⟩
    · cases hx.symm.trans hx'
      subst hea
      rw [ht]
      exact (withdrawCallee_onlyTells ..).kept _ _ _ (by decide) (failCaller_hasCond _ ho)
    · cases hx.symm.trans hx'
      subst heb
      rw [ht]
      exact withdrawCallee_hasCond _ (((failCaller_onlyTells ..).online _).trans ho)
    · rw [hx] at hl
      cases hl
  · refine ⟨fun a b o d hx => ?_, fun a b o d hx => ?_, fun l' hl' => ?_⟩
    · rw [hx] at hl
      cases hl
    · rw [hx] at hl
      cases hl
    · rw [hends] at he
      simp only [List.mem_cons, List.not_mem_nil, or_false] at he
      rw [ht]
      exact teardownLive_hasCond s c l cl _ _ he ho

theorem tornAt_live {s : State} {p : Port} {c : ChanId} {l : LiveChannel} (hl : (s.channel c).live? = some l)
    (hp : portOf l.caller = p ∨ portOf l.callee = p) :
    s.tornAt p c = (s.role l.caller).queue ++ (s.role l.callee).queue := by
  simp only [State.tornAt, hl, if_pos hp]

theorem tornAt_elsewhere {s : State} {p : Port} {c : ChanId} (h : ¬(s.channel c).EndsAt p) : s.tornAt p c = [] := by
  cases hx : s.channel c with
  | opened l =>
    rw [hx] at h
    simp only [State.tornAt, hx, Channel.live?]
    exact if_neg h
  | draining l cl d =>
    rw [hx] at h
    simp only [State.tornAt, hx, Channel.live?]
    exact if_neg h
  | _ => simp only [State.tornAt, hx, Channel.live?]

/-- The records, as the discard of the torn entries leaves them. -/
theorem resetChannel_record_notin {s : State} {p : Port} (hp : s.online p = false) {c : ChanId} {r : RecId}
    (h : r ∉ s.tornAt p c) : (State.resetChannel p s c).record r = s.record r := by
  by_cases hc : (s.channel c).EndsAt p
  · rcases resetChannel_of_endsAt hp hc with ⟨a, b, o, d, -, -, ht⟩ | ⟨l, cl, hl, hlp, -, -, -, ht⟩
    · rw [ht, record_congr (withdrawCallee_records ..), record_congr (failCaller_records ..)]
      rfl
    · rw [tornAt_live hl hlp, ← entriesOf_pair] at h
      rw [ht, record_congr (teardownLive_records ..), bulkDiscard_record_notin _ _ h]
  · rw [resetChannel_of_not_endsAt hc]

theorem resetChannel_record_free {s : State} {p : Port} (hp : s.online p = false) {c : ChanId} {r : RecId}
    (h : r ∈ s.tornAt p c) (hr : ∀ m, (s.record r).message? = some m → m.count ≤ 1) :
    (State.resetChannel p s c).record r = .free := by
  have hc : (s.channel c).EndsAt p := by
    by_contra hn
    rw [tornAt_elsewhere hn] at h
    cases h
  rcases resetChannel_of_endsAt hp hc with ⟨a, b, o, d, hx, -, -⟩ | ⟨l, cl, hl, hlp, -, -, -, ht⟩
  · simp only [State.tornAt, hx, Channel.live?] at h
    cases h
  · rw [tornAt_live hl hlp, ← entriesOf_pair] at h
    rw [ht, record_congr (teardownLive_records ..)]
    exact bulkDiscard_record_one _ _ h hr

/-- The receipts of the records that one channel's part releases. -/
theorem resetChannel_handedOff {s : State} {p : Port} (hp : s.online p = false) (c : ChanId) :
    s.HandedOff (State.resetChannel p s c) (s.discardReceipts (s.tornAt p c)) := by
  have nothing (h : s.tornAt p c = []) : (fun _ : Port => ([] : List Receipt)) = s.discardReceipts (s.tornAt p c) := by
    rw [h]
    rfl
  by_cases hc : (s.channel c).EndsAt p
  · rcases resetChannel_of_endsAt hp hc with ⟨a, b, o, d, hx, -, ht⟩ | ⟨l, cl, hl, hlp, -, -, -, ht⟩
    · rw [ht, ← nothing (by simp only [State.tornAt, hx, Channel.live?])]
      exact ((withdrawCallee_keepsReceipts ..).after <| (failCaller_keepsReceipts ..).after
        (setChannel_keepsReceipts ..)).handedOff
    · rw [ht, tornAt_live hl hlp]
      exact teardownLive_handedOff s c l cl _ _
  · rw [resetChannel_of_not_endsAt hc, ← nothing (tornAt_elsewhere hc)]
    exact (State.KeepsReceipts.rfl s).handedOff

end Sys2Proof.Machine
end

section
/-! The Channel Controller's share as a whole: what the run over the channels makes of channels, ends, records and
receipts. -/

namespace Sys2Proof.Machine

/-! ## Receipts of disjoint discards -/

theorem firstAppearances_append {l l' : List RecId} (h : ∀ r ∈ l, r ∉ l') :
    firstAppearances (l ++ l') = firstAppearances l ++ firstAppearances l' := by
  induction l with
  | nil => rfl
  | cons a l ih =>
    have ha : a ∉ l' := h a List.mem_cons_self
    have hl : (firstAppearances l').filter (· ≠ a) = firstAppearances l' := by
      refine List.filter_eq_self.2 fun x hx => ?_
      have hx' : x ∈ l' := mem_firstAppearances.1 hx
      simpa using ne_of_mem_of_not_mem hx' ha
    rw [List.cons_append, firstAppearances, firstAppearances, ih fun r hr => h r (List.mem_cons_of_mem _ hr),
      List.filter_append, hl]
    rfl

/-- The receipts of two discards that share no record. -/
theorem discardReceipts_append (s : State) {l l' : List RecId} (h : ∀ r ∈ l, r ∉ l') (q : Port) :
    s.discardReceipts (l ++ l') q = s.discardReceipts l q ++ s.discardReceipts l' q := by
  unfold State.discardReceipts
  rw [firstAppearances_append h, List.flatMap_append]
  congr 1
  · refine List.flatMap_congr fun r hr => ?_
    rw [List.count_append, List.count_eq_zero.2 (h r (mem_firstAppearances.1 hr)), Nat.add_zero]
  · refine List.flatMap_congr fun r hr => ?_
    have hr' : r ∉ l := fun x => h r x (mem_firstAppearances.1 hr)
    rw [List.count_append, List.count_eq_zero.2 hr', Nat.zero_add]

/-- The receipts of discards of which no two share a record. -/
theorem discardReceipts_flatMap {α : Type} (s : State) (L : α → List RecId) (q : Port) : ∀ (l : List α), l.Nodup →
    (∀ i ∈ l, ∀ k ∈ l, i ≠ k → ∀ r ∈ L i, r ∉ L k) →
    s.discardReceipts (l.flatMap L) q = l.flatMap fun i => s.discardReceipts (L i) q
  | [], _, _ => rfl
  | i :: l, hd, h => by
    obtain ⟨hi, hl⟩ := List.nodup_cons.1 hd
    rw [List.flatMap_cons, List.flatMap_cons, discardReceipts_append, discardReceipts_flatMap s L q l hl]
    · exact fun j hj k hk => h j (List.mem_cons_of_mem _ hj) k (List.mem_cons_of_mem _ hk)
    · intro r hr hx
      obtain ⟨k, hk, hrk⟩ := List.mem_flatMap.1 hx
      exact h i List.mem_cons_self k (List.mem_cons_of_mem _ hk) (ne_of_mem_of_not_mem hk hi).symm r hr hrk

/-- A receipt depends on its record. -/
theorem discardReceipts_congr_mem {s t : State} {l : List RecId} (h : ∀ r ∈ l, t.record r = s.record r) (q : Port) :
    t.discardReceipts l q = s.discardReceipts l q := by
  refine List.flatMap_congr fun r hr => ?_
  unfold State.discardReceipt
  rw [h r (mem_firstAppearances.1 hr)]

/-- A run of steps of which each hands off the receipts of its own entries, while the entries of the others stay. -/
theorem foldl_handedOff {α : Type} {f : State → α → State} {L : State → α → List RecId} {I : State → List α → Prop}
    (hf : ∀ s i l, I s (i :: l) →
      s.HandedOff (f s i) (s.discardReceipts (L s i)) ∧ s.OnlyTells (f s i) ∧ I (f s i) l ∧
        ∀ k ∈ l, L (f s i) k = L s k ∧ ∀ r ∈ L s k, (f s i).record r = s.record r) :
    ∀ (l : List α) (s : State), I s l →
      s.OnlyTells (l.foldl f s) ∧ s.HandedOff (l.foldl f s) fun q => l.flatMap fun i => s.discardReceipts (L s i) q
  | [], s, _ => ⟨.rfl s, (State.KeepsReceipts.rfl s).handedOff⟩
  | i :: l, s, h => by
    obtain ⟨hh, ht, hi, hk⟩ := hf s i l h
    obtain ⟨ht', hh'⟩ := foldl_handedOff hf l (f s i) hi
    refine ⟨ht'.after ht, (hh.trans hh' ht.online fun q => ht'.kept q _ _ (by decide)).congr fun q => ?_⟩
    rw [List.flatMap_cons]
    congr 1
    refine List.flatMap_congr fun k hkl => ?_
    obtain ⟨hL, hrec⟩ := hk k hkl
    rw [hL]
    exact discardReceipts_congr_mem hrec q

/-! ## The run over the channels -/

theorem finRange_split {n : Nat} (c : Fin n) : ∃ l l', List.finRange n = l ++ c :: l' ∧ c ∉ l ∧ c ∉ l' := by
  obtain ⟨l, l', h⟩ := List.append_of_mem (List.mem_finRange c)
  have hd : (l ++ c :: l').Nodup := h ▸ List.nodup_finRange n
  rw [List.nodup_append, List.nodup_cons] at hd
  obtain ⟨-, ⟨hc, -⟩, hne⟩ := hd
  exact ⟨l, l', h, fun x => hne c x c List.mem_cons_self rfl, hc⟩

theorem resetChannel_offline {s : State} {p : Port} (hp : s.online p = false) (c : ChanId) :
    (State.resetChannel p s c).online p = false :=
  ((resetChannel_onlyTells hp c).online p).trans hp

theorem resetChannels_onlyTells {p : Port} : ∀ (l : List ChanId) {s : State}, s.online p = false →
    s.OnlyTells (l.foldl (State.resetChannel p) s)
  | [], s, _ => .rfl s
  | c :: l, _, hp => (resetChannels_onlyTells l (resetChannel_offline hp c)).after (resetChannel_onlyTells hp c)

/-- Each channel of the run is taken as `Channel.afterReset` says. -/
theorem resetChannels_channel {p : Port} (k : ChanId) : ∀ (l : List ChanId) {s : State}, s.online p = false →
    (l.foldl (State.resetChannel p) s).channel k = if k ∈ l then (s.channel k).afterReset p else s.channel k
  | [], s, _ => by simp
  | c :: l, s, hp => by
    rw [List.foldl_cons, resetChannels_channel k l (resetChannel_offline hp c), resetChannel_channel hp]
    by_cases h : k = c
    · subst h
      rw [if_pos rfl, Channel.afterReset_of_not_endsAt (Channel.afterReset_not_endsAt p _), ite_self,
        if_pos List.mem_cons_self]
    · rw [if_neg h]
      by_cases hl : k ∈ l <;> simp [h, hl]

theorem resetChannels_channel_notin {p : Port} {k : ChanId} {l : List ChanId} {s : State} (hp : s.online p = false)
    (h : k ∉ l) : (l.foldl (State.resetChannel p) s).channel k = s.channel k := by
  rw [resetChannels_channel k l hp, if_neg h]

/-- The share makes no end concerned that was not. -/
theorem endConcerned_of_resetChannel {s : State} {p : Port} (hp : s.online p = false) {c k : ChanId} {e : EpId}
    (h : (State.resetChannel p s c).EndConcerned p k e) : k ≠ c ∧ s.EndConcerned p k e := by
  obtain ⟨h1, h2⟩ := h
  rw [resetChannel_channel hp] at h1 h2
  split at h1
  · exact absurd h1 (Channel.afterReset_not_endsAt p _)
  · next hk =>
    rw [if_neg hk] at h2
    exact ⟨hk, h1, h2⟩

theorem endConcerned_of_resetChannels {p : Port} {k : ChanId} {e : EpId} : ∀ (l : List ChanId) {s : State},
    s.online p = false → (l.foldl (State.resetChannel p) s).EndConcerned p k e → s.EndConcerned p k e
  | [], _, _, h => h
  | c :: l, _, hp, h =>
    (endConcerned_of_resetChannel hp (endConcerned_of_resetChannels l (resetChannel_offline hp c) h)).2

/-- An endpoint that no channel of the run concerns stays. -/
theorem resetChannels_endpoint_of_not {p : Port} {e : EpId} : ∀ (l : List ChanId) {s : State}, s.online p = false →
    (∀ c ∈ l, ¬s.EndConcerned p c e) → (l.foldl (State.resetChannel p) s).endpoint e = s.endpoint e
  | [], _, _, _ => rfl
  | c :: l, s, hp, h => by
    rw [List.foldl_cons, resetChannels_endpoint_of_not l (resetChannel_offline hp c), resetChannel_endpoint_of_not hp]
    · exact h c List.mem_cons_self
    · exact fun k hk hx => h k (List.mem_cons_of_mem _ hk) (endConcerned_of_resetChannel hp hx).2

/-- An endpoint of a port out of service stays, or goes to IDLE. -/
theorem resetChannel_endpoint_offline {s : State} {p : Port} (hp : s.online p = false) (c : ChanId) {e : EpId}
    (ho : s.online (portOf e) = false) :
    (State.resetChannel p s c).endpoint e = s.endpoint e ∨
      (State.resetChannel p s c).endpoint e = { s.endpoint e with role := .idle } := by
  by_cases h : s.EndConcerned p c e
  · rw [resetChannel_endpoint hp h, ho]
    exact .inr rfl
  · exact .inl (resetChannel_endpoint_of_not hp h)

theorem resetChannels_endpoint_offline {p : Port} {e : EpId} : ∀ (l : List ChanId) {s : State}, s.online p = false →
    s.online (portOf e) = false →
    (l.foldl (State.resetChannel p) s).endpoint e = s.endpoint e ∨
      (l.foldl (State.resetChannel p) s).endpoint e = { s.endpoint e with role := .idle }
  | [], _, _, _ => .inl rfl
  | c :: l, s, hp, ho => by
    have ho' := ((resetChannel_onlyTells hp c).online (portOf e)).trans ho
    rw [List.foldl_cons]
    rcases resetChannels_endpoint_offline l (resetChannel_offline hp c) ho' with h | h <;>
      rcases resetChannel_endpoint_offline hp c ho with h' | h' <;> rw [h, h']
    · exact .inl rfl
    · exact .inr rfl
    · exact .inr rfl
    · exact .inr rfl

/-- A queue stays, or is emptied. -/
theorem resetChannel_queue {s : State} {p : Port} (hp : s.online p = false) (c : ChanId) (e : EpId) :
    ((State.resetChannel p s c).role e).queue = (s.role e).queue ∨ ((State.resetChannel p s c).role e).queue = [] := by
  by_cases h : s.EndConcerned p c e
  · unfold State.role
    rw [resetChannel_endpoint hp h]
    unfold Channel.endAfterReset
    split
    · split
      · split
        · exact .inr rfl
        · refine .inl ?_
          show (s.role e).backToListening.queue = (s.role e).queue
          cases s.role e <;> rfl
      all_goals exact .inr rfl
    · exact .inr rfl
  · exact .inl (by rw [role_congr (resetChannel_endpoint_of_not hp h)])

theorem mem_tornAt {s : State} {p : Port} {c : ChanId} {r : RecId} :
    r ∈ s.tornAt p c ↔ ∃ l e, (s.channel c).live? = some l ∧ s.EndConcerned p c e ∧ r ∈ (s.role e).queue := by
  have ends_live {l : LiveChannel} (h : (s.channel c).live? = some l) :
      (s.channel c).ends = [l.caller, l.callee] ∧
        ((s.channel c).EndsAt p ↔ portOf l.caller = p ∨ portOf l.callee = p) := by
    cases hx : s.channel c <;> rw [hx] at h <;> cases h <;> exact ⟨rfl, Iff.rfl⟩
  constructor
  · intro h
    cases hl : (s.channel c).live? with
    | none =>
      simp only [State.tornAt, hl] at h
      cases h
    | some l =>
      obtain ⟨hends, hat⟩ := ends_live hl
      have hc : (s.channel c).EndsAt p := by
        by_contra hn
        rw [tornAt_elsewhere hn] at h
        cases h
      rw [tornAt_live hl (hat.1 hc), List.mem_append] at h
      rcases h with h | h
      · exact ⟨l, l.caller, rfl, ⟨hc, by simp [hends]⟩, h⟩
      · exact ⟨l, l.callee, rfl, ⟨hc, by simp [hends]⟩, h⟩
  · rintro ⟨l, e, hl, ⟨hc, he⟩, hr⟩
    obtain ⟨hends, hat⟩ := ends_live hl
    rw [hends] at he
    simp only [List.mem_cons, List.not_mem_nil, or_false] at he
    rw [tornAt_live hl (hat.1 hc), List.mem_append]
    exact he.imp (fun h : e = l.caller => h ▸ hr) fun h : e = l.callee => h ▸ hr

theorem mem_tornAt_of_resetChannel {s : State} {p : Port} (hp : s.online p = false) {c k : ChanId} {r : RecId}
    (h : r ∈ (State.resetChannel p s c).tornAt p k) : r ∈ s.tornAt p k := by
  obtain ⟨l, e, hl, hk, hr⟩ := mem_tornAt.1 h
  obtain ⟨hne, hk'⟩ := endConcerned_of_resetChannel hp hk
  rw [resetChannel_channel hp, if_neg hne] at hl
  refine mem_tornAt.2 ⟨l, e, hl, hk', ?_⟩
  rcases resetChannel_queue hp c e with hq | hq <;> rw [hq] at hr
  · exact hr
  · cases hr

/-- A record with no torn entry stays. -/
theorem resetChannels_record_notin {p : Port} {r : RecId} : ∀ (l : List ChanId) {s : State}, s.online p = false →
    (∀ c ∈ l, r ∉ s.tornAt p c) → (l.foldl (State.resetChannel p) s).record r = s.record r
  | [], _, _, _ => rfl
  | c :: l, s, hp, h => by
    rw [List.foldl_cons, resetChannels_record_notin l (resetChannel_offline hp c), resetChannel_record_notin hp]
    · exact h c List.mem_cons_self
    · exact fun k hk hx => h k (List.mem_cons_of_mem _ hk) (mem_tornAt_of_resetChannel hp hx)

/-- A record of at most one holder stays, or is FREE. -/
theorem resetChannels_record_one {p : Port} {r : RecId} : ∀ (l : List ChanId) {s : State}, s.online p = false →
    (∀ m, (s.record r).message? = some m → m.count ≤ 1) →
    (l.foldl (State.resetChannel p) s).record r = s.record r ∨ (l.foldl (State.resetChannel p) s).record r = .free
  | [], _, _, _ => .inl rfl
  | c :: l, s, hp, h => by
    have hstep : (State.resetChannel p s c).record r = s.record r ∨ (State.resetChannel p s c).record r = .free := by
      by_cases hr : r ∈ s.tornAt p c
      · exact .inr (resetChannel_record_free hp hr h)
      · exact .inl (resetChannel_record_notin hp hr)
    have hone : ∀ m, ((State.resetChannel p s c).record r).message? = some m → m.count ≤ 1 := by
      rcases hstep with e | e <;> rw [e]
      · exact h
      · exact fun m hm => by cases hm
    rw [List.foldl_cons]
    rcases resetChannels_record_one l (resetChannel_offline hp c) hone with e | e
    · rw [e]
      exact hstep
    · exact .inr e

/-! ## The receipts of the share in a coherent state -/

/-- No two of these channels share a torn entry, or an end whose queue is not empty. -/
def State.TornApart (s : State) (p : Port) (l : List ChanId) : Prop :=
  s.online p = false ∧ l.Nodup ∧
  ∀ c ∈ l, ∀ k ∈ l, c ≠ k →
    (∀ r ∈ s.tornAt p c, r ∉ s.tornAt p k) ∧
    ∀ e, s.EndConcerned p c e → s.EndConcerned p k e → (s.role e).queue = []

/-- Torn apart, one channel's part leaves the entries of the others. -/
theorem tornAt_resetChannel {s : State} {p : Port} {c : ChanId} {l : List ChanId} (h : s.TornApart p (c :: l))
    {k : ChanId} (hk : k ∈ l) : (State.resetChannel p s c).tornAt p k = s.tornAt p k := by
  obtain ⟨hp, hd, hapart⟩ := h
  have hne : k ≠ c := ne_of_mem_of_not_mem hk (List.nodup_cons.1 hd).1
  have hch : (State.resetChannel p s c).channel k = s.channel k := by rw [resetChannel_channel hp, if_neg hne]
  have hq (e : EpId) (he : s.EndConcerned p k e) : ((State.resetChannel p s c).role e).queue = (s.role e).queue := by
    by_cases hc : s.EndConcerned p c e
    · have h0 := (hapart c List.mem_cons_self k (List.mem_cons_of_mem _ hk) hne.symm).2 e hc he
      rcases resetChannel_queue hp c e with h | h
      · exact h
      · rw [h, h0]
    · rw [role_congr (resetChannel_endpoint_of_not hp hc)]
  by_cases hat : (s.channel k).EndsAt p
  · cases hx : s.channel k with
    | opened x =>
      rw [hx] at hat hch
      rw [tornAt_live (l := x) (by rw [hch]; rfl) hat, tornAt_live (l := x) (by rw [hx]; rfl) hat, hq, hq]
      · exact ⟨by rw [hx]; exact hat, by simp [hx, Channel.ends]⟩
      · exact ⟨by rw [hx]; exact hat, by simp [hx, Channel.ends]⟩
    | draining x cl d =>
      rw [hx] at hat hch
      rw [tornAt_live (l := x) (by rw [hch]; rfl) hat, tornAt_live (l := x) (by rw [hx]; rfl) hat, hq, hq]
      · exact ⟨by rw [hx]; exact hat, by simp [hx, Channel.ends]⟩
      · exact ⟨by rw [hx]; exact hat, by simp [hx, Channel.ends]⟩
    | _ =>
      rw [hx] at hch
      simp only [State.tornAt, hx, hch, Channel.live?]
  · rw [tornAt_elsewhere hat, tornAt_elsewhere (by rw [hch]; exact hat)]

theorem tornApart_resetChannel {s : State} {p : Port} {c : ChanId} {l : List ChanId} (h : s.TornApart p (c :: l)) :
    (State.resetChannel p s c).TornApart p l := by
  have hk {k : ChanId} (hk : k ∈ l) := tornAt_resetChannel h hk
  obtain ⟨hp, hd, hapart⟩ := h
  refine ⟨resetChannel_offline hp c, (List.nodup_cons.1 hd).2, fun i hi k hkl hne => ⟨?_, fun e he he' => ?_⟩⟩
  · rw [hk hi, hk hkl]
    exact (hapart i (List.mem_cons_of_mem _ hi) k (List.mem_cons_of_mem _ hkl) hne).1
  · have h0 := (hapart i (List.mem_cons_of_mem _ hi) k (List.mem_cons_of_mem _ hkl) hne).2 e
      (endConcerned_of_resetChannel hp he).2 (endConcerned_of_resetChannel hp he').2
    rcases resetChannel_queue hp c e with h | h
    · rw [h, h0]
    · exact h

/-- Torn apart, the run hands off the receipts of all the torn entries. -/
theorem resetChannels_handedOff {s : State} {p : Port} {l : List ChanId} (h : s.TornApart p l) :
    s.HandedOff (l.foldl (State.resetChannel p) s) (s.discardReceipts (l.flatMap (s.tornAt p))) := by
  refine (foldl_handedOff (L := fun t k => t.tornAt p k) (I := fun t l => t.TornApart p l) (fun t c l hl => ?_) l s
    h).2.congr fun q => ?_
  · refine ⟨resetChannel_handedOff hl.1 c, resetChannel_onlyTells hl.1 c, tornApart_resetChannel hl, fun k hk =>
      ⟨tornAt_resetChannel hl hk, fun r hr => resetChannel_record_notin hl.1 fun hx => ?_⟩⟩
    obtain ⟨-, hd, hapart⟩ := hl
    have hne : c ≠ k := (ne_of_mem_of_not_mem hk (List.nodup_cons.1 hd).1).symm
    exact (hapart c List.mem_cons_self k (List.mem_cons_of_mem _ hk) hne).1 r hx hr
  · exact (discardReceipts_flatMap s (s.tornAt p) q l h.2.1 fun i hi k hk hne => (h.2.2 i hi k hk hne).1).symm

/-- The channel that an endpoint with entries in its queue is an end of, by its role (R37). -/
theorem role_of_live_end {s : State} (h : s.NamesLaw) {c : ChanId} {e : EpId} (he : e ∈ (s.channel c).ends)
    (hq : (s.role e).queue ≠ []) :
    (∃ x q n, s.role e = .connected c x q n) ∨ ∃ x q n, s.role e = .closing c x q n := by
  obtain ⟨-, hc, -⟩ := h
  have not_left : ¬s.LeftBehind e := fun hl => hq (by rw [hl.1]; rfl)
  obtain ⟨-, hx⟩ := hc c
  cases hch : s.channel c with
  | free =>
    rw [hch] at he
    cases he
  | aborting a b cl k =>
    rw [hch] at he
    cases he
  | requested a b o d =>
    rw [hch] at he hx
    simp only [Channel.ends, List.mem_cons, List.not_mem_nil, or_false] at he
    obtain ⟨ha, hb⟩ := hx
    rcases he with rfl | rfl
    · exact absurd (by rw [ha.resolve_left not_left]; rfl) hq
    · obtain ⟨f, hf⟩ := hb.resolve_left not_left
      exact absurd (by rw [hf]; rfl) hq
  | opened l =>
    rw [hch] at he hx
    simp only [Channel.ends, List.mem_cons, List.not_mem_nil, or_false] at he
    rcases he with rfl | rfl
    · exact .inl (hx.1.resolve_left not_left)
    · exact .inl (hx.2.resolve_left not_left)
  | draining l cl d =>
    rw [hch] at he hx
    simp only [Channel.ends, List.mem_cons, List.not_mem_nil, or_false] at he
    rcases he with rfl | rfl
    · exact .inr (hx.1.resolve_left not_left)
    · exact .inr (hx.2.resolve_left not_left)

/-- An entry at an end of a channel is of that channel (R27). -/
theorem link_of_live_end {s : State} (hn : s.NamesLaw) (hq : s.QueueLaw) {c : ChanId} {e : EpId} {r : RecId}
    (he : e ∈ (s.channel c).ends) (hr : r ∈ (s.role e).queue) :
    ∃ m dl d, s.record r = .live m dl ∧ m.link = .channel c d := by
  obtain ⟨-, -, -, hfit⟩ := hq e
  obtain ⟨m, dl, hrec, hf, -⟩ := hfit r hr
  have hne : (s.role e).queue ≠ [] := List.ne_nil_of_mem hr
  unfold State.EntryFits at hf
  rcases role_of_live_end hn he hne with ⟨x, q, n, h⟩ | ⟨x, q, n, h⟩ <;> rw [h] at hf
  · obtain ⟨l, d, -, hl, -⟩ := hf
    exact ⟨m, dl, d, hrec, hl⟩
  · obtain ⟨l, cl, dl', d, -, hl, -⟩ := hf
    exact ⟨m, dl, d, hrec, hl⟩

/-- In a coherent state the channels that the share tears down are apart. -/
theorem tornApart_of_coherent {s : State} (h : s.Coherent) {p : Port} (hp : s.online p = false) :
    s.TornApart p (List.finRange 16) := by
  obtain ⟨-, hq, hn, -⟩ := h
  refine ⟨hp, List.nodup_finRange 16, fun c _ k _ hne => ⟨fun r hr hr' => ?_, fun e he he' => ?_⟩⟩
  · obtain ⟨l, e, -, he, hre⟩ := mem_tornAt.1 hr
    obtain ⟨l', e', -, he', hre'⟩ := mem_tornAt.1 hr'
    obtain ⟨m, dl, d, hm, hlink⟩ := link_of_live_end hn hq he.2 hre
    obtain ⟨m', dl', d', hm', hlink'⟩ := link_of_live_end hn hq he'.2 hre'
    cases hm.symm.trans hm'
    cases hlink.symm.trans hlink'
    exact hne rfl
  · by_contra hx
    rcases role_of_live_end hn he.2 hx with ⟨x, q, n, h⟩ | ⟨x, q, n, h⟩ <;>
      rcases role_of_live_end hn he'.2 hx with ⟨x', q', n', h'⟩ | ⟨x', q', n', h'⟩ <;>
      cases h.symm.trans h'
    · exact hne rfl
    · exact hne rfl

/-! ## One end of one channel -/

/-- Where the run takes the channel of an end that no other concerned channel has: just before it the channel and the
end are as at the start, and after it the end stays. -/
theorem resetChannels_at_endOfOne {s : State} {p : Port} (hp : s.online p = false) {c : ChanId} {e : EpId}
    (h : s.EndOfOne p c e) :
    ∃ (u : State) (l l' : List ChanId), u = l.foldl (State.resetChannel p) s ∧
      s.channelControllerShare p = l'.foldl (State.resetChannel p) (State.resetChannel p u c) ∧
      u.online p = false ∧ u.channel c = s.channel c ∧ u.endpoint e = s.endpoint e ∧
      (s.channelControllerShare p).endpoint e = (State.resetChannel p u c).endpoint e := by
  obtain ⟨l, l', hl, hc, hc'⟩ := finRange_split c
  have hshare : s.channelControllerShare p =
      l'.foldl (State.resetChannel p) (State.resetChannel p (l.foldl (State.resetChannel p) s) c) := by
    unfold State.channelControllerShare
    rw [hl, List.foldl_append, List.foldl_cons]
  have hu : (l.foldl (State.resetChannel p) s).online p = false :=
    ((resetChannels_onlyTells l hp).online p).trans hp
  refine ⟨_, l, l', rfl, hshare, hu, resetChannels_channel_notin hp hc, resetChannels_endpoint_of_not l hp ?_, ?_⟩
  · exact fun k hk hx => ne_of_mem_of_not_mem hk hc (h.2 k hx)
  · rw [hshare]
    refine resetChannels_endpoint_of_not l' (resetChannel_offline hu c) fun k hk hx => ?_
    exact ne_of_mem_of_not_mem hk hc'
      (h.2 k (endConcerned_of_resetChannels l hp (endConcerned_of_resetChannel hu hx).2))

/-- An end of one concerned channel, its port in service. -/
theorem channelShare_endpoint {s : State} {p : Port} (hp : s.online p = false) {c : ChanId} {e : EpId}
    (h : s.EndOfOne p c e) :
    (s.channelControllerShare p).endpoint e =
      (s.channel c).endAfterReset (s.online (portOf e)) e (s.endpoint e) := by
  obtain ⟨u, l, l', hu, -, hup, hch, hep, ht⟩ := resetChannels_at_endOfOne hp h
  have hc : u.EndConcerned p c e := ⟨by rw [hch]; exact h.1.1, by rw [hch]; exact h.1.2⟩
  have hon : u.online (portOf e) = s.online (portOf e) := by
    rw [hu]
    exact (resetChannels_onlyTells l hp).online _
  rw [ht, resetChannel_endpoint hup hc, hch, hep, hon]

/-- What such an end is told stands after the share. -/
theorem channelShare_told {s : State} {p : Port} (hp : s.online p = false) {c : ChanId} {e : EpId} (h : s.EndOfOne p c e)
    (ho : s.online (portOf e) = true) :
    (∀ a b o d, s.channel c = .requested a b o d → e = a →
      (s.channelControllerShare p).HasCond (portOf e) (itemOf (localOf e)) .openFailed) ∧
    (∀ a b o d, s.channel c = .requested a b o d → e = b →
      (s.channelControllerShare p).HasCond (portOf e) (itemOf (localOf e)) .withdrawn ∧
        ¬(s.channelControllerShare p).HasCond (portOf e) (itemOf (localOf e)) .request) ∧
    (∀ l, (s.channel c).live? = some l →
      (s.channelControllerShare p).HasCond (portOf e) (itemOf (localOf e)) .closed) := by
  obtain ⟨u, l, l', hu, hshare, hup, hch, -, -⟩ := resetChannels_at_endOfOne hp h
  have hc : u.EndConcerned p c e := ⟨by rw [hch]; exact h.1.1, by rw [hch]; exact h.1.2⟩
  have hon : u.online (portOf e) = true := by
    rw [hu, (resetChannels_onlyTells l hp).online]
    exact ho
  have htail := resetChannels_onlyTells l' (resetChannel_offline hup c)
  rw [← hshare] at htail
  obtain ⟨h1, h2, h3⟩ := resetChannel_told hup hc hon
  rw [hch] at h1 h2 h3
  refine ⟨fun a b o d hx he => htail.kept _ _ _ (by decide) (h1 a b o d hx he), fun a b o d hx he => ?_,
    fun x hx => htail.kept _ _ _ (by decide) (h3 x hx)⟩
  obtain ⟨hw, hr⟩ := h2 a b o d hx he
  exact ⟨htail.kept _ _ _ (by decide) hw, fun x => hr (htail.fewer _ _ x)⟩

/-- A record whose one holder is an entry at such an end is FREE. -/
theorem channelShare_record_free {s : State} {p : Port} (hp : s.online p = false) {c : ChanId} {e : EpId} {l : LiveChannel}
    {r : RecId} (h : s.EndOfOne p c e) (hl : (s.channel c).live? = some l) (hr : r ∈ (s.role e).queue)
    (h1 : ∀ m, (s.record r).message? = some m → m.count ≤ 1) : (s.channelControllerShare p).record r = .free := by
  obtain ⟨u, l1, l2, hu, hshare, hup, hch, hep, -⟩ := resetChannels_at_endOfOne hp h
  have hone : ∀ m, (u.record r).message? = some m → m.count ≤ 1 := by
    rw [hu]
    rcases resetChannels_record_one l1 hp h1 with e | e <;> rw [e]
    · exact h1
    · exact fun m hm => by cases hm
  have hmem : r ∈ u.tornAt p c := by
    refine mem_tornAt.2 ⟨l, e, by rw [hch]; exact hl, ⟨by rw [hch]; exact h.1.1, by rw [hch]; exact h.1.2⟩, ?_⟩
    rw [role_congr hep]
    exact hr
  have hfree := resetChannel_record_free hup hmem hone
  rw [hshare]
  rcases resetChannels_record_one l2 (resetChannel_offline hup c) (by rw [hfree]; exact fun m hm => by cases hm) with e | e
  · rw [e, hfree]
  · exact e

/-- An end of a concerned channel at a port out of service is IDLE. -/
theorem channelShare_endpoint_offline {s : State} {p : Port} (hp : s.online p = false) {c : ChanId} {e : EpId}
    (h : s.EndConcerned p c e) (ho : s.online (portOf e) = false) :
    (s.channelControllerShare p).endpoint e = { s.endpoint e with role := .idle } := by
  obtain ⟨l, l', hl, hc, -⟩ := finRange_split c
  have hshare : s.channelControllerShare p =
      l'.foldl (State.resetChannel p) (State.resetChannel p (l.foldl (State.resetChannel p) s) c) := by
    unfold State.channelControllerShare
    rw [hl, List.foldl_append, List.foldl_cons]
  have htell := resetChannels_onlyTells (p := p) l hp
  have hu := (htell.online p).trans hp
  have ho' := (htell.online (portOf e)).trans ho
  have hch : (l.foldl (State.resetChannel p) s).channel c = s.channel c := resetChannels_channel_notin hp hc
  have hcon : (l.foldl (State.resetChannel p) s).EndConcerned p c e :=
    ⟨by rw [hch]; exact h.1, by rw [hch]; exact h.2⟩
  have hv : (State.resetChannel p (l.foldl (State.resetChannel p) s) c).endpoint e = { s.endpoint e with role := .idle } := by
    rw [resetChannel_endpoint hu hcon, ho']
    rcases resetChannels_endpoint_offline l hp ho with hx | hx <;> rw [hx] <;> rfl
  have ho'' := ((resetChannel_onlyTells hu c).online (portOf e)).trans ho'
  rw [hshare]
  rcases resetChannels_endpoint_offline l' (resetChannel_offline hu c) ho'' with hx | hx <;> rw [hx, hv]

end Sys2Proof.Machine
end

section
/-! The Group Controller's share of a port reset, and the statement about the two shares that concern links. -/

namespace Sys2Proof.Machine

/-! ## Dissolve and the removal of members -/

theorem foldl_setRole_idle_endpoint (e : EpId) : ∀ (l : List EpId) (s : State),
    (l.foldl (fun t m => t.setRole m .idle) s).endpoint e =
      if e ∈ l then { s.endpoint e with role := .idle } else s.endpoint e
  | [], s => by simp
  | a :: l, s => by
    rw [List.foldl_cons, foldl_setRole_idle_endpoint e l, endpoint_setRole]
    by_cases h : e = a <;> by_cases hl : e ∈ l <;> simp [h, hl]

theorem foldl_groupGone_endpoints (l : List EpId) (s : State) :
    (l.foldl (fun t m => t.setEndpointCond m .groupGone) s).endpoints = s.endpoints :=
  foldl_endpoints _ (fun _ _ => setEndpointCond_endpoints ..) l s

theorem dissolve_endpoint (s : State) (g : GroupId) (x : ActiveGroup) (e : EpId) :
    (s.dissolve g x).endpoint e =
      if e = x.publisher ∨ e ∈ x.members then { s.endpoint e with role := .idle } else s.endpoint e := by
  unfold State.dissolve
  dsimp only
  rw [endpoint_congr (setGroup_endpoints ..), endpoint_setRole, endpoint_congr (foldl_groupGone_endpoints ..),
    endpoint_congr (foldl_groupGone_endpoints ..), foldl_setRole_idle_endpoint, foldl_setRole_idle_endpoint,
    bulkDiscard_endpoint, bulkDiscard_endpoint]
  by_cases h : e = x.publisher
  · subst h
    by_cases hm : x.publisher ∈ x.members <;> simp [hm]
  · by_cases hm : e ∈ x.members <;> simp [h, hm]

theorem removeMembers_endpoint (s : State) (g : GroupId) (x : ActiveGroup) (l : List EpId) (e : EpId) :
    (s.removeMembers g x l).endpoint e = if e ∈ l then { s.endpoint e with role := .idle } else s.endpoint e := by
  unfold State.removeMembers
  dsimp only
  rw [endpoint_congr (setEndpointCond_endpoints ..), foldl_setRole_idle_endpoint, endpoint_congr (setGroup_endpoints ..),
    bulkDiscard_endpoint]
  by_cases h : e ∈ l <;> simp [h]

theorem dissolve_records (s : State) (g : GroupId) (x : ActiveGroup) :
    (s.dissolve g x).records = (s.bulkDiscard x.members).records := by
  unfold State.dissolve
  dsimp only
  rw [setGroup_records, setRole_records, foldl_records _ fun _ _ => setEndpointCond_records ..,
    foldl_records _ fun _ _ => setRole_records ..]

theorem removeMembers_records (s : State) (g : GroupId) (x : ActiveGroup) (l : List EpId) :
    (s.removeMembers g x l).records = (s.bulkDiscard l).records := by
  unfold State.removeMembers
  dsimp only
  rw [setEndpointCond_records, foldl_records _ fun _ _ => setRole_records .., setGroup_records]

theorem dissolve_group (s : State) (g k : GroupId) (x : ActiveGroup) :
    (s.dissolve g x).group k = if k = g then (if x.copyInFlight then .dissolving else .free) else s.group k := by
  unfold State.dissolve
  dsimp only
  by_cases h : k = g
  · rw [if_pos h, h, group_setGroup_self]
  · rw [if_neg h, group_setGroup_ne _ _ h, group_congr (setRole_groups ..),
      group_congr (foldl_groups _ (fun _ _ => setEndpointCond_groups ..) ..),
      group_congr (foldl_groups _ (fun _ _ => setRole_groups ..) ..), group_congr (bulkDiscard_groups ..)]

theorem removeMembers_group (s : State) (g k : GroupId) (x : ActiveGroup) (l : List EpId) :
    (s.removeMembers g x l).group k =
      if k = g then .active { x with members := x.members.filter fun m => !l.contains m } else s.group k := by
  unfold State.removeMembers
  dsimp only
  rw [group_congr (setEndpointCond_groups ..), group_congr (foldl_groups _ (fun _ _ => setRole_groups ..) ..)]
  split
  · next h => rw [h, group_setGroup_self]
  · next h => rw [group_setGroup_ne _ _ h, group_congr (bulkDiscard_groups ..)]

theorem setGroup_onlyTells (s : State) (g : GroupId) (x : Group) : s.OnlyTells (s.setGroup g x) :=
  .of_ports (setGroup_ports ..)

theorem dissolve_onlyTells (s : State) (g : GroupId) (x : ActiveGroup) : s.OnlyTells (s.dissolve g x) :=
  (setGroup_onlyTells ..).after <| (setRole_onlyTells ..).after <|
    (State.OnlyTells.fold (fun t m => setEndpointCond_onlyTells t m (by decide)) _ _).after <|
    (State.OnlyTells.fold (fun t m => setRole_onlyTells t m _) _ _).after (bulkDiscard_onlyTells ..)

theorem removeMembers_onlyTells (s : State) (g : GroupId) (x : ActiveGroup) (l : List EpId) :
    s.OnlyTells (s.removeMembers g x l) :=
  (setEndpointCond_onlyTells _ _ (by decide)).after <|
    (State.OnlyTells.fold (fun t m => setRole_onlyTells t m _) _ _).after <|
    (setGroup_onlyTells ..).after (bulkDiscard_onlyTells ..)

theorem setGroup_keepsReceipts (s : State) (g : GroupId) (x : Group) : s.KeepsReceipts (s.setGroup g x) :=
  .of_ports (setGroup_ports ..)

theorem dissolve_handedOff (s : State) (g : GroupId) (x : ActiveGroup) :
    s.HandedOff (s.dissolve g x) (s.discardReceipts (s.entriesOf x.members)) :=
  (bulkDiscard_handedOff s x.members).andThen <|
    (setGroup_keepsReceipts ..).after <| (setRole_keepsReceipts ..).after <|
    (State.KeepsReceipts.fold (fun t m => setEndpointCond_keepsReceipts t m _) _ _).after
      (State.KeepsReceipts.fold (fun t m => setRole_keepsReceipts t m _) _ _)

theorem removeMembers_handedOff (s : State) (g : GroupId) (x : ActiveGroup) (l : List EpId) :
    s.HandedOff (s.removeMembers g x l) (s.discardReceipts (s.entriesOf l)) :=
  (bulkDiscard_handedOff s l).andThen <|
    (setEndpointCond_keepsReceipts ..).after <|
    (State.KeepsReceipts.fold (fun t m => setRole_keepsReceipts t m _) _ _).after (setGroup_keepsReceipts ..)

/-- GROUP_GONE stands at each member in service of a dissolved group. -/
theorem foldl_groupGone_hasCond {e : EpId} : ∀ (l : List EpId) (s : State), e ∈ l → s.online (portOf e) = true →
    (l.foldl (fun t m => t.setEndpointCond m .groupGone) s).HasCond (portOf e) (itemOf (localOf e)) .groupGone
  | a :: l, s, h, ho => by
    rw [List.foldl_cons]
    by_cases hl : e ∈ l
    · exact foldl_groupGone_hasCond l _ hl
        (((setEndpointCond_onlyTells s a (by decide)).online _).trans ho)
    · obtain rfl : e = a := (List.mem_cons.1 h).resolve_right hl
      exact hasCond_foldl _ (fun t m hc => hasCond_setEndpointCond t m _ hc) l _
        (hasCond_setEndpointCond_self s e _ ho)

theorem dissolve_hasCond (s : State) (g : GroupId) (x : ActiveGroup) {e : EpId} (he : e ∈ x.members)
    (ho : s.online (portOf e) = true) :
    (s.dissolve g x).HasCond (portOf e) (itemOf (localOf e)) .groupGone := by
  refine hasCond_of_ports ((setGroup_ports ..).trans (setRole_ports ..)) (foldl_groupGone_hasCond _ _ he ?_)
  refine Eq.trans (State.OnlyTells.online ?_ _) ho
  exact (State.OnlyTells.fold (fun t m => setRole_onlyTells t m _) _ _).after (bulkDiscard_onlyTells s _)

theorem removeMembers_hasCond (s : State) (g : GroupId) (x : ActiveGroup) (l : List EpId)
    (ho : s.online (portOf x.publisher) = true) :
    (s.removeMembers g x l).HasCond (portOf x.publisher) (itemOf (localOf x.publisher)) .members := by
  refine hasCond_setEndpointCond_self _ _ _ (Eq.trans (State.OnlyTells.online ?_ _) ho)
  exact (State.OnlyTells.fold (fun t m => setRole_onlyTells t m _) _ _).after <|
    (setGroup_onlyTells ..).after (bulkDiscard_onlyTells s _)

/-! ## One group -/

/-- A group after the Group Controller's share. -/
def Group.afterReset (p : Port) : Group → Group
  | .free => .free
  | .active x =>
    if portOf x.publisher = p then (if x.copyInFlight then .dissolving else .free)
    else .active { x with members := x.members.filter fun m => portOf m ≠ p }
  | .dissolving => .dissolving

theorem afterReset_active (p : Port) (x : ActiveGroup) : (Group.active x).afterReset p =
    if portOf x.publisher = p then (if x.copyInFlight then .dissolving else .free)
    else .active { x with members := x.members.filter fun m => portOf m ≠ p } := rfl

theorem leaving_active (p : Port) (x : ActiveGroup) : (Group.active x).leaving p =
    if portOf x.publisher = p then x.publisher :: x.members else x.members.filter fun m => portOf m = p := rfl

/-- The endpoints whose queues the share discards: the members that a group loses. -/
def Group.discardedAt (p : Port) : Group → List EpId
  | .free => []
  | .active x => if portOf x.publisher = p then x.members else x.members.filter fun m => portOf m = p
  | .dissolving => []

theorem discardedAt_active (p : Port) (x : ActiveGroup) : (Group.active x).discardedAt p =
    if portOf x.publisher = p then x.members else x.members.filter fun m => portOf m = p := rfl

theorem mem_leaving_of_discardedAt {p : Port} {x : Group} {e : EpId} (h : e ∈ x.discardedAt p) : e ∈ x.leaving p := by
  cases x with
  | active x =>
    rw [discardedAt_active] at h
    rw [leaving_active]
    by_cases hp : portOf x.publisher = p
    · rw [if_pos hp] at h ⊢
      exact List.mem_cons_of_mem _ h
    · rw [if_neg hp] at h ⊢
      exact h
  | free => cases h
  | dissolving => cases h

/-- After the share a group loses nobody more. -/
theorem leaving_afterReset (p : Port) (x : Group) : (x.afterReset p).leaving p = [] := by
  cases x with
  | active x =>
    rw [afterReset_active]
    by_cases h : portOf x.publisher = p
    · rw [if_pos h]
      split <;> rfl
    · rw [if_neg h, leaving_active, if_neg h, List.filter_eq_nil_iff]
      simp
  | free => rfl
  | dissolving => rfl

theorem afterReset_afterReset (p : Port) (x : Group) : (x.afterReset p).afterReset p = x.afterReset p := by
  cases x with
  | active x =>
    by_cases h : portOf x.publisher = p
    · have h1 : (Group.active x).afterReset p = if x.copyInFlight then .dissolving else .free := if_pos h
      rw [h1]
      split <;> rfl
    · have h1 : (Group.active x).afterReset p = .active { x with members := x.members.filter fun m => portOf m ≠ p } :=
        if_neg h
      rw [h1]
      refine (if_neg h).trans ?_
      simp
  | free => rfl
  | dissolving => rfl

theorem resetGroup_cases (s : State) (p : Port) (g : GroupId) :
    ((s.group g).leaving p = [] ∧ (s.group g).afterReset p = s.group g ∧ (s.group g).discardedAt p = [] ∧
      State.resetGroup p s g = s) ∨
    ∃ x, s.group g = .active x ∧
      (portOf x.publisher = p ∧ State.resetGroup p s g = s.dissolve g x ∨
        portOf x.publisher ≠ p ∧ (∃ m ∈ x.members, portOf m = p) ∧
          State.resetGroup p s g = s.removeMembers g x (x.members.filter fun m => portOf m = p)) := by
  cases hg : s.group g with
  | free => exact .inl ⟨rfl, rfl, rfl, by simp only [State.resetGroup, hg]⟩
  | dissolving => exact .inl ⟨rfl, rfl, rfl, by simp only [State.resetGroup, hg]⟩
  | active x =>
    by_cases hp : portOf x.publisher = p
    · exact .inr ⟨x, rfl, .inl ⟨hp, by simp only [State.resetGroup, hg, if_pos hp]⟩⟩
    · by_cases hl : (x.members.filter fun m => portOf m = p) = []
      · refine .inl ⟨?_, ?_, ?_, by simp only [State.resetGroup, hg, if_neg hp, if_pos hl]⟩
        · rw [leaving_active, if_neg hp, hl]
        · have hall : (x.members.filter fun m => portOf m ≠ p) = x.members := by
            rw [List.filter_eq_nil_iff] at hl
            rw [List.filter_eq_self]
            simpa using hl
          rw [afterReset_active, if_neg hp, hall]
        · rw [discardedAt_active, if_neg hp, hl]
      · refine .inr ⟨x, rfl, .inr ⟨hp, ?_, by simp only [State.resetGroup, hg, if_neg hp, if_neg hl]⟩⟩
        obtain ⟨m, hm⟩ := List.exists_mem_of_ne_nil _ hl
        rw [List.mem_filter] at hm
        exact ⟨m, hm.1, by simpa using hm.2⟩

theorem resetGroup_onlyTells (s : State) (p : Port) (g : GroupId) : s.OnlyTells (State.resetGroup p s g) := by
  rcases resetGroup_cases s p g with ⟨-, -, -, h⟩ | ⟨x, -, ⟨-, h⟩ | ⟨-, -, h⟩⟩ <;> rw [h]
  · exact .rfl s
  · exact dissolve_onlyTells ..
  · exact removeMembers_onlyTells ..

theorem resetGroup_group (s : State) (p : Port) (g k : GroupId) :
    (State.resetGroup p s g).group k = if k = g then (s.group g).afterReset p else s.group k := by
  rcases resetGroup_cases s p g with ⟨-, ha, -, h⟩ | ⟨x, hx, ⟨hp, h⟩ | ⟨hp, -, h⟩⟩ <;> rw [h]
  · split
    · next e => rw [e, ha]
    · rfl
  · rw [dissolve_group, hx]
    have ha : (Group.active x).afterReset p = if x.copyInFlight then .dissolving else .free := if_pos hp
    rw [ha]
  · have hf : (x.members.filter fun m => !(x.members.filter fun m => portOf m = p).contains m) =
        x.members.filter fun m => portOf m ≠ p := by
      refine List.filter_congr fun m hm => ?_
      by_cases e : portOf m = p <;> simp [hm, e]
    have ha : (Group.active x).afterReset p = .active { x with members := x.members.filter fun m => portOf m ≠ p } :=
      if_neg hp
    rw [removeMembers_group, hf, hx, ha]

theorem resetGroup_endpoint (s : State) (p : Port) (g : GroupId) (e : EpId) :
    (State.resetGroup p s g).endpoint e =
      if e ∈ (s.group g).leaving p then { s.endpoint e with role := .idle } else s.endpoint e := by
  rcases resetGroup_cases s p g with ⟨hl, -, -, h⟩ | ⟨x, hx, ⟨hp, h⟩ | ⟨hp, -, h⟩⟩ <;> rw [h]
  · rw [hl, if_neg List.not_mem_nil]
  · have hl : (Group.active x).leaving p = x.publisher :: x.members := if_pos hp
    rw [dissolve_endpoint, hx, hl]
    simp only [List.mem_cons]
  · have hl : (Group.active x).leaving p = x.members.filter fun m => portOf m = p := if_neg hp
    rw [removeMembers_endpoint, hx, hl]

theorem bulkDiscard_nil (s : State) : s.bulkDiscard [] = s := rfl

theorem resetGroup_records (s : State) (p : Port) (g : GroupId) :
    (State.resetGroup p s g).records = (s.bulkDiscard ((s.group g).discardedAt p)).records := by
  rcases resetGroup_cases s p g with ⟨-, -, hd, h⟩ | ⟨x, hx, ⟨hp, h⟩ | ⟨hp, -, h⟩⟩ <;> rw [h]
  · rw [hd, bulkDiscard_nil]
  · have hd : (Group.active x).discardedAt p = x.members := if_pos hp
    rw [dissolve_records, hx, hd]
  · have hd : (Group.active x).discardedAt p = x.members.filter fun m => portOf m = p := if_neg hp
    rw [removeMembers_records, hx, hd]

theorem resetGroup_handedOff (s : State) (p : Port) (g : GroupId) :
    s.HandedOff (State.resetGroup p s g) (s.discardReceipts (s.entriesOf ((s.group g).discardedAt p))) := by
  rcases resetGroup_cases s p g with ⟨-, -, hd, h⟩ | ⟨x, hx, ⟨hp, h⟩ | ⟨hp, -, h⟩⟩ <;> rw [h]
  · rw [hd]
    exact (State.KeepsReceipts.rfl s).handedOff
  · have hd : (Group.active x).discardedAt p = x.members := if_pos hp
    rw [hx, hd]
    exact dissolve_handedOff s g x
  · have hd : (Group.active x).discardedAt p = x.members.filter fun m => portOf m = p := if_neg hp
    rw [hx, hd]
    exact removeMembers_handedOff s g x _

/-- What one group's part tells. -/
theorem resetGroup_told {s : State} {p : Port} {g : GroupId} {x : ActiveGroup} (hx : s.group g = .active x) :
    (portOf x.publisher = p → ∀ m ∈ x.members, s.online (portOf m) = true →
      (State.resetGroup p s g).HasCond (portOf m) (itemOf (localOf m)) .groupGone) ∧
    (portOf x.publisher ≠ p → (∃ m ∈ x.members, portOf m = p) → s.online (portOf x.publisher) = true →
      (State.resetGroup p s g).HasCond (portOf x.publisher) (itemOf (localOf x.publisher)) .members) := by
  refine ⟨fun hp m hm ho => ?_, fun hp hex ho => ?_⟩
  · rw [show State.resetGroup p s g = s.dissolve g x by simp only [State.resetGroup, hx, if_pos hp]]
    exact dissolve_hasCond s g x hm ho
  · obtain ⟨m, hm, hmp⟩ := hex
    have hl : (x.members.filter fun m => portOf m = p) ≠ [] :=
      List.ne_nil_of_mem (List.mem_filter.2 ⟨hm, by simpa using hmp⟩)
    rw [show State.resetGroup p s g = s.removeMembers g x (x.members.filter fun m => portOf m = p) by
      simp only [State.resetGroup, hx, if_neg hp, if_neg hl]]
    exact removeMembers_hasCond s g x _ ho

/-! ## The run over the groups -/

theorem resetGroups_onlyTells (p : Port) (l : List GroupId) (s : State) :
    s.OnlyTells (l.foldl (State.resetGroup p) s) :=
  .fold (fun t g => resetGroup_onlyTells t p g) l s

theorem resetGroups_group (p : Port) (k : GroupId) : ∀ (l : List GroupId) (s : State),
    (l.foldl (State.resetGroup p) s).group k = if k ∈ l then (s.group k).afterReset p else s.group k
  | [], s => by simp
  | g :: l, s => by
    rw [List.foldl_cons, resetGroups_group p k l, resetGroup_group]
    by_cases h : k = g
    · subst h
      rw [if_pos rfl, afterReset_afterReset, ite_self, if_pos List.mem_cons_self]
    · rw [if_neg h]
      by_cases hl : k ∈ l <;> simp [h, hl]

/-- Nobody leaves a group that would not have left it at the start. -/
theorem leaving_resetGroup {s : State} {p : Port} {g k : GroupId} :
    ((State.resetGroup p s g).group k).leaving p = if k = g then [] else (s.group k).leaving p := by
  rw [resetGroup_group]
  split
  · exact leaving_afterReset ..
  · rfl

/-- An endpoint leaves some group of a list. -/
def State.leavesOneOf (s : State) (p : Port) (l : List GroupId) (e : EpId) : Bool :=
  l.any fun g => ((s.group g).leaving p).contains e

theorem leavesOneOf_iff {s : State} {p : Port} {l : List GroupId} {e : EpId} :
    s.leavesOneOf p l e = true ↔ ∃ g ∈ l, e ∈ (s.group g).leaving p := by
  simp [State.leavesOneOf]

theorem resetGroups_endpoint (p : Port) (e : EpId) : ∀ (l : List GroupId) (s : State),
    (l.foldl (State.resetGroup p) s).endpoint e =
      if s.leavesOneOf p l e = true then { s.endpoint e with role := .idle } else s.endpoint e
  | [], s => rfl
  | g :: l, s => by
    rw [List.foldl_cons, resetGroups_endpoint p e l, resetGroup_endpoint]
    by_cases hg : e ∈ (s.group g).leaving p
    · rw [if_pos hg, if_pos (c := s.leavesOneOf p (g :: l) e = true) (leavesOneOf_iff.2 ⟨g, List.mem_cons_self, hg⟩)]
      split <;> rfl
    · have h : (State.resetGroup p s g).leavesOneOf p l e = s.leavesOneOf p (g :: l) e := by
        rw [Bool.eq_iff_iff, leavesOneOf_iff, leavesOneOf_iff]
        constructor
        · rintro ⟨k, hk, he⟩
          rw [leaving_resetGroup] at he
          split at he
          · cases he
          · exact ⟨k, List.mem_cons_of_mem _ hk, he⟩
        · rintro ⟨k, hk, he⟩
          have hne : k ≠ g := fun x => hg (x ▸ he)
          refine ⟨k, (List.mem_cons.1 hk).resolve_left hne, ?_⟩
          rw [leaving_resetGroup, if_neg hne]
          exact he
      rw [if_neg hg, h]

theorem resetGroup_queue (s : State) (p : Port) (g : GroupId) (e : EpId) :
    ((State.resetGroup p s g).role e).queue = if e ∈ (s.group g).leaving p then [] else (s.role e).queue := by
  unfold State.role
  rw [resetGroup_endpoint]
  split <;> rfl

theorem mem_entriesOf {s : State} {l : List EpId} {r : RecId} : r ∈ s.entriesOf l ↔ ∃ e ∈ l, r ∈ (s.role e).queue :=
  List.mem_flatMap

/-- A record with no entry at an endpoint that leaves its group stays. -/
theorem resetGroups_record_notin {p : Port} {r : RecId} : ∀ (l : List GroupId) (s : State),
    (∀ g ∈ l, ∀ e ∈ (s.group g).leaving p, r ∉ (s.role e).queue) →
    (l.foldl (State.resetGroup p) s).record r = s.record r
  | [], _, _ => rfl
  | g :: l, s, h => by
    rw [List.foldl_cons, resetGroups_record_notin l, record_congr (resetGroup_records ..), bulkDiscard_record_notin]
    · intro hx
      obtain ⟨e, he, hr⟩ := mem_entriesOf.1 hx
      exact h g List.mem_cons_self e (mem_leaving_of_discardedAt he) hr
    · intro k hk e he
      rw [leaving_resetGroup] at he
      rw [resetGroup_queue]
      split at he
      · cases he
      · split
        · exact List.not_mem_nil
        · exact h k (List.mem_cons_of_mem _ hk) e he

/-! ## How many holders a record loses -/

/-- A record after n entries of it are discarded. -/
def MsgRecord.afterDiscard (x : MsgRecord) (n : Nat) : MsgRecord :=
  if n = 0 then x
  else
    match x with
    | .free => .free
    | .filling m => .filling m
    | .live m d => m.discardedTimes n d

theorem Tallies.raise_raise (t : Tallies) (k : TallyKind) (a b : Nat) : (t.raise k a).raise k b = t.raise k (a + b) := by
  cases k <;> simp [Tallies.raise, Nat.add_assoc]

theorem Message.ended_ended (m : Message) (k : TallyKind) (a b : Nat) : (m.ended a k).ended b k = m.ended (a + b) k := by
  have hg : (m.ended a k).isGroup = m.isGroup := rfl
  unfold Message.ended
  rw [show ({ m with
      count := m.count - a
      tallies := if m.isGroup then m.tallies.raise k a else m.tallies } : Message).isGroup = m.isGroup from hg]
  cases m.isGroup <;> simp [Tallies.raise_raise, Nat.sub_sub]

theorem MsgRecord.afterDiscard_afterDiscard {x : MsgRecord} (hx : ∀ m, x ≠ .filling m) (a b : Nat) :
    (x.afterDiscard a).afterDiscard b = x.afterDiscard (a + b) := by
  cases x with
  | filling m => exact absurd rfl (hx m)
  | free => by_cases ha : a = 0 <;> by_cases hb : b = 0 <;> simp [MsgRecord.afterDiscard, ha, hb]
  | live m d =>
    by_cases ha : a = 0
    · simp [MsgRecord.afterDiscard, ha]
    · by_cases hb : b = 0
      · simp [MsgRecord.afterDiscard, ha, hb]
      · have hab : a + b ≠ 0 := by omega
        have e1 : (MsgRecord.live m d).afterDiscard a = m.discardedTimes a d := if_neg ha
        have e2 : (MsgRecord.live m d).afterDiscard (a + b) = m.discardedTimes (a + b) d := if_neg hab
        rw [e1, e2, Message.discardedTimes, Message.discardedTimes]
        by_cases hle : m.count ≤ a
        · rw [if_pos hle, if_pos (by omega)]
          exact if_neg hb
        · rw [if_neg hle]
          refine (if_neg hb).trans ?_
          show (if m.count - a ≤ b then MsgRecord.free else .live ((m.ended a .discarded).ended b .discarded) d) = _
          rw [Message.ended_ended]
          by_cases hle' : m.count ≤ a + b
          · rw [if_pos hle', if_pos (by omega)]
          · rw [if_neg hle', if_neg (by omega)]

theorem MsgRecord.afterDiscard_ne_filling {x : MsgRecord} (hx : ∀ m, x ≠ .filling m) (n : Nat) (m : Message) :
    x.afterDiscard n ≠ .filling m := by
  unfold MsgRecord.afterDiscard
  split
  · exact hx m
  · cases x with
    | filling m' => exact absurd rfl (hx m')
    | free => exact fun h => by cases h
    | live m' d =>
      unfold Message.discardedTimes
      dsimp only
      split <;> exact fun h => by cases h

/-- A bulk discard takes a record by the number of its entries. -/
theorem bulkDiscard_record {s : State} {r : RecId} (hr : ∀ m, s.record r ≠ .filling m) (l : List EpId) :
    (s.bulkDiscard l).record r = (s.record r).afterDiscard ((s.entriesOf l).count r) := by
  by_cases h : r ∈ s.entriesOf l
  · have hn : (s.entriesOf l).count r ≠ 0 := (List.count_pos_iff.2 h).ne'
    cases hx : s.record r with
    | filling m => exact absurd hx (hr m)
    | free =>
      rw [bulkDiscard_record_free s l h fun m hm => by rw [hx] at hm; cases hm]
      exact (if_neg hn).symm
    | live m d =>
      rw [bulkDiscard_record_live s l h hx]
      exact (if_neg hn).symm
  · rw [bulkDiscard_record_notin s l h, List.count_eq_zero.2 h]
    rfl

/-- The entries of record r at the endpoints that leave one of these groups. -/
def State.entriesLost (s : State) (p : Port) (l : List GroupId) (r : RecId) : Nat :=
  ∑ e : EpId, if s.leavesOneOf p l e = true then (s.role e).queue.count r else 0

/-- The entries in the queues of distinct endpoints, as a sum. -/
theorem count_entriesOf (s : State) {l : List EpId} (h : l.Nodup) (r : RecId) :
    (s.entriesOf l).count r = ∑ e : EpId, if e ∈ l then (s.role e).queue.count r else 0 := by
  unfold State.entriesOf
  rw [List.count_flatMap, ← Finset.sum_filter, ← List.sum_toFinset _ h]
  refine Finset.sum_congr ?_ fun _ _ => rfl
  ext e
  simp

/-- The members of an ACTIVE group are distinct, and its publisher's queue is empty. -/
def State.GroupsSound (s : State) : Prop :=
  ∀ g x, s.group g = .active x → x.members.Nodup ∧ (s.role x.publisher).queue = []

theorem groupsSound_resetGroup {s : State} (h : s.GroupsSound) (p : Port) (g : GroupId) :
    (State.resetGroup p s g).GroupsSound := by
  have empty {e : EpId} (he : (s.role e).queue = []) : ((State.resetGroup p s g).role e).queue = [] := by
    rw [resetGroup_queue, he, ite_self]
  intro k x hx
  rw [resetGroup_group] at hx
  split at hx
  · next hk =>
    cases hg : s.group g with
    | active y =>
      obtain ⟨hd, hq⟩ := h g y hg
      rw [hg] at hx
      unfold Group.afterReset at hx
      dsimp only at hx
      split at hx
      · split at hx <;> cases hx
      · cases hx
        exact ⟨hd.filter _, empty hq⟩
    | free =>
      rw [hg] at hx
      cases hx
    | dissolving =>
      rw [hg] at hx
      cases hx
  · obtain ⟨hd, hq⟩ := h k x hx
    exact ⟨hd, empty hq⟩

/-- In sound groups the discarded entries are those of all that leave. -/
theorem count_discardedAt {s : State} (h : s.GroupsSound) (p : Port) (g : GroupId) (r : RecId) :
    (s.entriesOf ((s.group g).discardedAt p)).count r =
      ∑ e : EpId, if e ∈ (s.group g).leaving p then (s.role e).queue.count r else 0 := by
  cases hg : s.group g with
  | free => simp [Group.discardedAt, Group.leaving, State.entriesOf]
  | dissolving => simp [Group.discardedAt, Group.leaving, State.entriesOf]
  | active x =>
    obtain ⟨hd, hq⟩ := h g x hg
    by_cases hp : portOf x.publisher = p
    · have h1 : (Group.active x).discardedAt p = x.members := if_pos hp
      have h2 : (Group.active x).leaving p = x.publisher :: x.members := if_pos hp
      rw [h1, h2, count_entriesOf s hd]
      refine Finset.sum_congr rfl fun e _ => ?_
      by_cases he : e = x.publisher
      · subst he
        simp [hq]
      · simp [he]
    · have h1 : (Group.active x).discardedAt p = x.members.filter fun m => portOf m = p := if_neg hp
      have h2 : (Group.active x).leaving p = x.members.filter fun m => portOf m = p := if_neg hp
      rw [h1, h2, count_entriesOf s (hd.filter _)]

/-- One group's part takes its share of the entries lost. -/
theorem entriesLost_cons {s : State} (p : Port) {g : GroupId} {l : List GroupId} (hg : g ∉ l) (r : RecId) :
    s.entriesLost p (g :: l) r =
      (∑ e : EpId, if e ∈ (s.group g).leaving p then (s.role e).queue.count r else 0) +
        (State.resetGroup p s g).entriesLost p l r := by
  unfold State.entriesLost
  rw [← Finset.sum_add_distrib]
  refine Finset.sum_congr rfl fun e _ => ?_
  have hl : (State.resetGroup p s g).leavesOneOf p l e = s.leavesOneOf p l e := by
    rw [Bool.eq_iff_iff, leavesOneOf_iff, leavesOneOf_iff]
    refine exists_congr fun k => and_congr_right fun hk => ?_
    rw [leaving_resetGroup, if_neg (ne_of_mem_of_not_mem hk hg)]
  have hc : s.leavesOneOf p (g :: l) e = (((s.group g).leaving p).contains e || s.leavesOneOf p l e) := rfl
  rw [hl, hc, resetGroup_queue]
  by_cases he : e ∈ (s.group g).leaving p
  · simp [he]
  · simp [he]

/-- The run takes each record by the number of its entries lost. -/
theorem resetGroups_record {p : Port} {r : RecId} : ∀ (l : List GroupId) (s : State), s.GroupsSound → l.Nodup →
    (∀ m, s.record r ≠ .filling m) →
    (l.foldl (State.resetGroup p) s).record r = (s.record r).afterDiscard (s.entriesLost p l r)
  | [], s, _, _, _ => by
    have h : s.entriesLost p [] r = 0 := Finset.sum_eq_zero fun _ _ => rfl
    rw [h]
    rfl
  | g :: l, s, hs, hd, hr => by
    obtain ⟨hg, hl⟩ := List.nodup_cons.1 hd
    have hstep : (State.resetGroup p s g).record r =
        (s.record r).afterDiscard ((s.entriesOf ((s.group g).discardedAt p)).count r) := by
      rw [record_congr (resetGroup_records ..), bulkDiscard_record hr]
    rw [List.foldl_cons, resetGroups_record l _ (groupsSound_resetGroup hs p g) hl, hstep,
      MsgRecord.afterDiscard_afterDiscard hr, count_discardedAt hs, entriesLost_cons p hg]
    intro m
    rw [hstep]
    exact MsgRecord.afterDiscard_ne_filling hr _ m

/-- The entries lost by all groups are those of the endpoints that some group loses. -/
theorem entriesLost_eq (s : State) (p : Port) (r : RecId) :
    s.entriesLost p (List.finRange 8) r =
      ((s.leavingGroups p).flatMap fun e => (s.role e).queue).count r := by
  have hd : (s.leavingGroups p).Nodup := (List.nodup_finRange 32).filter _
  have h := count_entriesOf s hd r
  refine Eq.trans ?_ h.symm
  refine Finset.sum_congr rfl fun e _ => ?_
  have hm : e ∈ s.leavingGroups p ↔ s.leavesOneOf p (List.finRange 8) e = true := by
    unfold State.leavingGroups State.leavesOneOf
    simp
  by_cases he : e ∈ s.leavingGroups p
  · rw [if_pos he, if_pos (hm.1 he)]
  · rw [if_neg he, if_neg fun x => he (hm.2 x)]

/-! ## The receipts of the share in a coherent state -/

/-- No two of these groups share a discarded entry, or a discarded endpoint whose queue is not empty, and a publisher's
queue is empty. -/
def State.LeftApart (s : State) (p : Port) (l : List GroupId) : Prop :=
  l.Nodup ∧
  ∀ g ∈ l, ∀ k ∈ l, g ≠ k →
    (∀ r ∈ s.entriesOf ((s.group g).leaving p), r ∉ s.entriesOf ((s.group k).leaving p)) ∧
    ∀ e, e ∈ (s.group g).leaving p → e ∈ (s.group k).leaving p → (s.role e).queue = []

/-- Left apart, one group's part leaves the entries of the others. -/
theorem entriesOf_resetGroup {s : State} {p : Port} {g : GroupId} {l : List GroupId} (h : s.LeftApart p (g :: l))
    {k : GroupId} (hk : k ∈ l) {eps : List EpId} (heps : ∀ e ∈ eps, e ∈ (s.group k).leaving p) :
    (State.resetGroup p s g).entriesOf eps = s.entriesOf eps := by
  obtain ⟨hd, hapart⟩ := h
  have hne : k ≠ g := ne_of_mem_of_not_mem hk (List.nodup_cons.1 hd).1
  refine List.flatMap_congr fun e he => ?_
  rw [resetGroup_queue]
  split
  · next hg =>
    exact ((hapart g List.mem_cons_self k (List.mem_cons_of_mem _ hk) hne.symm).2 e hg (heps e he)).symm
  · rfl

theorem leftApart_resetGroup {s : State} {p : Port} {g : GroupId} {l : List GroupId} (h : s.LeftApart p (g :: l)) :
    (State.resetGroup p s g).LeftApart p l := by
  have hent {k : GroupId} (hk : k ∈ l) {eps : List EpId} (heps : ∀ e ∈ eps, e ∈ (s.group k).leaving p) :=
    entriesOf_resetGroup h hk heps
  obtain ⟨hd, hapart⟩ := h
  obtain ⟨hg, hl⟩ := List.nodup_cons.1 hd
  have hleave {k : GroupId} (hk : k ∈ l) : ((State.resetGroup p s g).group k).leaving p = (s.group k).leaving p := by
    rw [leaving_resetGroup, if_neg (ne_of_mem_of_not_mem hk hg)]
  refine ⟨hl, fun i hi k hk hne => ⟨?_, fun e he he' => ?_⟩⟩
  · rw [hleave hi, hleave hk, hent hi fun _ h => h, hent hk fun _ h => h]
    exact (hapart i (List.mem_cons_of_mem _ hi) k (List.mem_cons_of_mem _ hk) hne).1
  · rw [hleave hi] at he
    rw [hleave hk] at he'
    rw [resetGroup_queue, (hapart i (List.mem_cons_of_mem _ hi) k (List.mem_cons_of_mem _ hk) hne).2 e he he', ite_self]

theorem mem_entriesOf_discardedAt {s : State} {p : Port} {g : GroupId} {r : RecId}
    (h : r ∈ s.entriesOf ((s.group g).discardedAt p)) : r ∈ s.entriesOf ((s.group g).leaving p) := by
  obtain ⟨e, he, hr⟩ := mem_entriesOf.1 h
  exact mem_entriesOf.2 ⟨e, mem_leaving_of_discardedAt he, hr⟩

theorem discardedAt_resetGroup {s : State} {p : Port} {g k : GroupId} (h : k ≠ g) :
    ((State.resetGroup p s g).group k).discardedAt p = (s.group k).discardedAt p := by
  rw [resetGroup_group, if_neg h]

/-- Left apart, the run hands off the receipts of all the discarded entries. -/
theorem resetGroups_handedOff {s : State} {p : Port} {l : List GroupId} (h : s.LeftApart p l) :
    s.HandedOff (l.foldl (State.resetGroup p) s)
      (s.discardReceipts (l.flatMap fun g => s.entriesOf ((s.group g).discardedAt p))) := by
  refine (foldl_handedOff (L := fun t k => t.entriesOf ((t.group k).discardedAt p)) (I := fun t l => t.LeftApart p l)
    (fun t g l hl => ?_) l s h).2.congr fun q => ?_
  · refine ⟨resetGroup_handedOff t p g, resetGroup_onlyTells t p g, leftApart_resetGroup hl, fun k hk => ⟨?_, fun r hr => ?_⟩⟩
    · have hne := ne_of_mem_of_not_mem hk (List.nodup_cons.1 hl.1).1
      rw [discardedAt_resetGroup hne]
      exact entriesOf_resetGroup hl hk fun e he => mem_leaving_of_discardedAt he
    · obtain ⟨hd, hapart⟩ := hl
      have hne := ne_of_mem_of_not_mem hk (List.nodup_cons.1 hd).1
      rw [record_congr (resetGroup_records ..), bulkDiscard_record_notin]
      exact fun hx => (hapart g List.mem_cons_self k (List.mem_cons_of_mem _ hk) hne.symm).1 r
        (mem_entriesOf_discardedAt hx) (mem_entriesOf_discardedAt hr)
  · refine (discardReceipts_flatMap s _ q l h.1 fun i hi k hk hne r hr hr' => ?_).symm
    exact (h.2 i hi k hk hne).1 r (mem_entriesOf_discardedAt hr) (mem_entriesOf_discardedAt hr')

/-- An endpoint of a group with entries in its queue is a member of that group, by its role (R119). -/
theorem role_of_groupEnd {s : State} (h : s.NamesLaw) {p : Port} {g : GroupId} {e : EpId} (he : e ∈ (s.group g).leaving p)
    (hq : (s.role e).queue ≠ []) : ∃ q n, s.role e = .member g q n := by
  obtain ⟨-, -, hg⟩ := h
  have not_left : ¬s.LeftBehind e := fun hl => hq (by rw [hl.1]; rfl)
  cases hx : s.group g with
  | free =>
    rw [hx] at he
    cases he
  | dissolving =>
    rw [hx] at he
    cases he
  | active x =>
    obtain ⟨-, -, -, -, hpub, hmem⟩ := hg g x hx
    have hcase : e = x.publisher ∨ e ∈ x.members := by
      rw [hx] at he
      rw [leaving_active] at he
      by_cases hp : portOf x.publisher = p
      · rw [if_pos hp] at he
        exact List.mem_cons.1 he
      · rw [if_neg hp] at he
        exact .inr (List.mem_filter.1 he).1
    rcases hcase with rfl | hm
    · exact absurd (by rw [hpub.resolve_left not_left]; rfl) hq
    · exact (hmem e hm).resolve_left not_left

theorem link_of_groupEnd {s : State} (hn : s.NamesLaw) (hq : s.QueueLaw) {p : Port} {g : GroupId} {e : EpId} {r : RecId}
    (he : e ∈ (s.group g).leaving p) (hr : r ∈ (s.role e).queue) : ∃ m dl, s.record r = .live m dl ∧ m.link = .group g := by
  obtain ⟨-, -, -, hfit⟩ := hq e
  obtain ⟨m, dl, hrec, hf, -⟩ := hfit r hr
  obtain ⟨q, n, h⟩ := role_of_groupEnd hn he (List.ne_nil_of_mem hr)
  unfold State.EntryFits at hf
  rw [h] at hf
  obtain ⟨x, -, hl, -⟩ := hf
  exact ⟨m, dl, hrec, hl⟩

theorem leftApart_of_coherent {s : State} (h : s.Coherent) (p : Port) : s.LeftApart p (List.finRange 8) := by
  obtain ⟨-, hq, hn, -⟩ := h
  refine ⟨List.nodup_finRange 8, fun g _ k _ hne => ⟨fun r hr hr' => ?_, fun e he he' => ?_⟩⟩
  · obtain ⟨e, he, hre⟩ := mem_entriesOf.1 hr
    obtain ⟨e', he', hre'⟩ := mem_entriesOf.1 hr'
    obtain ⟨m, dl, hm, hlink⟩ := link_of_groupEnd hn hq he hre
    obtain ⟨m', dl', hm', hlink'⟩ := link_of_groupEnd hn hq he' hre'
    cases hm.symm.trans hm'
    cases hlink.symm.trans hlink'
    exact hne rfl
  · by_contra hx
    obtain ⟨q, n, h⟩ := role_of_groupEnd hn he hx
    obtain ⟨q', n', h'⟩ := role_of_groupEnd hn he' hx
    cases h.symm.trans h'
    exact hne rfl

/-- A publisher's queue is empty, so that the entries of all that leave are the discarded ones. -/
theorem leftEntries_of_coherent {s : State} (h : s.Coherent) (p : Port) :
    s.leftEntries p = (List.finRange 8).flatMap fun g => s.entriesOf ((s.group g).discardedAt p) := by
  obtain ⟨-, -, hn, -⟩ := h
  refine List.flatMap_congr fun g _ => ?_
  cases hx : s.group g with
  | free => rfl
  | dissolving => rfl
  | active x =>
    obtain ⟨-, -, -, -, hpub, -⟩ := hn.2.2 g x hx
    have hq : (s.role x.publisher).queue = [] := by
      rcases hpub with hl | hl
      · rw [hl.1]
        rfl
      · rw [hl]
        rfl
    by_cases hp : portOf x.publisher = p
    · have h1 : (Group.active x).leaving p = x.publisher :: x.members := if_pos hp
      have h2 : (Group.active x).discardedAt p = x.members := if_pos hp
      rw [h1, h2, List.flatMap_cons, hq]
      rfl
    · have h1 : (Group.active x).leaving p = x.members.filter fun m => portOf m = p := if_neg hp
      have h2 : (Group.active x).discardedAt p = x.members.filter fun m => portOf m = p := if_neg hp
      rw [h1, h2]
      rfl

/-- What one group's part of the run tells stands after the run. -/
theorem groupShare_told {s : State} {p : Port} {g : GroupId} {x : ActiveGroup} (hx : s.group g = .active x) :
    (portOf x.publisher = p → ∀ m ∈ x.members, s.online (portOf m) = true →
      (s.groupControllerShare p).HasCond (portOf m) (itemOf (localOf m)) .groupGone) ∧
    (portOf x.publisher ≠ p → (∃ m ∈ x.members, portOf m = p) → s.online (portOf x.publisher) = true →
      (s.groupControllerShare p).HasCond (portOf x.publisher) (itemOf (localOf x.publisher)) .members) := by
  obtain ⟨l, l', hl, hg, -⟩ := finRange_split g
  have hshare : s.groupControllerShare p =
      l'.foldl (State.resetGroup p) (State.resetGroup p (l.foldl (State.resetGroup p) s) g) := by
    unfold State.groupControllerShare
    rw [hl, List.foldl_append, List.foldl_cons]
  have hu : (l.foldl (State.resetGroup p) s).group g = .active x := by rw [resetGroups_group, if_neg hg, hx]
  have hon (q : Port) := (resetGroups_onlyTells p l s).online q
  obtain ⟨h1, h2⟩ := resetGroup_told (p := p) hu
  rw [hshare]
  refine ⟨fun hp m hm ho => ?_, fun hp hex ho => ?_⟩
  · exact (resetGroups_onlyTells p l' _).kept _ _ _ (by decide) (h1 hp m hm ((hon _).trans ho))
  · exact (resetGroups_onlyTells p l' _).kept _ _ _ (by decide) (h2 hp hex ((hon _).trans ho))

/-! ## The statement -/

theorem report_transfers {s u : State} (p : Port) (r : Report) (h : s.SameTransfers u) : s.SameTransfers (u.report p r) := by
  intro q
  obtain ⟨h1, h2, h3, h4, h5, h6⟩ := h q
  exact ⟨(report_part PortRec.staging (fun _ _ => rfl) u p r q).trans h1,
    (report_part PortRec.readBuffer (fun _ _ => rfl) u p r q).trans h2,
    (report_part PortRec.sendUnit (fun _ _ => rfl) u p r q).trans h3,
    (report_part PortRec.fetchUnit (fun _ _ => rfl) u p r q).trans h4,
    (report_part PortRec.sendOutcome (fun _ _ => rfl) u p r q).trans h5,
    (report_part PortRec.fetchOutcome (fun _ _ => rfl) u p r q).trans h6⟩

theorem transfers_of_cores {s t u : State} (h : u.cores = t.cores) (ht : s.SameTransfers t) : s.SameTransfers u := by
  intro q
  obtain ⟨h1, h2, h3, h4, h5, h6⟩ := sameTransfers_of_cores h q
  obtain ⟨g1, g2, g3, g4, g5, g6⟩ := ht q
  exact ⟨h1.trans g1, h2.trans g2, h3.trans g3, h4.trans g4, h5.trans g5, h6.trans g6⟩

/-- A port that still owes a report is not in service. -/
theorem offline_of_awaits {s : State} {p : Port} {r : Report} (h : s.awaits p r = true) : s.online p = false := by
  by_contra ho
  rw [awaits_of_online (by simpa using ho)] at h
  cases h

/-- The Channel Controller's share with its report and the re-evaluation that ends the event. -/
def State.afterChannelShare (s : State) (p : Port) : State :=
  ((s.channelControllerShare p).report p (.share .channelController)).reevaluateAll

theorem afterChannelShare_onlyTells (s : State) (p : Port) :
    (s.channelControllerShare p).OnlyTells (s.afterChannelShare p) :=
  (reevaluateAll_onlyTells _).after (report_onlyTells ..)

theorem afterChannelShare_channel {s : State} {p : Port} (hp : s.online p = false) (c : ChanId) :
    (s.afterChannelShare p).channel c = (s.channel c).afterReset p := by
  rw [State.afterChannelShare, channel_congr (reevaluateAll_channels _), channel_congr (report_channels ..)]
  exact (resetChannels_channel c _ hp).trans (if_pos (List.mem_finRange c))

theorem afterChannelShare_endpoint (s : State) (p : Port) (e : EpId) :
    (s.afterChannelShare p).endpoint e = (s.channelControllerShare p).endpoint e := by
  rw [State.afterChannelShare, endpoint_congr (reevaluateAll_endpoints _), endpoint_congr (report_endpoints ..)]

theorem afterChannelShare_record (s : State) (p : Port) (r : RecId) :
    (s.afterChannelShare p).record r = (s.channelControllerShare p).record r := by
  rw [State.afterChannelShare, record_congr (reevaluateAll_records _), record_congr (report_records ..)]

theorem exec_channelShare_due {s : State} {p : Port} (hrun : s.chipReset = false)
    (h : s.awaits p (.share .channelController) = true) :
    exec (.channelControllerResetShare p) s = .next (s.afterChannelShare p) := by
  show taken s (if _ then _ else _) = _
  rw [taken_running hrun, if_pos h, takeShare_due h]
  rfl

theorem exec_channelShare_not_due {s : State} {p : Port} (hrun : s.chipReset = false)
    (h : s.awaits p (.share .channelController) = false) : exec (.channelControllerResetShare p) s = .next s := by
  show taken s (if _ then _ else _) = _
  rw [taken_running hrun, h]
  rfl

/-- The Group Controller's share with its report. -/
def State.afterGroupShare (s : State) (p : Port) : State :=
  (s.groupControllerShare p).report p (.share .groupController)

theorem exec_groupShare_due {s : State} {p : Port} (hrun : s.chipReset = false)
    (h : s.awaits p (.share .groupController) = true) :
    exec (.groupControllerResetShare p) s = .next (s.afterGroupShare p) :=
  (taken_running hrun).trans (congrArg _ (takeShare_due h))

theorem afterGroupShare_onlyTells (s : State) (p : Port) : (s.groupControllerShare p).OnlyTells (s.afterGroupShare p) :=
  report_onlyTells ..

theorem afterGroupShare_group (s : State) (p : Port) (g : GroupId) :
    (s.afterGroupShare p).group g = (s.group g).afterReset p := by
  rw [State.afterGroupShare, group_congr (report_groups ..)]
  exact (resetGroups_group p g _ s).trans (if_pos (List.mem_finRange g))

theorem mem_leavingGroups {s : State} {p : Port} {e : EpId} :
    e ∈ s.leavingGroups p ↔ s.leavesOneOf p (List.finRange 8) e = true := by
  unfold State.leavingGroups State.leavesOneOf
  simp

theorem afterGroupShare_endpoint (s : State) (p : Port) (e : EpId) :
    (s.afterGroupShare p).endpoint e =
      if e ∈ s.leavingGroups p then { s.endpoint e with role := .idle } else s.endpoint e := by
  rw [State.afterGroupShare, endpoint_congr (report_endpoints ..)]
  simp only [mem_leavingGroups]
  exact resetGroups_endpoint p e _ s

theorem afterGroupShare_record (s : State) (p : Port) (r : RecId) :
    (s.afterGroupShare p).record r = (s.groupControllerShare p).record r := by
  rw [State.afterGroupShare, record_congr (report_records ..)]

/-- Settles O60: each share is a run over the channels or the groups, taken one by one. -/
theorem linkResetShares : Obligations.LinkResetShares := by
  intro s p hrun
  refine ⟨exec_channelShare_not_due hrun, fun h => ?_, fun h => ?_, fun h => ?_⟩
  · have hp := offline_of_awaits h
    have htell := afterChannelShare_onlyTells s p
    refine ⟨_, exec_channelShare_due hrun h, ?_, fun c => ?_, fun c hc => ?_, ?_, ?_, sameMemory_of_store ?_,
      sameClock_of_fixed ?_, ?_, fun c hc => ⟨fun a b o dl hx => ?_, fun l hx => ?_, fun l cl dl hx => ?_⟩,
      fun e he => ?_, fun e c he ho => ?_, fun a c b o dl he ho hx => ⟨?_, ?_⟩,
      fun b c a o dl k x f y he ho hx hrole => ⟨?_, ?_, ?_⟩, fun e c l he ho hl => ⟨?_, ?_⟩, fun r hr => ?_,
      fun r m c l e he hl hr hm h1 => ?_, fun hco => ?_⟩
    · rw [State.afterChannelShare, awaits_congr (state_of_cores (reevaluateAll_cores _) p)]
      exact report_awaits ..
    · rw [afterChannelShare_channel hp]
      exact Channel.afterReset_not_endsAt p _
    · rw [afterChannelShare_channel hp, Channel.afterReset_of_not_endsAt hc]
    · simp [State.afterChannelShare]
    · simp [State.afterChannelShare]
    · simp [State.afterChannelShare]
    · simp [State.afterChannelShare]
    · exact transfers_of_cores (reevaluateAll_cores _)
        (report_transfers p _ (sameTransfers_of_cores (channelControllerShare_cores s p)))
    · rw [afterChannelShare_channel hp, hx]
      rw [hx] at hc
      exact if_pos hc
    · rw [afterChannelShare_channel hp, hx]
      rw [hx] at hc
      exact if_pos hc
    · rw [afterChannelShare_channel hp, hx]
      rw [hx] at hc
      exact if_pos hc
    · rw [afterChannelShare_endpoint]
      exact resetChannels_endpoint_of_not _ hp fun c _ => he c
    · rw [afterChannelShare_endpoint, channelShare_endpoint_offline hp he ho]
    · rw [afterChannelShare_endpoint, channelShare_endpoint hp he, ho, hx]
      simp only [Channel.endAfterReset, if_true]
    · exact htell.kept _ _ _ (by decide) ((channelShare_told hp he ho).1 a b o dl hx rfl)
    · have hab : portOf a = p ∨ portOf b = p := by
        have := he.1.1
        rwa [hx] at this
      have hne : b ≠ a := (ends_ne hp hab (.inr rfl) ho).symm
      have hback : (s.role b).backToListening = .listening f := by rw [hrole]; rfl
      rw [afterChannelShare_endpoint, channelShare_endpoint hp he, ho, hx, ← hback]
      exact if_neg hne
    · exact htell.kept _ _ _ (by decide) ((channelShare_told hp he ho).2.1 a b o dl hx rfl).1
    · exact fun hr => ((channelShare_told hp he ho).2.1 a b o dl hx rfl).2 (htell.fewer _ _ hr)
    · rw [afterChannelShare_endpoint, channelShare_endpoint hp he, ho]
      cases hx : s.channel c <;> rw [hx] at hl <;> cases hl <;> rfl
    · exact htell.kept _ _ _ (by decide) ((channelShare_told hp he ho).2.2 l hl)
    · rw [afterChannelShare_record]
      refine resetChannels_record_notin _ hp fun c _ hx => ?_
      obtain ⟨l, e, hl, he, hre⟩ := mem_tornAt.1 hx
      exact hr c l e he hl hre
    · rw [afterChannelShare_record]
      refine channelShare_record_free hp he hl hr fun m' hm' => ?_
      obtain rfl : m = m' := Option.some.inj (hm.symm.trans hm')
      exact h1
    · exact (resetChannels_handedOff (tornApart_of_coherent hco hp)).andThen
        ((reevaluateAll_keepsReceipts _).after (report_keepsReceipts ..))
  · exact (taken_running hrun).trans (congrArg _ (takeShare_not_due h))
  · intro entries
    have htell := afterGroupShare_onlyTells s p
    refine ⟨_, exec_groupShare_due hrun h, report_awaits .., fun g x hx => ?_,
      fun g x hx h1 h2 => ?_, fun g x hx hpub => ?_, fun g hx => ?_, ?_, ?_, sameMemory_of_store ?_, sameClock_of_fixed ?_,
      report_transfers p _ (sameTransfers_of_cores (groupControllerShare_cores s p)),
      fun g x hx hpub => ⟨?_, fun hex ho => ?_⟩, fun e he => ?_, fun e he => ?_, fun g x hx hpub m hm ho => ?_,
      fun r hr => ?_, fun hco => ?_, fun hs r m dl hr hl => ?_⟩
    · rw [afterGroupShare_group] at hx
      cases hg : s.group g with
      | active y =>
        rw [hg] at hx
        rw [afterReset_active] at hx
        by_cases hne : portOf y.publisher = p
        · rw [if_pos hne] at hx
          split at hx <;> cases hx
        · rw [if_neg hne] at hx
          cases hx
          refine ⟨hne, fun m hm => ?_⟩
          simpa using (List.mem_filter.1 hm).2
      | free =>
        rw [hg] at hx
        cases hx
      | dissolving =>
        rw [hg] at hx
        cases hx
    · have hall : (x.members.filter fun m => portOf m ≠ p) = x.members := by
        rw [List.filter_eq_self]
        simpa using h2
      rw [afterGroupShare_group, hx]
      refine (if_neg h1).trans ?_
      rw [hall]
    · rw [afterGroupShare_group, hx]
      exact if_pos hpub
    · rw [afterGroupShare_group, hx]
      rfl
    · exact (report_channels ..).trans (groupControllerShare_channels s p)
    · exact (report_arbiter ..).trans (groupControllerShare_arbiter s p)
    · exact (report_store ..).trans (groupControllerShare_store s p)
    · exact (report_fixed ..).trans (groupControllerShare_fixed s p)
    · rw [afterGroupShare_group, hx]
      exact if_neg hpub
    · exact htell.kept _ _ _ (by decide) ((groupShare_told hx).2 hpub hex ho)
    · rw [afterGroupShare_endpoint, if_pos he]
    · rw [afterGroupShare_endpoint, if_neg he]
    · exact htell.kept _ _ _ (by decide) ((groupShare_told hx).1 hpub m hm ho)
    · rw [afterGroupShare_record]
      refine resetGroups_record_notin _ s fun g hg e he hre => hr (List.mem_flatMap.2 ⟨e, ?_, hre⟩)
      exact mem_leavingGroups.2 (leavesOneOf_iff.2 ⟨g, hg, he⟩)
    · rw [leftEntries_of_coherent hco]
      exact (resetGroups_handedOff (leftApart_of_coherent hco p)).andThen (report_keepsReceipts ..)
    · have hn : (entries.count r) ≠ 0 := (List.count_pos_iff.2 hr).ne'
      have hrec := resetGroups_record (p := p) (r := r) (List.finRange 8) s hs (List.nodup_finRange 8) fun m' hm' => by
        rw [hl] at hm'
        cases hm'
      rw [entriesLost_eq, hl] at hrec
      rw [afterGroupShare_record]
      exact hrec.trans (if_neg hn)

end Sys2Proof.Machine
end

section
/-! What reads of the window registers return, and the statement about the register accesses. -/

namespace Sys2Proof.Machine

/-! ## The encodings -/

theorem options_word (o : Options) : o.toWord = o.shown := by
  obtain ⟨r, x⟩ := o
  cases r <;> cases x <;> rfl

theorem num_or {i a : Nat} (h : a < 2 ^ i) (k : Nat) : num a ||| num (2 ^ i * k) = num (a + 2 ^ i * k) := by
  unfold num
  rw [← BitVec.ofNat_or, Nat.or_comm, ← Nat.two_pow_add_eq_or_of_lt h, Nat.add_comm]

/-- A code below bit k with a flag at bit k. -/
theorem num_or_flag {n k : Nat} (h : n < 2 ^ k) (b : Bool) :
    num n ||| flagAt b k = num (n + if b then 2 ^ k else 0) := by
  cases b with
  | true =>
    have := num_or h 1
    rw [Nat.mul_one] at this
    rw [if_pos rfl, ← this]
    unfold flagAt num
    rw [if_pos rfl]
    refine congrArg _ (BitVec.eq_of_toNat_eq ?_)
    simp [Nat.shiftLeft_eq]
  | false => exact BitVec.or_zero

theorem link_word (l : LinkId) : l.toWord = l.shown := by
  cases l with
  | channel c => rfl
  | group g =>
    have h := num_or (i := 15) (a := g.val) (by omega) 1
    rw [BitVec.or_comm] at h
    exact h.trans (congrArg num (Nat.add_comm ..))

theorem portState_code (x : PortState) : x.code = x.shown := by
  cases x <;> rfl

theorem result_word (r : ResultCode) : r.toWord = r.shown := by
  cases r <;> rfl

theorem filter_word (f : Filter) : f.word = f.shown := by
  cases f <;> rfl

theorem sendEnd_word (x : SendEnd) : wordOf x.code = x.shown := by
  cases x <;> rfl

theorem fetchEnd_word (x : FetchEnd) : wordOf x.code = x.shown := by
  cases x <;> rfl

theorem openOutcome_word (x : OpenOutcome) : wordOf x.code = x.shown := by
  cases x <;> rfl

theorem withdrawOutcome_word (x : WithdrawOutcome) : wordOf x.code = x.shown := by
  cases x <;> rfl

theorem closeOutcome_word (x : CloseOutcome) : wordOf x.code = x.shown := by
  cases x <;> rfl

theorem policy_code (x : GroupPolicy) : wordOf x.code = if x = .opened then 0 else 1 := by
  cases x <;> rfl

theorem getLsbD_flagAt (b : Bool) {k : Nat} (hk : k < 16) (j : Nat) : (flagAt b k).getLsbD j = (b && decide (j = k)) := by
  cases b with
  | true =>
    unfold flagAt
    rw [if_pos rfl, ← BitVec.twoPow_eq, BitVec.getLsbD_twoPow]
    simp [hk, eq_comm]
  | false => simp [flagAt]

theorem portState_word (x : PortRec) : portStateWord x = num (x.state.shown + if x.resetInput then 16 else 0) := by
  unfold portStateWord
  rw [portState_code]
  exact num_or_flag (k := 4) (by cases x.state <;> simp [PortState.shown]) _

theorem notify_word (s : State) (p : Port) :
    notifyStatus s p =
      num ((s.port p).notification.state.shown + (if (s.port p).notification.masked then 16 else 0) +
        (if s.lineActive p then 32 else 0) + 256 * (s.port p).notification.bulkCount) := by
  unfold notifyStatus
  dsimp only
  have hc : wordOf (s.port p).notification.state.code = num (s.port p).notification.state.shown := by
    cases (s.port p).notification.state <;> rfl
  have h2 : (s.port p).notification.state.shown < 4 := by cases (s.port p).notification.state <;> decide
  have h5 : (s.port p).notification.state.shown + (if (s.port p).notification.masked then 2 ^ 4 else 0) < 2 ^ 5 := by
    split <;> omega
  have h8 : (s.port p).notification.state.shown + (if (s.port p).notification.masked then 2 ^ 4 else 0) +
      (if s.lineActive p then 2 ^ 5 else 0) < 2 ^ 8 := by
    have hl : (if s.lineActive p then 2 ^ 5 else 0) ≤ 2 ^ 5 := by split <;> decide
    omega
  rw [hc, num_or_flag (k := 4) (by omega), num_or_flag h5, Nat.mul_comm]
  exact num_or h8 _

theorem readBuffer_word (b : ReadBuffer) :
    wordOf b.state.code ||| flagAt b.damaged 15 = num (b.state.shown + if b.damaged then 0x8000 else 0) := by
  have hc : wordOf b.state.code = num b.state.shown := by cases b.state <;> rfl
  rw [hc]
  exact num_or_flag (k := 15) (by cases b.state <;> decide) _

/-! ## The three parts of the map -/

theorem windowRead_low {s : State} (h : s.chipReset = false) (p : Port) {a : BitVec 7} (ha : a.toNat < 0x20) :
    windowRead s p a = lowWindowRead s p a.toNat := by
  rw [windowRead, h, if_neg (by decide), if_pos ha]

theorem windowRead_mid {s : State} (h : s.chipReset = false) (p : Port) {a : BitVec 7} (hl : 0x20 ≤ a.toNat)
    (ha : a.toNat < 0x3A) : windowRead s p a = midWindowRead (s.port p) a.toNat := by
  rw [windowRead, h, if_neg (by decide), if_neg (by omega), if_pos ha]

theorem windowRead_high {s : State} (h : s.chipReset = false) (p : Port) {a : BitVec 7} (ha : 0x3A ≤ a.toNat) :
    windowRead s p a = highWindowRead s p a.toNat := by
  rw [windowRead, h, if_neg (by decide), if_neg (by omega), if_neg (by omega)]

/-- Reads of n registers within a range of addresses on which `f` gives the words. -/
theorem reads_eq {s : State} {p : Port} {lo hi : Nat} {f : Nat → Word}
    (h : ∀ a : BitVec 7, lo ≤ a.toNat → a.toNat < hi → windowRead s p a = f a.toNat) {a n : Nat} (hlo : lo ≤ a)
    (hhi : a + n ≤ hi) (hmap : hi ≤ 128) : s.reads p a n = (List.range n).map fun k => f (a + k) := by
  refine List.map_congr_left fun k hk => ?_
  have hk' := List.mem_range.1 hk
  have hval : (BitVec.ofNat 7 (a + k)).toNat = a + k := by
    rw [BitVec.toNat_ofNat]
    exact Nat.mod_eq_of_lt (by omega)
  rw [h _ (by omega) (by omega), hval]

theorem reads_low {s : State} (h : s.chipReset = false) (p : Port) {a n : Nat} (ha : a + n ≤ 0x20) :
    s.reads p a n = (List.range n).map fun k => lowWindowRead s p (a + k) :=
  reads_eq (lo := 0) (fun _ _ hx => windowRead_low h p hx) (by omega) ha (by decide)

theorem reads_mid {s : State} (h : s.chipReset = false) (p : Port) {a n : Nat} (hlo : 0x20 ≤ a) (ha : a + n ≤ 0x3A) :
    s.reads p a n = (List.range n).map fun k => midWindowRead (s.port p) (a + k) :=
  reads_eq (fun _ hl hx => windowRead_mid h p hl hx) hlo ha (by decide)

theorem reads_high {s : State} (h : s.chipReset = false) (p : Port) {a n : Nat} (hlo : 0x3A ≤ a) (ha : a + n ≤ 0x80) :
    s.reads p a n = (List.range n).map fun k => highWindowRead s p (a + k) :=
  reads_eq (fun _ hl _ => windowRead_high h p hl) hlo ha (by decide)

/-! ## The status registers -/

section
variable {s : State} (h : s.chipReset = false) (p : Port)
include h

theorem reads_portState :
    s.reads p 0x02 2 =
      [num ((s.port p).state.shown + if (s.port p).resetInput then 16 else 0),
        num ((s.port 0).state.shown + 4 * (s.port 1).state.shown + 16 * (s.port 2).state.shown +
          64 * (s.port 3).state.shown)] := by
  rw [reads_low h p (by decide), ← portState_word]
  simp only [← portState_code]
  rfl

theorem reads_config :
    s.reads p 0x05 5 =
      [num s.config.divider, num s.config.openTimeout, num s.config.drainLimit, num s.config.maxLifetime,
        s.now.extractLsb' 0 16] := by
  rw [reads_low h p (by decide)]
  rfl

theorem reads_account :
    s.reads p 0x0B 4 =
      [num (s.port p).account.blockQuota, num (s.port p).account.recordQuota, num (s.port p).account.chargedBlocks,
        num (s.port p).account.chargedRecords] := by
  rw [reads_low h p (by decide)]
  rfl

theorem reads_notification :
    s.reads p 0x1A 6 =
      [num ((s.port p).notification.state.shown + (if (s.port p).notification.masked then 16 else 0) +
          (if s.lineActive p then 32 else 0) + 256 * (s.port p).notification.bulkCount),
        (s.port p).notification.enables, num (s.port p).notification.holdoff, num (s.port p).notification.threshold,
        0, 0] := by
  rw [reads_low h p (by decide), ← notify_word]
  rfl

theorem reads_result : s.reads p 0x20 2 = [(s.port p).host.result.shown, (s.port p).host.resultValue] := by
  rw [reads_mid h p (by decide) (by decide), ← result_word]
  rfl

theorem reads_send :
    s.reads p 0x24 6 =
      [sendStatus (s.port p), (s.port p).sendOutcome.outcome.shown, num (s.port p).sendOutcome.endpoint.val,
        (s.port p).sendOutcome.link.shown, (s.port p).sendOutcome.sequence, num (s.port p).sendOutcome.count] := by
  rw [reads_mid h p (by decide) (by decide), ← sendEnd_word, ← link_word]
  rfl

theorem reads_fetch :
    s.reads p 0x34 5 =
      [fetchStatus (s.port p), (s.port p).fetchOutcome.outcome.shown, num (s.port p).fetchOutcome.endpoint.val,
        (s.port p).fetchOutcome.link.shown, (s.port p).fetchOutcome.sequence] := by
  rw [reads_mid h p (by decide) (by decide), ← fetchEnd_word, ← link_word]
  rfl

theorem reads_readBuffer :
    s.reads p 0x2C 8 =
      [num ((s.port p).readBuffer.state.shown + if (s.port p).readBuffer.damaged then 0x8000 else 0),
        num (s.port p).readBuffer.header.endpoint.val, (s.port p).readBuffer.header.link.shown,
        (s.port p).readBuffer.header.sequence, (s.port p).readBuffer.header.tag.extractLsb' 0 16,
        (s.port p).readBuffer.header.tag.extractLsb' 16 16, num (s.port p).readBuffer.header.length,
        num (s.port p).readBuffer.header.origin.val] := by
  rw [reads_mid h p (by decide) (by decide), ← readBuffer_word, ← link_word]
  rfl

end

/-! ## PIN_STATUS and the pools -/

theorem windowRead_pins {s : State} (h : s.chipReset = false) :
    windowRead s 0 0x04#7 =
      flagAt (s.port 0).resetInput 0 ||| flagAt (s.port 0).state.disablePending 4 ||| flagAt (s.port 1).resetInput 1 |||
      flagAt (s.port 1).state.disablePending 5 ||| flagAt (s.port 2).resetInput 2 |||
      flagAt (s.port 2).state.disablePending 6 ||| flagAt (s.port 3).resetInput 3 |||
      flagAt (s.port 3).state.disablePending 7 := by
  rw [windowRead_low h 0 (by decide)]
  have hp : pinStatusWord s = (0#16 ||| flagAt (s.port 0).resetInput 0) ||| flagAt (s.port 0).state.disablePending 4 |||
      flagAt (s.port 1).resetInput 1 ||| flagAt (s.port 1).state.disablePending 5 ||| flagAt (s.port 2).resetInput 2 |||
      flagAt (s.port 2).state.disablePending 6 ||| flagAt (s.port 3).resetInput 3 |||
      flagAt (s.port 3).state.disablePending 7 := rfl
  rw [BitVec.zero_or] at hp
  exact hp

theorem disablePending_iff (x : PortState) : x.disablePending = true ↔ x.pendsDisable := by
  cases x <;> simp [PortState.disablePending, PortState.pendsDisable]

theorem pins_getLsbD {s : State} (h : s.chipReset = false) (j : Nat) :
    (windowRead s 0 0x04#7).getLsbD j =
      ((s.port 0).resetInput && decide (j = 0) || (s.port 0).state.disablePending && decide (j = 4) ||
        (s.port 1).resetInput && decide (j = 1) || (s.port 1).state.disablePending && decide (j = 5) ||
        (s.port 2).resetInput && decide (j = 2) || (s.port 2).state.disablePending && decide (j = 6) ||
        (s.port 3).resetInput && decide (j = 3) || (s.port 3).state.disablePending && decide (j = 7)) := by
  rw [windowRead_pins h]
  simp only [BitVec.getLsbD_or, getLsbD_flagAt, Nat.reduceLT]

theorem pins_resetInput {s : State} (h : s.chipReset = false) (q : Port) :
    (windowRead s 0 0x04#7).getLsbD q.val = (s.port q).resetInput := by
  rw [pins_getLsbD h]
  fin_cases q <;> simp

theorem pins_disablePending {s : State} (h : s.chipReset = false) (q : Port) :
    (windowRead s 0 0x04#7).getLsbD (4 + q.val) = true ↔ (s.port q).state.pendsDisable := by
  rw [pins_getLsbD h, ← disablePending_iff]
  fin_cases q <;> simp

theorem pins_upper {s : State} (h : s.chipReset = false) : (windowRead s 0 0x04#7).extractLsb' 8 8 = 0#8 := by
  refine BitVec.eq_of_getLsbD_eq fun i hi => ?_
  have hne (k : Nat) (hk : k < 8) : (8 + i = k) = False := eq_false (by omega)
  rw [BitVec.getLsbD_extractLsb', pins_getLsbD h]
  simp [hne]

/-- A count over a vector is a count over its indices. -/
theorem countP_vector {α : Type} {n : Nat} (v : Vector α n) (P : α → Bool) :
    v.toList.countP P = ((List.finRange n).filter fun i => P v[i]).length := by
  conv_lhs => rw [← Vector.ofFn_getElem (xs := v), Vector.toList_ofFn, List.ofFn_eq_map]
  rw [List.countP_map, List.countP_eq_length_filter]
  rfl

theorem reads_pools {s : State} (h : s.chipReset = false) :
    s.reads 0 0x0F 11 =
      [num ((List.finRange 128).filter fun b => s.blockPlaces[b] = .free).length,
        num ((List.finRange 64).filter fun r => s.record r = .free).length,
        num ((List.finRange 128).filter fun b => s.blockPlaces[b] = .retired).length] ++
        ((List.finRange 4).map fun q => num (s.port q).account.chargedBlocks) ++
        ((List.finRange 4).map fun q => num (s.port q).account.chargedRecords) := by
  have hplace (x : BlockPlace) : s.blockPlaces.toList.count x =
      ((List.finRange 128).filter fun b => s.blockPlaces[b] = x).length := by
    rw [List.count, countP_vector]
    rfl
  have hrec : s.records.toList.countP MsgRecord.isFree =
      ((List.finRange 64).filter fun r => s.record r = .free).length := by
    rw [countP_vector]
    refine congrArg List.length (List.filter_congr fun r _ => ?_)
    show (s.record r).isFree = _
    cases s.record r <;> simp [MsgRecord.isFree]
  rw [reads_low h 0 (by decide), ← hplace, ← hplace, ← hrec]
  rfl

end Sys2Proof.Machine
end

section
/-! The views in a port's window, and what a port out of service shows. -/

namespace Sys2Proof.Machine

/-! ## The upper part of the map, range by range -/

theorem reads_endpointView {s : State} (h : s.chipReset = false) {p : Port} (hs : (s.port p).state.hidesWindow = false)
    {a n : Nat} (hlo : 0x3A ≤ a) (hhi : a + n ≤ 0x49) :
    s.reads p a n = (List.range n).map fun k => endpointView s p (a + k - 0x3A) := by
  rw [reads_high h p hlo (by omega)]
  refine List.map_congr_left fun k hk => ?_
  have hk' := List.mem_range.1 hk
  rw [highWindowRead, if_pos (by omega), hs, if_neg (by decide)]

theorem reads_channelView {s : State} (h : s.chipReset = false) {p : Port} (hs : (s.port p).state.hidesWindow = false) :
    s.reads p 0x49 10 = (List.range 10).map (channelView s p) := by
  rw [reads_high h p (by decide) (by decide)]
  refine List.map_congr_left fun k hk => ?_
  have hk' := List.mem_range.1 hk
  rw [highWindowRead, if_neg (by omega), if_pos (by omega), hs, if_neg (by decide), Nat.add_sub_cancel_left]

theorem reads_groupView {s : State} (h : s.chipReset = false) {p : Port} (hs : (s.port p).state.hidesWindow = false) :
    s.reads p 0x53 19 = (List.range 19).map (groupView s p) := by
  rw [reads_high h p (by decide) (by decide)]
  refine List.map_congr_left fun k hk => ?_
  have hk' := List.mem_range.1 hk
  rw [highWindowRead, if_neg (by omega), if_neg (by omega), if_pos (by omega), hs, if_neg (by decide),
    Nat.add_sub_cancel_left]

theorem reads_receiptView {s : State} (h : s.chipReset = false) {p : Port} (hs : (s.port p).state.hidesWindow = false) :
    s.reads p 0x66 12 = (List.range 12).map (receiptView (s.port p).receipts) := by
  rw [reads_high h p (by decide) (by decide)]
  refine List.map_congr_left fun k hk => ?_
  have hk' := List.mem_range.1 hk
  rw [highWindowRead, if_neg (by omega), if_neg (by omega), if_neg (by omega), if_pos (by omega), hs,
    if_neg (by decide), Nat.add_sub_cancel_left]

theorem reads_attentionView {s : State} (h : s.chipReset = false) {p : Port} (hs : (s.port p).state.hidesWindow = false) :
    s.reads p 0x72 13 = (List.range 13).map (attentionView (s.port p).attention) := by
  rw [reads_high h p (by decide) (by decide)]
  refine List.map_congr_left fun k hk => ?_
  have hk' := List.mem_range.1 hk
  rw [highWindowRead, if_neg (by omega), if_neg (by omega), if_neg (by omega), if_neg (by omega), if_pos (by omega), hs,
    if_neg (by decide), Nat.add_sub_cancel_left]

theorem windowRead_last {s : State} (h : s.chipReset = false) (p : Port) {a : BitVec 7} (ha : a.toNat = 0x7F) :
    windowRead s p a = 0#16 := by
  rw [windowRead_high h p (by omega), highWindowRead, ha, if_neg (by decide), if_neg (by decide), if_neg (by decide),
    if_neg (by decide), if_neg (by decide)]

/-! ## The endpoint view -/

theorem reads_role {s : State} (h : s.chipReset = false) {p : Port} (hs : (s.port p).state.hidesWindow = false) :
    s.reads p 0x3A 9 = (s.endpoint (globalOf p (s.port p).host.viewSel)).role.shown := by
  rw [reads_endpointView h hs (by decide) (by decide)]
  show [wordOf (s.role (viewed s p)).code, (s.role (viewed s p)).linkWord, (s.role (viewed s p)).peerWord,
    (s.role (viewed s p)).filterWord, ((s.role (viewed s p)).offer?.map fun o => wordOf o.window).getD absent,
    ((s.role (viewed s p)).offer?.map fun o => wordOf o.maxLength).getD absent,
    ((s.role (viewed s p)).offer?.map fun o => o.options.toWord).getD absent,
    wordOf (s.role (viewed s p)).queue.length, wordOf (s.role (viewed s p)).depth] = (s.role (viewed s p)).shown
  cases s.role (viewed s p) with
  | listening f => rw [Role.filterWord, filter_word]; rfl
  | offered c a f o =>
    rw [Role.filterWord, filter_word, Role.offer?, Option.map_some, Option.map_some, Option.map_some, options_word]
    rfl
  | idle => rfl
  | calling c b => rfl
  | connected c x q d => rfl
  | closing c x q d => rfl
  | publisher g => rfl
  | member g q d => rfl

theorem reads_outcomes {s : State} (h : s.chipReset = false) {p : Port} (hs : (s.port p).state.hidesWindow = false) :
    s.reads p 0x43 6 =
      [(s.port p).attention.sets[itemOf (s.port p).host.viewSel],
        (s.endpoint (globalOf p (s.port p).host.viewSel)).openOutcome.shown,
        (s.endpoint (globalOf p (s.port p).host.viewSel)).openOutcome.rejectCode,
        (s.endpoint (globalOf p (s.port p).host.viewSel)).withdrawOutcome.shown,
        (s.endpoint (globalOf p (s.port p).host.viewSel)).closeOutcome.shown,
        num (s.endpoint (globalOf p (s.port p).host.viewSel)).discarded] := by
  rw [reads_endpointView h hs (by decide) (by decide), ← openOutcome_word, ← withdrawOutcome_word, ← closeOutcome_word]
  rfl

/-! ## The channel view -/

theorem channelView_none {s : State} {p : Port} (h : (s.role (viewed s p)).channel? = none) (k : Nat) :
    channelView s p k = absent := by
  simp only [channelView, h]

theorem channelView_requested {s : State} {p : Port} {c : ChanId} {a b : EpId} {o : Offer} {dl : Time}
    (hr : (s.role (viewed s p)).channel? = some c) (hc : s.channel c = .requested a b o dl) :
    (List.range 10).map (channelView s p) =
      [1, if viewed s p = a then 0 else 1] ++ List.replicate 8 0xFFFF := by
  have hv (k : Nat) : channelView s p (k + 2) = absent := by simp only [channelView, hr, hc]
  have h0 : channelView s p 0 = 1 := by simp only [channelView, hr, hc]; rfl
  have h1 : channelView s p 1 = if viewed s p = a then 0 else 1 := by simp only [channelView, hr, hc]; rfl
  simp only [List.range_succ_eq_map, List.range_zero, List.map_cons, List.map_nil, h0, h1, hv, Nat.succ_eq_add_one,
    Nat.zero_add]
  rfl

theorem liveChannelView_eq (l : LiveChannel) (e : EpId) (n : Nat) :
    (List.range 10).map (liveChannelView l e n) = l.shown n (decide (e = l.caller)) := by
  by_cases he : e = l.caller
  · have hout : l.sendingFrom e = .callerToCallee := if_pos he
    rw [decide_eq_true he, LiveChannel.shown, if_pos rfl, if_pos rfl, if_pos rfl, ← options_word]
    have h1 : liveChannelView l e n 1 = 0 := if_pos he
    simp only [List.range_succ_eq_map, List.range_zero, List.map_cons, List.map_nil, h1]
    simp only [liveChannelView, hout]
    rfl
  · have hout : l.sendingFrom e = .calleeToCaller := if_neg he
    rw [decide_eq_false he, LiveChannel.shown, if_neg (by decide), if_neg (by decide), if_neg (by decide), ← options_word]
    have h1 : liveChannelView l e n 1 = 1 := if_neg he
    simp only [List.range_succ_eq_map, List.range_zero, List.map_cons, List.map_nil, h1]
    simp only [liveChannelView, hout]
    rfl

theorem channelView_opened {s : State} {p : Port} {c : ChanId} {l : LiveChannel}
    (hr : (s.role (viewed s p)).channel? = some c) (hc : s.channel c = .opened l) :
    (List.range 10).map (channelView s p) = l.shown 2 (decide (viewed s p = l.caller)) := by
  rw [← liveChannelView_eq]
  exact List.map_congr_left fun k _ => by simp only [channelView, hr, hc]

theorem channelView_draining {s : State} {p : Port} {c : ChanId} {l : LiveChannel} {cl : Closers} {dl : Option Time}
    (hr : (s.role (viewed s p)).channel? = some c) (hc : s.channel c = .draining l cl dl) :
    (List.range 10).map (channelView s p) = l.shown 3 (decide (viewed s p = l.caller)) := by
  rw [← liveChannelView_eq]
  exact List.map_congr_left fun k _ => by simp only [channelView, hr, hc]

theorem Role.channel?_eq_none {x : Role} (offered : ∀ c k f v, x ≠ .offered c k f v) (calling : ∀ c k, x ≠ .calling c k)
    (connected : ∀ c k q d, x ≠ .connected c k q d) (closing : ∀ c k q d, x ≠ .closing c k q d) :
    x.channel? = none := by
  cases x with
  | offered c a f o => exact absurd rfl (offered c a f o)
  | calling c b => exact absurd rfl (calling c b)
  | connected c k q d => exact absurd rfl (connected c k q d)
  | closing c k q d => exact absurd rfl (closing c k q d)
  | idle => rfl
  | listening f => rfl
  | publisher g => rfl
  | member g q d => rfl

/-! ## The group view -/

theorem Role.group?_eq_none {x : Role} (publisher : ∀ g, x ≠ .publisher g) (member : ∀ g q d, x ≠ .member g q d) :
    x.group? = none := by
  cases x with
  | publisher g => exact absurd rfl (publisher g)
  | member g q d => exact absurd rfl (member g q d)
  | idle => rfl
  | listening f => rfl
  | offered c a f o => rfl
  | calling c b => rfl
  | connected c k q d => rfl
  | closing c k q d => rfl

theorem groupView_none {s : State} {p : Port} (h : (s.role (viewed s p)).group? = none) (k : Nat) :
    groupView s p k = absent := by
  simp only [groupView, h]

theorem groupView_active {s : State} {p : Port} {g : GroupId} {x : ActiveGroup}
    (hr : (s.role (viewed s p)).group? = some g) (hg : s.group g = .active x) :
    (List.range 19).map (groupView s p) = x.shown := by
  have hmem (k : Nat) : groupView s p (7 + k) = (x.members[k]?.map fun m => num m.val).getD 0xFFFF := by
    have hk : 7 + k - 7 = k := Nat.add_sub_cancel_left 7 k
    simp only [groupView, hr, hg, Nat.add_comm 7 k]
    rfl
  have hsplit : List.range 19 = List.range 7 ++ (List.range 12).map (7 + ·) := by decide
  rw [hsplit, List.map_append, List.map_map]
  have hhead : (List.range 7).map (groupView s p) =
      [1, num x.publisher.val, if x.policy = .opened then 0 else 1, num x.maxLength, x.options.shown, x.nextSequence,
        num x.members.length] := by
    rw [← policy_code, ← options_word]
    simp only [List.range_succ_eq_map, List.range_zero, List.map_cons, List.map_nil, groupView, hr, hg]
    rfl
  rw [hhead]
  exact congrArg _ (List.map_congr_left fun k _ => hmem k)

/-! ## The receipt head and the attention registers -/

theorem receiptOutcome_word (x : ReceiptOutcome) (damaged : Bool) :
    wordOf x.code ||| flagAt damaged 15 = num (x.code + if damaged then 0x8000 else 0) :=
  num_or_flag (k := 15) (by cases x <;> simp [ReceiptOutcome.code]) damaged

theorem receiptView_cons (r : Receipt) (rest : List Receipt) (n : Nat) :
    (List.range 12).map (receiptView ⟨r :: rest, n⟩) =
      [num (rest.length + 1), num n, wordOf r.outcome.code ||| flagAt r.damaged 15, num r.endpoint.val, r.link.toWord,
        r.sequence, r.tag.extractLsb' 0 16, r.tag.extractLsb' 16 16,
        (r.outcome.tallies?.map fun t => num t.fetched).getD 0, (r.outcome.tallies?.map fun t => num t.expired).getD 0,
        (r.outcome.tallies?.map fun t => num t.discarded).getD 0,
        (r.outcome.tallies?.map fun t => num t.skipped).getD 0] :=
  rfl

theorem receiptView_eq (u : ReceiptUnit) : (List.range 12).map (receiptView u) = u.shown := by
  obtain ⟨queue, reserved⟩ := u
  cases queue with
  | nil => rfl
  | cons r rest =>
    rw [receiptView_cons, receiptOutcome_word, link_word]
    obtain ⟨e, link, seq, tag, outcome, damaged⟩ := r
    cases outcome <;> rfl

theorem attentionView_eq (a : Attention) : (List.range 13).map (attentionView a) = a.shown := by
  have hitem (k : Nat) (hk : k < 9) : attentionView a (1 + k) = (a.list[k]?.map fun it => num it.val).getD 0xFFFF := by
    interval_cases k <;> rfl
  have hsplit : List.range 13 = [0] ++ (List.range 9).map (1 + ·) ++ [10, 11, 12] := by decide
  rw [hsplit, List.map_append, List.map_append, List.map_map]
  refine congr_arg₂ _ (congrArg _ (List.map_congr_left fun k hk => hitem k (List.mem_range.1 hk))) ?_
  obtain ⟨sets, nudgers, list⟩ := a
  have hn : nudgers.setWidth 16 = num nudgers.toNat := by simp [num]
  cases list with
  | nil => exact congrArg (fun w => [0, sets[portItem], w]) hn
  | cons it rest => exact congrArg (fun w => [sets[it], sets[portItem], w]) hn

/-! ## A window out of service -/

theorem hidden_of_out {x : PortState} (h : x = .disabled ∨ x.isResetting = true) : x.hidesWindow = true := by
  cases x <;> simp_all [PortState.isResetting, PortState.hidesWindow]

theorem shown_of_not_out {x : PortState} (h : ¬(x = .disabled ∨ x.isResetting = true)) : x.hidesWindow = false := by
  cases x <;> simp_all [PortState.isResetting, PortState.hidesWindow]

theorem shown_of_in {x : PortState} (h : x = .offline ∨ x = .online) : x.hidesWindow = false := by
  rcases h with rfl | rfl <;> rfl

/-- The view selector, the staging and the read buffer data registers of a port out of service. -/
theorem windowRead_hidden_data {s : State} (h : s.chipReset = false) {p : Port}
    (hs : (s.port p).state.hidesWindow = true) {a : BitVec 7} (ha : a.toNat ∈ [0x22, 0x2A, 0x39, 0x3A]) :
    windowRead s p a = 0#16 := by
  simp only [List.mem_cons, List.not_mem_nil, or_false] at ha
  rcases ha with ha | ha | ha | ha
  · rw [windowRead_mid h p (by omega) (by omega), ha]
    rfl
  · rw [windowRead_mid h p (by omega) (by omega), ha]
    exact if_pos hs
  · rw [windowRead_mid h p (by omega) (by omega), ha]
    exact if_pos hs
  · rw [windowRead_high h p (by omega), ha, highWindowRead, if_pos (by decide), hs]
    rfl

/-- The views, the receipt head and the attention registers of a port out of service: an absent field, or 0. -/
theorem windowRead_hidden {s : State} (h : s.chipReset = false) {p : Port}
    (hs : (s.port p).state.hidesWindow = true) {a : BitVec 7} (ha : 0x3B ≤ a.toNat) :
    windowRead s p a =
      if a.toNat ≤ 0x40 ∨ 0x49 ≤ a.toNat ∧ a.toNat ≤ 0x65 ∨ 0x73 ≤ a.toNat ∧ a.toNat ≤ 0x7B then 0xFFFF#16 else 0#16 := by
  rw [windowRead_high h p (by omega), highWindowRead]
  rw [if_pos hs, if_pos hs, if_pos hs, if_pos hs, if_pos hs, hiddenEndpointView, hiddenAttentionView]
  unfold absent
  grind

/-- The pools and PIN_STATUS are shown to P0 alone. -/
theorem windowRead_private {s : State} (h : s.chipReset = false) {p : Port} (hp : p ≠ 0) {a : BitVec 7}
    (ha : 0x0F ≤ a.toNat ∧ a.toNat ≤ 0x19 ∨ a.toNat = 0x04) : windowRead s p a = 0#16 := by
  rw [windowRead_low h p (by omega)]
  generalize a.toNat = n at ha
  rcases ha with ⟨hl, hu⟩ | rfl
  · interval_cases n <;> exact if_neg hp
  · exact if_neg hp

/-! ## The register accesses -/

theorem exec_viewSel {s : State} (h : s.chipReset = false) {p : Port} {w : Word} {v : EpIndex}
    (hs : (s.port p).state.hidesWindow = false) (hv : w.toNat = v.val) :
    exec (.viewSel p w) s = .next (s.modPort p fun y => { y with host := { y.host with viewSel := v } }) := by
  have hmod : (⟨w.toNat % 8, Nat.mod_lt _ (by decide)⟩ : EpIndex) = v :=
    Fin.ext (by rw [hv]; exact Nat.mod_eq_of_lt v.isLt)
  refine (taken_running h).trans (congrArg _ ?_)
  have hin : ¬((s.port p).state.hidesWindow = true ∨ 7 < w.toNat) := by
    have := v.isLt
    simp only [hs, Bool.false_eq_true, false_or]
    omega
  rw [if_neg hin, hmod]

theorem exec_viewSel_ignored {s : State} (h : s.chipReset = false) {p : Port} {w : Word}
    (hw : (s.port p).state.hidesWindow = true ∨ 7 < w.toNat) : exec (.viewSel p w) s = .next s :=
  (taken_running h).trans (congrArg _ (if_pos hw))

theorem exec_timeLo {s : State} (h : s.chipReset = false) (p : Port) :
    exec (.timeLo p) s =
      .next
        (s.modPort p fun y =>
          { y with host := { y.host with readData := s.now.extractLsb' 0 16, timeCapture := s.now } }) := by
  have hr : windowRead s p 0x09#7 = s.now.extractLsb' 0 16 := windowRead_low h p (by decide)
  show execTimeLo p s = _
  rw [execTimeLo, hr, h]
  rfl

theorem reads_offer {s : State} (h : s.chipReset = false) {p : Port} (hs : (s.port p).state.hidesWindow = false)
    {c : ChanId} {a b : EpId} {o : Offer} {dl : Time}
    (hr : (s.role (globalOf p (s.port p).host.viewSel)).channel? = some c) (hc : s.channel c = .requested a b o dl) :
    s.reads p 0x49 10 =
      [1, if globalOf p (s.port p).host.viewSel = a then 0 else 1] ++ List.replicate 8 0xFFFF :=
  (reads_channelView h hs).trans (channelView_requested hr hc)

/-- Settles O48: each register is read off the part of the map that holds it. -/
theorem registerAccessesAndWindows : Obligations.RegisterAccessesAndWindows := by
  refine ⟨fun p w n a s hrun => ⟨taken_running hrun, fun v hin hv => ?_, fun hw => ?_, exec_timeLo hrun p,
      windowRead_low hrun p (by decide), taken_running hrun⟩,
    fun p a s hrun => ⟨⟨windowRead_low hrun p (by decide), windowRead_low hrun p (by decide)⟩,
      fun hp ha => windowRead_private hrun hp ha, fun hout => ?_⟩,
    fun p s hrun => ⟨reads_portState hrun p, fun q => ⟨pins_resetInput hrun q, pins_disablePending hrun q⟩,
      pins_upper hrun, reads_config hrun p, reads_account hrun p, reads_pools hrun, reads_notification hrun p,
      reads_result hrun p, ?_, reads_readBuffer hrun p, ?_⟩,
    fun p s hrun hin => ?_⟩
  · exact exec_viewSel hrun (shown_of_not_out hin) hv
  · exact exec_viewSel_ignored hrun (hw.imp_left hidden_of_out)
  · have hs := hidden_of_out hout
    refine ⟨fun ha => windowRead_hidden_data hrun hs ha, fun ha => ?_, fun ha => ?_, fun ha => ?_, fun ha => ?_,
      fun ha => ?_, fun ha => ?_⟩ <;>
      rw [windowRead_hidden hrun hs (by omega)]
    · exact if_pos (by omega)
    · exact if_neg (by omega)
    · exact if_pos (by omega)
    · exact if_neg (by omega)
    · exact if_pos (by omega)
    · exact if_neg (by omega)
  · rw [reads_send hrun p]
    refine congrArg (· :: _) ?_
    unfold sendStatus
    cases (s.port p).sendUnit with
    | none => exact BitVec.zero_or.symm
    | some u =>
      have hk : wordOf (u.kind.code * 4) = num (if u.kind = .channel then 4 else 8) := by cases u.kind <;> rfl
      dsimp only
      rw [hk, Nat.mul_comm]
      rfl
  · rw [reads_fetch hrun p]
    refine congrArg (· :: _) ?_
    unfold fetchStatus
    cases (s.port p).fetchUnit with
    | none => rfl
    | some u => exact (congrArg (1#16 ||| num ·) (Nat.mul_comm ..)).trans (num_or (i := 4) (a := 1) (by decide) u.remaining)
  · have hs := shown_of_in hin
    refine ⟨?_, reads_role hrun hs, ?_, fun c a b o dl hc => ⟨fun k hr he => ?_, fun k f v hr he => ?_⟩,
      fun c l k q d hr hc => ?_, fun c l cl dl k q d hr hc => ?_, fun h1 h2 h3 h4 => ?_, fun g z hr hg => ?_,
      fun g z q d hr hg => ?_, fun h1 h2 => ?_, ?_, ?_, windowRead_last hrun p rfl⟩
    · rw [reads_mid hrun p (by decide) (by decide)]
      exact congrArg (fun w => [w]) (if_neg (by simp [hs]))
    · rw [reads_outcomes hrun hs]
      cases (s.endpoint (globalOf p (s.port p).host.viewSel)).openOutcome <;> rfl
    · rw [reads_offer hrun hs (congrArg Role.channel? hr) hc, if_pos he]
    · rw [reads_offer hrun hs (congrArg Role.channel? hr) hc, if_neg he]
    · exact (reads_channelView hrun hs).trans (channelView_opened (congrArg Role.channel? hr) hc)
    · exact (reads_channelView hrun hs).trans (channelView_draining (congrArg Role.channel? hr) hc)
    · refine (reads_channelView hrun hs).trans (List.map_congr_left fun k _ => channelView_none ?_ k)
      exact Role.channel?_eq_none h1 h2 h3 h4
    · exact (reads_groupView hrun hs).trans (groupView_active (congrArg Role.group? hr) hg)
    · exact (reads_groupView hrun hs).trans (groupView_active (congrArg Role.group? hr) hg)
    · refine (reads_groupView hrun hs).trans (List.map_congr_left fun k _ => groupView_none ?_ k)
      exact Role.group?_eq_none h1 h2
    · exact (reads_receiptView hrun hs).trans (receiptView_eq _)
    · exact (reads_attentionView hrun hs).trans (attentionView_eq _)

end Sys2Proof.Machine
end

section
/-! The coherence law in parts that a step can be checked against one by one: who names whom, what holds the messages,
what a port out of service shows, and the transfer units with their requesters. -/

namespace Sys2Proof.Machine

/-! ## Who names whom -/

/-- What a channel shows of its ends: whom it names and in what state, with the windows toward callee and caller. -/
inductive Face where
  | none
  | request (caller callee : EpId) (offer : Offer)
  | live (draining : Bool) (caller callee : EpId) (toCallee toCaller : Nat)

def Channel.face : Channel → Face
  | .free => .none
  | .requested a b o _ => .request a b o
  | .opened l => .live false l.caller l.callee l.toCallee.window l.toCaller.window
  | .draining l _ _ => .live true l.caller l.callee l.toCallee.window l.toCaller.window
  | .aborting _ _ _ _ => .none

def Face.ends : Face → List EpId
  | .none => []
  | .request a b _ => [a, b]
  | .live _ a b _ _ => [a, b]

/-- The end that receives on a direction. -/
def Face.receiver? : Face → Dirn → Option EpId
  | .none, _ => Option.none
  | .request _ _ _, _ => Option.none
  | .live _ _ b _ _, .callerToCallee => some b
  | .live _ a _ _ _, .calleeToCaller => some a

/-- The publisher and the members that a group names. -/
def Group.face : Group → Option (EpId × List EpId)
  | .free => none
  | .active x => some (x.publisher, x.members)
  | .dissolving => none

def State.face (s : State) (c : ChanId) : Face :=
  (s.channel c).face

def State.groupFace (s : State) (g : GroupId) : Option (EpId × List EpId) :=
  (s.group g).face

/-- A block has nothing of a port: the port is not ONLINE and the block owes it no share. -/
def State.out (s : State) (p : Port) (b : ShareBlock) : Prop :=
  s.online p = false ∧ s.awaits p (.share b) = false

/-- The role of endpoint e is the one that the channel or the group it names gives it. -/
def Role.Backed (e : EpId) (face : ChanId → Face) (group : GroupId → Option (EpId × List EpId)) : Role → Prop
  | .idle => True
  | .listening _ => True
  | .offered c a _ o => face c = .request a e o
  | .calling c b => ∃ o, face c = .request e b o
  | .connected c x _ n => ∃ w, face c = .live false e x w n ∨ face c = .live false x e n w
  | .closing c x _ n => ∃ w, face c = .live true e x w n ∨ face c = .live true x e n w
  | .publisher g => ∃ l, group g = some (e, l)
  | .member g _ n => 1 ≤ n ∧ ∃ a l, group g = some (a, l) ∧ e ∈ l

/-- Roles, channels and groups name each other; an end may be IDLE at a port whose endpoints are gone (R37, R119). -/
structure Naming (role : EpId → Role) (face : ChanId → Face) (group : GroupId → Option (EpId × List EpId))
    (out : Port → ShareBlock → Prop) : Prop where
  backed : ∀ e, (role e).Backed e face group
  distinct : ∀ c, (face c).ends.Nodup
  ends : ∀ c, ∀ e ∈ (face c).ends,
    role e = .idle ∧ out (portOf e) .endpointTable ∨ (role e).channel? = some c
  sound : ∀ g a l, group g = some (a, l) → l.Nodup ∧ a ∉ l
  members : ∀ g a l, group g = some (a, l) → ∀ e ∈ a :: l,
    role e = .idle ∧ out (portOf e) .endpointTable ∨ (role e).group? = some g
  idle : ∀ e, out (portOf e) .endpointTable → role e = .idle
  noEnd : ∀ c, ∀ e ∈ (face c).ends, ¬out (portOf e) .channelController
  noMember : ∀ g a l, group g = some (a, l) → ∀ e ∈ a :: l, ¬out (portOf e) .groupController

def State.Named (s : State) : Prop :=
  Naming s.role s.face s.groupFace s.out

/-! ## What holds the messages -/

/-- The Send Unit of port p fills record r. -/
def State.sends (s : State) (p : Port) (r : RecId) : Prop :=
  (s.port p).sendUnit.map CopyIn.record = some r

/-- The Fetch Unit of port p reads record r. -/
def State.fetches (s : State) (p : Port) (r : RecId) : Prop :=
  (s.port p).fetchUnit.map CopyOut.record = some r

/-- A message that an endpoint in this role may hold in its queue. -/
def Role.Takes (e : EpId) (face : ChanId → Face) (group : GroupId → Option (EpId × List EpId)) (origin : EpId)
    (link : RecLink) : Role → Prop
  | .connected c _ _ _ => ∃ d, link = .channel c d ∧ (face c).receiver? d = some e
  | .closing c _ _ _ => ∃ d, link = .channel c d ∧ (face c).receiver? d = some e
  | .member g _ _ => link = .group g ∧ ∃ l, group g = some (origin, l)
  | .idle => False
  | .listening _ => False
  | .offered _ _ _ _ => False
  | .calling _ _ => False
  | .publisher _ => False

/-- What a channel keeps of its messages agrees with the records on it, its transfers and their ends. -/
def Channel.Accounts (x : Channel) (records : Dirn → Nat) (transfers : Nat) (ends : EpId → EpId → Prop) : Prop :=
  match x with
  | .free => ∀ d, records d = 0
  | .requested _ _ _ _ => ∀ d, records d = 0
  | .opened l =>
    (∀ d, (l.direction d).credits + (l.direction d).outstanding = (l.direction d).window ∧
      (l.direction d).outstanding = records d) ∧ l.transfers = transfers ∧ ends l.caller l.callee
  | .draining l _ _ =>
    (∀ d, (l.direction d).credits + (l.direction d).outstanding = (l.direction d).window ∧
      (l.direction d).outstanding = records d) ∧ l.transfers = transfers ∧ ends l.caller l.callee
  | .aborting a b _ k => 1 ≤ k ∧ k = transfers ∧ ends a b

/-- Records, queues, transfer units, accounts and copies in flight agree. -/
structure State.Holding (s : State) : Prop where
  live : ∀ r m dl, s.record r = .live m dl →
    m.count = s.entryCount r + s.fetchCount r ∧ 1 ≤ m.count ∧ m.count ≤ 12 ∧ (m.isGroup = false → m.count = 1)
  filling : ∀ r m, s.record r = .filling m → m.count = 1 ∧ s.sends (portOf m.origin) r
  sender : ∀ p u, (s.port p).sendUnit = some u → ∃ m, s.record u.record = .filling m ∧ portOf m.origin = p ∧
    u.next + u.remaining = m.blocks.length ∧ (u.kind = .group ↔ m.isGroup = true)
  fetcher : ∀ p u, (s.port p).fetchUnit = some u → ∃ m dl, s.record u.record = .live m dl ∧
    u.next + u.remaining = m.blocks.length
  queue : ∀ e, (s.role e).queue.Nodup ∧ (s.role e).queue.length ≤ (s.role e).depth
  entry : ∀ e, ∀ r ∈ (s.role e).queue, ∃ m dl, s.record r = .live m dl ∧
    (s.role e).Takes e s.face s.groupFace m.origin m.link
  account : ∀ c, (s.channel c).Accounts (s.recordsOn c) (s.transfersOn c) (s.EndsOfMessages c)
  copies : s.CopyLaw

/-! ## Ports out of service -/

/-- A port out of service shows no outcome, no receipt and no condition (R147, R154). -/
structure State.Hushed (s : State) : Prop where
  buffers : ∀ p, s.online p = false → (s.port p).readBuffer = ReadBuffer.reset ∧
    (s.port p).sendOutcome = SendOutcome.reset ∧ (s.port p).fetchOutcome = FetchOutcome.reset
  blank : ∀ e, s.out (portOf e) .endpointTable → (s.endpoint e).Blank
  receipts : ∀ p, s.out p .receiptUnit → (s.port p).receipts = { queue := [], reserved := 0 }
  attention : ∀ p, s.out p .attention → (s.port p).Unattended

/-! ## The transfer units -/

/-- A port's transfer units, and what of the port goes with them. -/
structure State.Geared (s : State) (p : Port) : Prop where
  due : (s.port p).state ≠ .resetting false [] ∧ (s.port p).state ≠ .resetting true []
  send : ∀ u, (s.port p).sendUnit = some u →
    1 ≤ u.remaining ∧ u.remaining ≤ 8 ∧ (u.cancelled = false → s.online p = true)
  locked : (s.port p).staging.locked = true ↔ ∃ u, (s.port p).sendUnit = some u ∧ u.cancelled = false
  sendStopped : s.awaits p .sendStopped = true ↔ ∃ u, (s.port p).sendUnit = some u ∧ u.cancelled = true
  fetch : ∀ u, (s.port p).fetchUnit = some u →
    1 ≤ u.remaining ∧ u.remaining ≤ 8 ∧ (u.cancelled = false → s.online p = true)
  reading : (s.port p).readBuffer.state = .filling ↔ ∃ u, (s.port p).fetchUnit = some u ∧ u.cancelled = false
  fetchStopped : s.awaits p .fetchStopped = true ↔ ∃ u, (s.port p).fetchUnit = some u ∧ u.cancelled = true

/-- The requesters that ask for the memory are those whose units are at work. -/
structure State.Asked (s : State) : Prop where
  law : s.arbiter.Law
  send : ∀ p, s.Requests (sendRequester p) ↔ (s.port p).sendUnit.isSome
  fetch : ∀ p, s.Requests (fetchRequester p) ↔ (s.port p).fetchUnit.isSome
  sendLast : ∀ p u, (s.port p).sendUnit = some u → u.cancelled = true → s.arbiter.inProgress = some (sendRequester p)
  fetchLast : ∀ p u, (s.port p).fetchUnit = some u → u.cancelled = true →
    s.arbiter.inProgress = some (fetchRequester p)

/-! ## The coherence law from its parts -/

/-- All parts that no other law of the model states. -/
structure State.Sound (s : State) : Prop where
  named : s.Named
  holding : s.Holding
  hushed : s.Hushed
  geared : ∀ p, s.Geared p
  asked : s.Asked

theorem Face.mem_ends {f : Face} {e : EpId} (h : e ∈ f.ends) :
    (∃ a b o, f = .request a b o ∧ (e = a ∨ e = b)) ∨ ∃ dr a b w w', f = .live dr a b w w' ∧ (e = a ∨ e = b) := by
  cases f with
  | none => cases h
  | request a b o => exact .inl ⟨a, b, o, rfl, by simpa [Face.ends] using h⟩
  | live dr a b w w' => exact .inr ⟨dr, a, b, w, w', rfl, by simpa [Face.ends] using h⟩

theorem Channel.ends_eq (x : Channel) : x.face.ends = x.ends := by
  cases x <;> rfl

theorem Channel.face_eq_request {x : Channel} {a b : EpId} {o : Offer} :
    x.face = .request a b o ↔ ∃ dl, x = .requested a b o dl := by
  cases x <;> simp [Channel.face]

theorem Channel.face_eq_live {x : Channel} {dr : Bool} {a b : EpId} {w w' : Nat} :
    x.face = .live dr a b w w' ↔
      ∃ l, l.caller = a ∧ l.callee = b ∧ l.toCallee.window = w ∧ l.toCaller.window = w' ∧
        (dr = false ∧ x = .opened l ∨ dr = true ∧ ∃ cl dl, x = .draining l cl dl) := by
  cases x with
  | opened l =>
    constructor
    · intro h
      cases h
      exact ⟨l, rfl, rfl, rfl, rfl, .inl ⟨rfl, rfl⟩⟩
    · rintro ⟨l', rfl, rfl, rfl, rfl, ⟨rfl, h⟩ | ⟨-, _, _, h⟩⟩
      · cases h
        rfl
      · cases h
  | draining l cl dl =>
    constructor
    · intro h
      cases h
      exact ⟨l, rfl, rfl, rfl, rfl, .inr ⟨rfl, cl, dl, rfl⟩⟩
    · rintro ⟨l', rfl, rfl, rfl, rfl, ⟨-, h⟩ | ⟨rfl, _, _, h⟩⟩
      · cases h
      · cases h
        rfl
  | free => simp [Channel.face]
  | requested a b o dl => simp [Channel.face]
  | aborting a b cl k => simp [Channel.face]

theorem Group.face_eq_some {x : Group} {a : EpId} {l : List EpId} :
    x.face = some (a, l) ↔ ∃ y, x = .active y ∧ y.publisher = a ∧ y.members = l := by
  cases x <;> simp [Group.face]

theorem backed_of_namesBack {s : State} {e : EpId} (h : s.NamesBack e) : (s.role e).Backed e s.face s.groupFace := by
  unfold State.NamesBack at h
  cases hr : s.role e with
  | idle => trivial
  | listening f => trivial
  | offered c a f o =>
    rw [hr] at h
    exact Channel.face_eq_request.2 h
  | calling c b =>
    rw [hr] at h
    obtain ⟨o, h⟩ := h
    exact ⟨o, Channel.face_eq_request.2 h⟩
  | connected c x q n =>
    rw [hr] at h
    obtain ⟨l, hl, ⟨h1, h2, h3⟩ | ⟨h1, h2, h3⟩⟩ := h
    · exact ⟨l.toCallee.window, .inl (Channel.face_eq_live.2 ⟨l, h1.symm, h2.symm, rfl, h3.symm, .inl ⟨rfl, hl⟩⟩)⟩
    · exact ⟨l.toCaller.window, .inr (Channel.face_eq_live.2 ⟨l, h2.symm, h1.symm, h3.symm, rfl, .inl ⟨rfl, hl⟩⟩)⟩
  | closing c x q n =>
    rw [hr] at h
    obtain ⟨l, cl, dl, hl, ⟨h1, h2, h3⟩ | ⟨h1, h2, h3⟩⟩ := h
    · exact ⟨l.toCallee.window,
        .inl (Channel.face_eq_live.2 ⟨l, h1.symm, h2.symm, rfl, h3.symm, .inr ⟨rfl, cl, dl, hl⟩⟩)⟩
    · exact ⟨l.toCaller.window,
        .inr (Channel.face_eq_live.2 ⟨l, h2.symm, h1.symm, h3.symm, rfl, .inr ⟨rfl, cl, dl, hl⟩⟩)⟩
  | publisher g =>
    rw [hr] at h
    obtain ⟨x, hx, hp⟩ := h
    exact ⟨x.members, Group.face_eq_some.2 ⟨x, hx, hp, rfl⟩⟩
  | member g q n =>
    rw [hr] at h
    obtain ⟨x, hx, hm, hn⟩ := h
    exact ⟨hn, x.publisher, x.members, Group.face_eq_some.2 ⟨x, hx, rfl, rfl⟩, hm⟩

theorem namesBack_of_backed {s : State} {e : EpId} (h : (s.role e).Backed e s.face s.groupFace) : s.NamesBack e := by
  unfold State.NamesBack
  cases hr : s.role e with
  | idle => trivial
  | listening f => trivial
  | offered c a f o =>
    rw [hr] at h
    exact Channel.face_eq_request.1 h
  | calling c b =>
    rw [hr] at h
    obtain ⟨o, h⟩ := h
    exact ⟨o, Channel.face_eq_request.1 h⟩
  | connected c x q n =>
    rw [hr] at h
    obtain ⟨w, h | h⟩ := h <;> obtain ⟨l, h1, h2, h3, h4, ⟨-, hl⟩ | ⟨hf, -⟩⟩ := Channel.face_eq_live.1 h
    · exact ⟨l, hl, .inl ⟨h1.symm, h2.symm, h4.symm⟩⟩
    · cases hf
    · exact ⟨l, hl, .inr ⟨h2.symm, h1.symm, h3.symm⟩⟩
    · cases hf
  | closing c x q n =>
    rw [hr] at h
    obtain ⟨w, h | h⟩ := h <;> obtain ⟨l, h1, h2, h3, h4, ⟨hf, -⟩ | ⟨-, cl, dl, hl⟩⟩ := Channel.face_eq_live.1 h
    · cases hf
    · exact ⟨l, cl, dl, hl, .inl ⟨h1.symm, h2.symm, h4.symm⟩⟩
    · cases hf
    · exact ⟨l, cl, dl, hl, .inr ⟨h2.symm, h1.symm, h3.symm⟩⟩
  | publisher g =>
    rw [hr] at h
    obtain ⟨l, h⟩ := h
    obtain ⟨y, hy, hp, -⟩ := Group.face_eq_some.1 h
    exact ⟨y, hy, hp⟩
  | member g q n =>
    rw [hr] at h
    obtain ⟨hn, a, l, h, hm⟩ := h
    obtain ⟨y, hy, -, rfl⟩ := Group.face_eq_some.1 h
    exact ⟨y, hy, hm, hn⟩

theorem takes_of_entryFits {s : State} {e : EpId} {m : Message} (h : s.EntryFits e m) :
    (s.role e).Takes e s.face s.groupFace m.origin m.link := by
  unfold State.EntryFits at h
  cases hr : s.role e with
  | connected c x q n =>
    rw [hr] at h
    obtain ⟨l, d, hl, hk, he⟩ := h
    refine ⟨d, hk, ?_⟩
    unfold State.face
    rw [hl]
    cases d <;> exact congrArg some he
  | closing c x q n =>
    rw [hr] at h
    obtain ⟨l, cl, dl, d, hl, hk, he⟩ := h
    refine ⟨d, hk, ?_⟩
    unfold State.face
    rw [hl]
    cases d <;> exact congrArg some he
  | member g q n =>
    rw [hr] at h
    obtain ⟨x, hx, hk, ho⟩ := h
    exact ⟨hk, x.members, Group.face_eq_some.2 ⟨x, hx, ho.symm, rfl⟩⟩
  | idle => rw [hr] at h; exact h
  | listening f => rw [hr] at h; exact h
  | offered c a f o => rw [hr] at h; exact h
  | calling c b => rw [hr] at h; exact h
  | publisher g => rw [hr] at h; exact h

end Sys2Proof.Machine
end

section
/-! The coherence law says what its parts say together, with the ranges of the links and the lengths of the records. -/

namespace Sys2Proof.Machine

/-! ## From the law to its parts -/

theorem isResetting_of_awaits {s : State} {p : Port} {r : Report} (h : s.awaits p r = true) :
    (s.port p).state.isResetting = true := by
  unfold State.awaits at h
  cases hs : (s.port p).state <;> rw [hs] at h <;> first | rfl | cases h

theorem offline_of_isResetting {s : State} {p : Port} (h : (s.port p).state.isResetting = true) : s.online p = false := by
  unfold State.online
  cases hs : (s.port p).state <;> rw [hs] at h <;> first | rfl | cases h

theorem State.LeftBehind.gone {s : State} {e : EpId} (h : s.LeftBehind e) :
    s.role e = .idle ∧ s.out (portOf e) .endpointTable :=
  ⟨h.1, offline_of_isResetting h.2.1, h.2.2⟩

/-- An end that is gone is left behind while the owner of the link still has it. -/
theorem leftBehind_of_gone {s : State} {e : EpId} {b : ShareBlock} (hb : ¬s.out (portOf e) b)
    (h : s.role e = .idle ∧ s.out (portOf e) .endpointTable) : s.LeftBehind e := by
  obtain ⟨hi, ho, ha⟩ := h
  refine ⟨hi, ?_, ha⟩
  have hw : s.awaits (portOf e) (.share b) = true := by
    by_contra hx
    exact hb ⟨ho, by simpa using hx⟩
  exact isResetting_of_awaits hw

theorem endpoint_eq_reset {x : Endpoint} : x = Endpoint.reset ↔ x.role = .idle ∧ x.Blank := by
  obtain ⟨r, o, w, c, d⟩ := x
  constructor
  · rintro h
    cases h
    exact ⟨rfl, rfl⟩
  · rintro ⟨h1, h2⟩
    cases h1
    exact h2

theorem globalOf_localOf (e : EpId) : globalOf (portOf e) (localOf e) = e := by
  apply Fin.ext
  show 8 * (e.val / 8) + e.val % 8 = e.val
  omega

theorem named_of_coherent {s : State} (h : s.Coherent) : s.Named := by
  obtain ⟨-, -, ⟨hback, hchan, hgroup⟩, -, -, hout, -⟩ := h
  have hends (c : ChanId) : ∀ e ∈ (s.channel c).ends, s.LeftBehind e ∨ (s.role e).channel? = some c := by
    have h := (hchan c).2
    intro e he
    cases hc : s.channel c with
    | free => rw [hc] at he; cases he
    | requested a b o dl =>
      rw [hc] at h he
      obtain ⟨ha, hb⟩ := h
      simp only [Channel.ends, List.mem_cons, List.not_mem_nil, or_false] at he
      rcases he with rfl | rfl
      · exact ha.imp_right fun h => by rw [h]; rfl
      · exact hb.imp_right fun ⟨f, h⟩ => by rw [h]; rfl
    | opened l =>
      rw [hc] at h he
      obtain ⟨ha, hb⟩ := h
      simp only [Channel.ends, List.mem_cons, List.not_mem_nil, or_false] at he
      rcases he with rfl | rfl
      · exact ha.imp_right fun ⟨x, q, n, h⟩ => by rw [h]; rfl
      · exact hb.imp_right fun ⟨x, q, n, h⟩ => by rw [h]; rfl
    | draining l cl dl =>
      rw [hc] at h he
      obtain ⟨ha, hb⟩ := h
      simp only [Channel.ends, List.mem_cons, List.not_mem_nil, or_false] at he
      rcases he with rfl | rfl
      · exact ha.imp_right fun ⟨x, q, n, h⟩ => by rw [h]; rfl
      · exact hb.imp_right fun ⟨x, q, n, h⟩ => by rw [h]; rfl
    | aborting a b cl k => rw [hc] at he; cases he
  have hgends {g : GroupId} {a : EpId} {l : List EpId} (hg : s.groupFace g = some (a, l)) :
      ∃ x, s.group g = .active x ∧ x.publisher = a ∧ x.members = l := Group.face_eq_some.1 hg
  refine ⟨fun e => backed_of_namesBack (hback e), fun c => ?_, fun c e he => ?_, fun g a l hg => ?_, fun g a l hg e he => ?_,
    fun e he => ?_, fun c e he hx => ?_, fun g a l hg e he hx => ?_⟩
  · have hr := (hchan c).1
    unfold State.face
    cases hc : s.channel c <;> rw [hc] at hr <;> simp [Channel.face, Face.ends]
    · exact hr.1
    · exact hr.1
    · exact hr.1
  · unfold State.face at he
    rw [Channel.ends_eq] at he
    exact (hends c e he).imp_left State.LeftBehind.gone
  · obtain ⟨x, hx, rfl, rfl⟩ := hgends hg
    obtain ⟨h1, -, h3, -⟩ := hgroup g x hx
    exact ⟨h1, h3⟩
  · obtain ⟨x, hx, rfl, rfl⟩ := hgends hg
    obtain ⟨-, -, -, -, h5, h6⟩ := hgroup g x hx
    rcases List.mem_cons.1 he with rfl | hm
    · exact h5.imp State.LeftBehind.gone fun h => by rw [h]; rfl
    · exact (h6 e hm).imp State.LeftBehind.gone fun ⟨q, n, h⟩ => by rw [h]; rfl
  · obtain ⟨-, -, hp⟩ := hout (portOf e)
    obtain ⟨-, -, -, ht, -⟩ := hp he.1
    have := ht he.2 (localOf e)
    rw [globalOf_localOf] at this
    exact (endpoint_eq_reset.1 this).1
  · unfold State.face at he
    rw [Channel.ends_eq] at he
    obtain ⟨-, -, hp⟩ := hout (portOf e)
    obtain ⟨-, -, -, -, hc, -⟩ := hp hx.1
    exact hc hx.2 c e he rfl
  · obtain ⟨x, hy, rfl, rfl⟩ := hgends hg
    obtain ⟨-, -, hp⟩ := hout (portOf e)
    obtain ⟨-, -, -, -, -, hc, -⟩ := hp hx.1
    refine hc hx.2 g e ?_ rfl
    rw [hy]
    exact he

theorem accounts_of_account {s : State} (h : s.AccountLaw) (c : ChanId) :
    (s.channel c).Accounts (s.recordsOn c) (s.transfersOn c) (s.EndsOfMessages c) := by
  have hc := h c
  cases hx : s.channel c with
  | free => rw [hx] at hc; exact hc
  | requested a b o dl => rw [hx] at hc; exact hc
  | opened l =>
    rw [hx] at hc
    obtain ⟨h1, h2, -, h4⟩ := hc
    exact ⟨h1, h2, h4⟩
  | draining l cl dl =>
    rw [hx] at hc
    obtain ⟨h1, h2, -, h4⟩ := hc
    exact ⟨h1, h2, h4⟩
  | aborting a b cl k =>
    rw [hx] at hc
    obtain ⟨h1, -, h3, h4⟩ := hc
    exact ⟨h1, h3, h4⟩

theorem holding_of_coherent {s : State} (h : s.Coherent) : s.Holding := by
  obtain ⟨hold, hqueue, -, hacc, hcopy, -, -, -, hunits⟩ := h
  refine ⟨fun r m dl hr => ?_, fun r m hr => ?_, fun p u hu => ?_, fun p u hu => ?_, fun e => ?_, fun e r hr => ?_,
    accounts_of_account hacc, hcopy⟩
  · have := hold r
    rw [hr] at this
    obtain ⟨-, h2⟩ := this
    exact h2
  · have := hold r
    rw [hr] at this
    obtain ⟨h1, -, -, -, h5⟩ := this
    exact ⟨h1, h5⟩
  · obtain ⟨⟨hs, -⟩, -⟩ := hunits p
    obtain ⟨-, -, -, h⟩ := hs u hu
    exact h
  · obtain ⟨-, hf, -⟩ := hunits p
    obtain ⟨-, -, -, h⟩ := hf u hu
    exact h
  · obtain ⟨h1, h2, -⟩ := hqueue e
    exact ⟨h1, h2⟩
  · obtain ⟨-, -, -, h4⟩ := hqueue e
    obtain ⟨m, dl, hm, hf, -⟩ := h4 r hr
    exact ⟨m, dl, hm, takes_of_entryFits hf⟩

theorem hushed_of_coherent {s : State} (h : s.Coherent) : s.Hushed := by
  obtain ⟨-, -, -, -, -, hout, -⟩ := h
  refine ⟨fun p hp => ?_, fun e he => ?_, fun p hp => ?_, fun p hp => ?_⟩
  · obtain ⟨-, -, ho⟩ := hout p
    obtain ⟨h1, h2, h3, -⟩ := ho hp
    exact ⟨h1, h2, h3⟩
  · obtain ⟨-, -, ho⟩ := hout (portOf e)
    obtain ⟨-, -, -, ht, -⟩ := ho he.1
    have := ht he.2 (localOf e)
    rw [globalOf_localOf] at this
    exact (endpoint_eq_reset.1 this).2
  · obtain ⟨-, -, ho⟩ := hout p
    obtain ⟨-, -, -, -, -, -, hr, -⟩ := ho hp.1
    exact hr hp.2
  · obtain ⟨-, -, ho⟩ := hout p
    obtain ⟨-, -, -, -, -, -, -, ha, -⟩ := ho hp.1
    exact ha hp.2

theorem geared_of_coherent {s : State} (h : s.Coherent) (p : Port) : s.Geared p := by
  obtain ⟨-, -, -, -, -, hout, -, -, hunits⟩ := h
  obtain ⟨⟨hs, -, hl, ha⟩, hf, -, hr, hb⟩ := hunits p
  obtain ⟨h1, h2, -⟩ := hout p
  have uncancelled {c : Bool} {q : Requester} {r : Report} (h : s.AtWork p c q r) (hc : c = false) : s.online p = true := by
    obtain ⟨-, ⟨-, ho⟩ | ⟨ht, -⟩⟩ := h
    · exact ho
    · rw [hc] at ht
      cases ht
  refine ⟨⟨h1, h2⟩, fun u hu => ?_, hl, ha, fun u hu => ?_, hr, hb⟩
  · obtain ⟨g1, g2, g3, -⟩ := hs u hu
    exact ⟨g1, g2, uncancelled g3⟩
  · obtain ⟨g1, g2, g3, -⟩ := hf u hu
    exact ⟨g1, g2, uncancelled g3⟩

theorem asked_of_coherent {s : State} (h : s.Coherent) : s.Asked := by
  obtain ⟨-, -, -, -, -, -, hlaw, -, hunits⟩ := h
  have last {p : Port} {c : Bool} {q : Requester} {r : Report} (h : s.AtWork p c q r) (hc : c = true) :
      s.arbiter.inProgress = some q := by
    obtain ⟨-, ⟨hf, -⟩ | ⟨-, -, hi⟩⟩ := h
    · rw [hc] at hf
      cases hf
    · exact hi
  refine ⟨hlaw, fun p => ⟨fun hq => ?_, fun hq => ?_⟩, fun p => ⟨fun hq => ?_, fun hq => ?_⟩, fun p u hu hc => ?_,
    fun p u hu hc => ?_⟩ <;> obtain ⟨⟨hs, hs', -⟩, hf, hf', -⟩ := hunits p
  · by_contra hn
    exact hs' (by simpa using hn) hq
  · obtain ⟨u, hu⟩ := Option.isSome_iff_exists.1 hq
    obtain ⟨-, -, ⟨hr, -⟩, -⟩ := hs u hu
    exact hr
  · by_contra hn
    exact hf' (by simpa using hn) hq
  · obtain ⟨u, hu⟩ := Option.isSome_iff_exists.1 hq
    obtain ⟨-, -, ⟨hr, -⟩, -⟩ := hf u hu
    exact hr
  · obtain ⟨-, -, hw, -⟩ := hs u hu
    exact last hw hc
  · obtain ⟨-, -, hw, -⟩ := hf u hu
    exact last hw hc

theorem sound_of_coherent {s : State} (h : s.Coherent) : s.Sound :=
  ⟨named_of_coherent h, holding_of_coherent h, hushed_of_coherent h, geared_of_coherent h, asked_of_coherent h⟩

theorem linkLaw_of_coherent {s : State} (h : s.Coherent) : s.LinkLaw := by
  obtain ⟨-, hqueue, ⟨-, hchan, hgroup⟩, -⟩ := h
  refine ⟨fun e => ?_, fun c => (hchan c).1, fun g => ?_⟩
  · obtain ⟨-, -, h3, -⟩ := hqueue e
    exact h3
  · cases hg : s.group g with
    | free => trivial
    | dissolving => trivial
    | active x =>
      obtain ⟨-, h2, -, h4, -⟩ := hgroup g x hg
      exact ⟨h2, h4⟩

theorem lengthLaw_of_coherent {s : State} (h : s.Coherent) : s.LengthLaw := by
  obtain ⟨-, -, -, -, -, -, -, h, -⟩ := h
  exact h

end Sys2Proof.Machine
end

section
/-! The coherence law from its parts. -/

namespace Sys2Proof.Machine

/-! ## What the naming says of one end -/

section
variable {role : EpId → Role} {face : ChanId → Face} {group : GroupId → Option (EpId × List EpId)}
  {out : Port → ShareBlock → Prop}

/-- An end that is gone: IDLE at a port whose endpoints are. -/
def Gone (role : EpId → Role) (out : Port → ShareBlock → Prop) (e : EpId) : Prop :=
  role e = .idle ∧ out (portOf e) .endpointTable

theorem Naming.caller (h : Naming role face group out) {c : ChanId} {a b : EpId} {o : Offer}
    (hf : face c = .request a b o) : Gone role out a ∨ role a = .calling c b := by
  have hback := h.backed a
  have hne : a ≠ b := by
    have := h.distinct c
    rw [hf] at this
    simpa [Face.ends] using this
  refine (h.ends c a (by rw [hf]; exact List.mem_cons_self)).imp_right fun hc => ?_
  cases hr : role a with
  | offered k x f y =>
    rw [hr] at hc hback
    cases hc
    cases hf.symm.trans hback
    exact absurd rfl hne
  | calling k x =>
    rw [hr] at hc hback
    cases hc
    obtain ⟨y, hy⟩ := hback
    cases hf.symm.trans hy
    rfl
  | connected k x q n =>
    rw [hr] at hc hback
    cases hc
    obtain ⟨w, hw | hw⟩ := hback <;> cases hf.symm.trans hw
  | closing k x q n =>
    rw [hr] at hc hback
    cases hc
    obtain ⟨w, hw | hw⟩ := hback <;> cases hf.symm.trans hw
  | idle => rw [hr] at hc; cases hc
  | listening f => rw [hr] at hc; cases hc
  | publisher g => rw [hr] at hc; cases hc
  | member g q n => rw [hr] at hc; cases hc

theorem Naming.callee (h : Naming role face group out) {c : ChanId} {a b : EpId} {o : Offer}
    (hf : face c = .request a b o) : Gone role out b ∨ ∃ f, role b = .offered c a f o := by
  have hback := h.backed b
  have hne : a ≠ b := by
    have := h.distinct c
    rw [hf] at this
    simpa [Face.ends] using this
  refine (h.ends c b (by rw [hf]; exact List.mem_cons_of_mem _ List.mem_cons_self)).imp_right fun hc => ?_
  cases hr : role b with
  | offered k x f y =>
    rw [hr] at hc hback
    cases hc
    cases hf.symm.trans hback
    exact ⟨f, rfl⟩
  | calling k x =>
    rw [hr] at hc hback
    cases hc
    obtain ⟨y, hy⟩ := hback
    cases hf.symm.trans hy
    exact absurd rfl hne
  | connected k x q n =>
    rw [hr] at hc hback
    cases hc
    obtain ⟨w, hw | hw⟩ := hback <;> cases hf.symm.trans hw
  | closing k x q n =>
    rw [hr] at hc hback
    cases hc
    obtain ⟨w, hw | hw⟩ := hback <;> cases hf.symm.trans hw
  | idle => rw [hr] at hc; cases hc
  | listening f => rw [hr] at hc; cases hc
  | publisher g => rw [hr] at hc; cases hc
  | member g q n => rw [hr] at hc; cases hc

/-- The role of an end of a channel that is OPEN, or DRAINING. -/
def Role.onLive (draining : Bool) (c : ChanId) (x : EpId) (q : List RecId) (n : Nat) : Role :=
  if draining then .closing c x q n else .connected c x q n

theorem Naming.liveEnd (h : Naming role face group out) {c : ChanId} {dr : Bool} {a b e : EpId} {w w' : Nat}
    (hf : face c = .live dr a b w w') (he : e = a ∨ e = b) :
    Gone role out e ∨ ∃ x q n, role e = Role.onLive dr c x q n := by
  have hback := h.backed e
  refine (h.ends c e (by rw [hf]; simpa [Face.ends] using he)).imp_right fun hc => ?_
  cases hr : role e with
  | offered k x f y =>
    rw [hr] at hc hback
    cases hc
    cases hf.symm.trans hback
  | calling k x =>
    rw [hr] at hc hback
    cases hc
    obtain ⟨y, hy⟩ := hback
    cases hf.symm.trans hy
  | connected k x q n =>
    rw [hr] at hc hback
    cases hc
    obtain ⟨v, hv | hv⟩ := hback <;> cases hf.symm.trans hv <;> exact ⟨_, q, _, rfl⟩
  | closing k x q n =>
    rw [hr] at hc hback
    cases hc
    obtain ⟨v, hv | hv⟩ := hback <;> cases hf.symm.trans hv <;> exact ⟨_, q, _, rfl⟩
  | idle => rw [hr] at hc; cases hc
  | listening f => rw [hr] at hc; cases hc
  | publisher g => rw [hr] at hc; cases hc
  | member g q n => rw [hr] at hc; cases hc

theorem Role.group?_eq_some {r : Role} {g : GroupId} :
    r.group? = some g ↔ r = .publisher g ∨ ∃ q n, r = .member g q n := by
  cases r <;> simp [Role.group?]

theorem Naming.publisher (h : Naming role face group out) {g : GroupId} {a : EpId} {l : List EpId}
    (hg : group g = some (a, l)) : Gone role out a ∨ role a = .publisher g := by
  have hback := h.backed a
  refine (h.members g a l hg a List.mem_cons_self).imp_right fun hc => ?_
  rcases Role.group?_eq_some.1 hc with hr | ⟨q, n, hr⟩
  · exact hr
  · rw [hr] at hback
    obtain ⟨-, a', l', hg', hm⟩ := hback
    cases hg.symm.trans hg'
    exact absurd hm (h.sound g a l hg).2

theorem Naming.member (h : Naming role face group out) {g : GroupId} {a e : EpId} {l : List EpId}
    (hg : group g = some (a, l)) (he : e ∈ l) : Gone role out e ∨ ∃ q n, role e = .member g q n := by
  have hback := h.backed e
  refine (h.members g a l hg e (List.mem_cons_of_mem _ he)).imp_right fun hc => ?_
  rcases Role.group?_eq_some.1 hc with hr | hr
  · rw [hr] at hback
    obtain ⟨l', hg'⟩ := hback
    cases hg.symm.trans hg'
    exact absurd he (h.sound g _ _ hg).2
  · exact hr

end

/-! ## Counting the holders -/

theorem entryCount_eq (s : State) (r : RecId) : s.entryCount r = ∑ e, (s.role e).queue.count r :=
  finRange_sum _

theorem entryCount_eq_zero {s : State} {r : RecId} (h : ∀ e, r ∉ (s.role e).queue) : s.entryCount r = 0 := by
  rw [entryCount_eq]
  exact Finset.sum_eq_zero fun e _ => List.count_eq_zero.2 (h e)

theorem fetches_iff {s : State} {p : Port} {r : RecId} : s.fetches p r ↔ ∃ u, (s.port p).fetchUnit = some u ∧ u.record = r := by
  unfold State.fetches
  simp

theorem sends_iff {s : State} {p : Port} {r : RecId} : s.sends p r ↔ ∃ u, (s.port p).sendUnit = some u ∧ u.record = r := by
  unfold State.sends
  simp

theorem fetchCount_eq_zero {s : State} {r : RecId} (h : ∀ p, ¬s.fetches p r) : s.fetchCount r = 0 := by
  unfold State.fetchCount
  rw [List.length_eq_zero_iff, List.filter_eq_nil_iff]
  intro p _ hp
  exact h p (fetches_iff.2 (by simpa using hp))

theorem copyInCount_eq_zero {s : State} {r : RecId} (h : ∀ p, ¬s.sends p r) : s.copyInCount r = 0 := by
  unfold State.copyInCount
  rw [List.length_eq_zero_iff, List.filter_eq_nil_iff]
  intro p _ hp
  exact h p (sends_iff.2 (by simpa using hp))

theorem filter_finRange_of_iff {n : Nat} {P : Fin n → Bool} {i : Fin n} (h : ∀ j, P j = true ↔ j = i) :
    ((List.finRange n).filter P).length = 1 := by
  rw [finRange_filter_length, Finset.sum_eq_single i]
  · exact if_pos ((h i).2 rfl)
  · exact fun j _ hj => if_neg fun x => hj ((h j).1 x)
  · exact fun hx => absurd (Finset.mem_univ i) hx

section
variable {s : State} (h : s.Holding)
include h

theorem State.Holding.live_of_fetches {p : Port} {r : RecId} (hf : s.fetches p r) : ∃ m dl, s.record r = .live m dl := by
  obtain ⟨u, hu, rfl⟩ := fetches_iff.1 hf
  obtain ⟨m, dl, hm, -⟩ := h.fetcher p u hu
  exact ⟨m, dl, hm⟩

theorem State.Holding.filling_of_sends {p : Port} {r : RecId} (hs : s.sends p r) :
    ∃ m, s.record r = .filling m ∧ portOf m.origin = p := by
  obtain ⟨u, hu, rfl⟩ := sends_iff.1 hs
  obtain ⟨m, hm, ho, -⟩ := h.sender p u hu
  exact ⟨m, hm, ho⟩

theorem State.Holding.entryCount_zero {r : RecId} (hr : ∀ m dl, s.record r ≠ .live m dl) : s.entryCount r = 0 :=
  entryCount_eq_zero fun e he => by
    obtain ⟨m, dl, hm, -⟩ := h.entry e r he
    exact hr m dl hm

theorem State.Holding.fetchCount_zero {r : RecId} (hr : ∀ m dl, s.record r ≠ .live m dl) : s.fetchCount r = 0 :=
  fetchCount_eq_zero fun p hp => by
    obtain ⟨m, dl, hm⟩ := h.live_of_fetches hp
    exact hr m dl hm

theorem State.Holding.copyInCount_zero {r : RecId} (hr : ∀ m, s.record r ≠ .filling m) : s.copyInCount r = 0 :=
  copyInCount_eq_zero fun p hp => by
    obtain ⟨m, hm, -⟩ := h.filling_of_sends hp
    exact hr m hm

theorem State.Holding.holderLaw : s.HolderLaw := by
  intro r
  cases hr : s.record r with
  | free =>
    exact ⟨h.entryCount_zero (by simp [hr]), h.fetchCount_zero (by simp [hr]), h.copyInCount_zero (by simp [hr])⟩
  | filling m =>
    obtain ⟨h1, h2⟩ := h.filling r m hr
    refine ⟨h1, h.entryCount_zero (by simp [hr]), h.fetchCount_zero (by simp [hr]), ?_, h2⟩
    refine filter_finRange_of_iff (i := portOf m.origin) fun p => ⟨fun hp => ?_, fun hp => ?_⟩
    · obtain ⟨m', hm', ho⟩ := h.filling_of_sends (p := p) (r := r) (sends_iff.2 (by simpa using hp))
      cases hr.symm.trans hm'
      exact ho.symm
    · subst hp
      simpa using sends_iff.1 h2
  | live m dl => exact ⟨h.copyInCount_zero (by simp [hr]), h.live r m dl hr⟩

end

/-! ## The parts put together -/

theorem reachable_of_not_out {s : State} {p : Port} {b : ShareBlock} (h : ¬s.out p b) :
    s.online p = true ∨ (s.port p).state.isResetting = true := by
  by_cases ho : s.online p = true
  · exact .inl ho
  · refine .inr (isResetting_of_awaits (r := .share b) ?_)
    by_contra ha
    exact h ⟨by simpa using ho, by simpa using ha⟩

theorem Role.ne_idle_of_mem {r : Role} {k : RecId} (h : k ∈ r.queue) : r ≠ .idle := by
  rintro rfl
  cases h

theorem Face.receiver?_eq_some {f : Face} {d : Dirn} {e : EpId} (h : f.receiver? d = some e) :
    ∃ dr a b w w', f = .live dr a b w w' ∧ (d = .callerToCallee ∧ e = b ∨ d = .calleeToCaller ∧ e = a) := by
  cases f with
  | none => cases h
  | request a b o => cases h
  | live dr a b w w' =>
    cases d <;> cases h
    · exact ⟨dr, _, _, w, w', rfl, .inl ⟨rfl, rfl⟩⟩
    · exact ⟨dr, _, _, w, w', rfl, .inr ⟨rfl, rfl⟩⟩

/-- The ends of a live channel's messages are those it names. -/
theorem State.Holding.ends_of_face {s : State} (h : s.Holding) {c : ChanId} {dr : Bool} {a b : EpId} {w w' : Nat}
    (hf : s.face c = .live dr a b w w') : s.EndsOfMessages c a b := by
  have hacc := h.account c
  obtain ⟨l, rfl, rfl, -, -, ⟨-, hl⟩ | ⟨-, cl, dl, hl⟩⟩ := Channel.face_eq_live.1 hf
  · rw [hl] at hacc
    obtain ⟨-, -, he⟩ := hacc
    exact he
  · rw [hl] at hacc
    obtain ⟨-, -, he⟩ := hacc
    exact he

/-- A message in a queue comes from an end or a publisher that its link's owner still has. -/
theorem origin_reachable {s : State} (hn : s.Named) (hh : s.Holding) {e : EpId} {r : RecId} {m : Message} {dl : Option Time}
    (hr : s.record r = .live m dl) (ht : (s.role e).Takes e s.face s.groupFace m.origin m.link) :
    ∃ b, ¬s.out (portOf m.origin) b := by
  have on_channel {c : ChanId} (h : ∃ d, m.link = .channel c d ∧ (s.face c).receiver? d = some e) :
      ∃ b, ¬s.out (portOf m.origin) b := by
    obtain ⟨d, hk, hd⟩ := h
    obtain ⟨dr, a, b, w, w', hf, -⟩ := Face.receiver?_eq_some hd
    have ho := (hh.ends_of_face hf r m d (by rw [hr]; rfl) hk).1
    have hmem : m.origin ∈ (s.face c).ends := by
      rw [hf, ho]
      cases d <;> simp [Face.ends]
    exact ⟨_, hn.noEnd c _ hmem⟩
  cases hrole : s.role e with
  | connected c x q n =>
    rw [hrole] at ht
    exact on_channel ht
  | closing c x q n =>
    rw [hrole] at ht
    exact on_channel ht
  | member g q n =>
    rw [hrole] at ht
    obtain ⟨-, l, hl⟩ := ht
    exact ⟨_, hn.noMember g _ _ hl _ List.mem_cons_self⟩
  | idle => rw [hrole] at ht; exact ht.elim
  | listening f => rw [hrole] at ht; exact ht.elim
  | offered c a f o => rw [hrole] at ht; exact ht.elim
  | calling c b => rw [hrole] at ht; exact ht.elim
  | publisher g => rw [hrole] at ht; exact ht.elim

/-- What a role may hold fits the endpoint, for the role is backed. -/
theorem entryFits_of_takes {s : State} {e : EpId} {m : Message} (hb : (s.role e).Backed e s.face s.groupFace)
    (ht : (s.role e).Takes e s.face s.groupFace m.origin m.link) : s.EntryFits e m := by
  unfold State.EntryFits
  cases hr : s.role e with
  | connected c x q n =>
    rw [hr] at hb ht
    obtain ⟨d, hk, hd⟩ := ht
    obtain ⟨w, hw⟩ := hb
    have hface : ∃ a b w w', s.face c = .live false a b w w' := by
      rcases hw with hw | hw <;> exact ⟨_, _, _, _, hw⟩
    obtain ⟨a, b, v, v', hf⟩ := hface
    obtain ⟨l, rfl, rfl, -, -, ⟨-, hl⟩ | ⟨hx, -⟩⟩ := Channel.face_eq_live.1 hf
    · refine ⟨l, d, hl, hk, ?_⟩
      rw [hf] at hd
      cases d <;> cases hd <;> rfl
    · cases hx
  | closing c x q n =>
    rw [hr] at hb ht
    obtain ⟨d, hk, hd⟩ := ht
    obtain ⟨w, hw⟩ := hb
    have hface : ∃ a b w w', s.face c = .live true a b w w' := by
      rcases hw with hw | hw <;> exact ⟨_, _, _, _, hw⟩
    obtain ⟨a, b, v, v', hf⟩ := hface
    obtain ⟨l, rfl, rfl, -, -, ⟨hx, -⟩ | ⟨-, cl, dl, hl⟩⟩ := Channel.face_eq_live.1 hf
    · cases hx
    · refine ⟨l, cl, dl, d, hl, hk, ?_⟩
      rw [hf] at hd
      cases d <;> cases hd <;> rfl
  | member g q n =>
    rw [hr] at ht
    obtain ⟨hk, l, hl⟩ := ht
    obtain ⟨y, hy, ho, -⟩ := Group.face_eq_some.1 hl
    exact ⟨y, hy, hk, ho.symm⟩
  | idle => rw [hr] at ht; exact ht
  | listening f => rw [hr] at ht; exact ht
  | offered c a f o => rw [hr] at ht; exact ht
  | calling c b => rw [hr] at ht; exact ht
  | publisher g => rw [hr] at ht; exact ht

theorem queueLaw_of_sound {s : State} (hl : s.LinkLaw) (h : s.Sound) : s.QueueLaw := by
  intro e
  obtain ⟨h1, h2⟩ := h.holding.queue e
  refine ⟨h1, h2, hl.1 e, fun r hr => ?_⟩
  obtain ⟨m, dl, hm, ht⟩ := h.holding.entry e r hr
  refine ⟨m, dl, hm, entryFits_of_takes (h.named.backed e) ht, fun p hp => ?_⟩
  simp only [List.mem_cons, List.not_mem_nil, or_false] at hp
  rcases hp with rfl | rfl
  · exact reachable_of_not_out fun hx => Role.ne_idle_of_mem hr (h.named.idle e hx)
  · obtain ⟨b, hb⟩ := origin_reachable h.named h.holding hm ht
    exact reachable_of_not_out hb

theorem namesLaw_of_sound {s : State} (hl : s.LinkLaw) (h : s.Sound) : s.NamesLaw := by
  have hn := h.named
  refine ⟨fun e => namesBack_of_backed (hn.backed e), fun c => ⟨hl.2.1 c, ?_⟩, fun g x hx => ?_⟩
  · have left {e : EpId} (he : e ∈ (s.face c).ends) (hg : Gone s.role s.out e) : s.LeftBehind e :=
      leftBehind_of_gone (hn.noEnd c e he) hg
    cases hc : s.channel c with
    | free => trivial
    | requested a b o dl =>
      have hf : s.face c = .request a b o := congrArg Channel.face hc
      have ha : a ∈ (s.face c).ends := by rw [hf]; simp [Face.ends]
      have hb : b ∈ (s.face c).ends := by rw [hf]; simp [Face.ends]
      exact ⟨(hn.caller hf).imp_left (left ha), (hn.callee hf).imp_left (left hb)⟩
    | opened l =>
      have hf : s.face c = .live false l.caller l.callee _ _ := congrArg Channel.face hc
      have ha : l.caller ∈ (s.face c).ends := by rw [hf]; simp [Face.ends]
      have hb : l.callee ∈ (s.face c).ends := by rw [hf]; simp [Face.ends]
      exact ⟨(hn.liveEnd hf (.inl rfl)).imp_left (left ha), (hn.liveEnd hf (.inr rfl)).imp_left (left hb)⟩
    | draining l cl dl =>
      have hf : s.face c = .live true l.caller l.callee _ _ := congrArg Channel.face hc
      have ha : l.caller ∈ (s.face c).ends := by rw [hf]; simp [Face.ends]
      have hb : l.callee ∈ (s.face c).ends := by rw [hf]; simp [Face.ends]
      exact ⟨(hn.liveEnd hf (.inl rfl)).imp_left (left ha), (hn.liveEnd hf (.inr rfl)).imp_left (left hb)⟩
    | aborting a b cl k => trivial
  · have hf : s.groupFace g = some (x.publisher, x.members) := congrArg Group.face hx
    have hr := hl.2.2 g
    rw [hx] at hr
    obtain ⟨hlen, hmax⟩ := hr
    obtain ⟨h1, h2⟩ := hn.sound g _ _ hf
    have left {e : EpId} (he : e ∈ x.publisher :: x.members) (hg : Gone s.role s.out e) : s.LeftBehind e :=
      leftBehind_of_gone (hn.noMember g _ _ hf e he) hg
    exact ⟨h1, hlen, h2, hmax, (hn.publisher hf).imp_left (left List.mem_cons_self),
      fun m hm => (hn.member hf hm).imp_left (left (List.mem_cons_of_mem _ hm))⟩

theorem length_le_two {P : Port → Bool} {a b : Port} (h : ∀ p, P p = true → p = a ∨ p = b) :
    ((List.finRange 4).filter P).length ≤ 2 := by
  have hsub : (List.finRange 4).filter P ⊆ [a, b] := fun p hp => by
    simpa using h p (List.mem_filter.1 hp).2
  exact (List.subperm_of_subset ((List.nodup_finRange 4).filter P) hsub).length_le

theorem isOn_iff {s : State} {c : ChanId} {r : RecId} :
    s.isOn c r = true ↔ ∃ m d, (s.record r).message? = some m ∧ m.link = .channel c d := by
  unfold State.isOn
  rw [decide_eq_true_iff]
  constructor
  · rintro (h | h)
    · obtain ⟨m, hm, hk⟩ := Option.map_eq_some_iff.1 h
      exact ⟨m, _, hm, hk⟩
    · obtain ⟨m, hm, hk⟩ := Option.map_eq_some_iff.1 h
      exact ⟨m, _, hm, hk⟩
  · rintro ⟨m, d, hm, hk⟩
    rw [hm]
    cases d
    · exact .inl (congrArg some hk)
    · exact .inr (congrArg some hk)

/-- The transfers of a channel are at its two ends, two at each. -/
theorem State.Holding.transfers_le {s : State} (h : s.Holding) {c : ChanId} {a b : EpId} (he : s.EndsOfMessages c a b) :
    s.transfersOn c ≤ 4 := by
  refine (Nat.add_le_add (length_le_two (a := portOf a) (b := portOf b) fun p hp => ?_)
    (length_le_two (a := portOf a) (b := portOf b) fun p hp => ?_) : _ ≤ 2 + 2)
  · simp only [decide_eq_true_eq, Option.map_eq_some_iff] at hp
    obtain ⟨u, hu, hon⟩ := hp
    obtain ⟨m, d, hm, hk⟩ := isOn_iff.1 hon
    obtain ⟨m', hm', ho, -⟩ := h.sender p u hu
    rw [hm'] at hm
    cases hm
    have := (he u.record m d (by rw [hm']; rfl) hk).1
    cases d
    · exact .inl (by rw [← ho, this])
    · exact .inr (by rw [← ho, this])
  · simp only [decide_eq_true_eq, Option.map_eq_some_iff] at hp
    obtain ⟨u, hu, hon⟩ := hp
    obtain ⟨m, d, hm, hk⟩ := isOn_iff.1 hon
    have := (he u.record m d hm hk).2 p (fetches_iff.2 ⟨u, hu, rfl⟩)
    cases d
    · exact .inr this
    · exact .inl this

theorem State.Holding.accountLaw {s : State} (h : s.Holding) : s.AccountLaw := by
  intro c
  have hc := h.account c
  cases hx : s.channel c with
  | free => rw [hx] at hc; exact hc
  | requested a b o dl => rw [hx] at hc; exact hc
  | opened l =>
    rw [hx] at hc
    obtain ⟨h1, h2, h3⟩ := hc
    exact ⟨h1, h2, h2.trans_le (h.transfers_le h3), h3⟩
  | draining l cl dl =>
    rw [hx] at hc
    obtain ⟨h1, h2, h3⟩ := hc
    exact ⟨h1, h2, h2.trans_le (h.transfers_le h3), h3⟩
  | aborting a b cl k =>
    rw [hx] at hc
    obtain ⟨h1, h2, h3⟩ := hc
    exact ⟨h1, h2.trans_le (h.transfers_le h3), h2, h3⟩

theorem outOfServiceLaw_of_sound {s : State} (h : s.Sound) : s.OutOfServiceLaw := by
  intro p
  have hg := h.geared p
  refine ⟨hg.due.1, hg.due.2, fun ho => ?_⟩
  obtain ⟨h1, h2, h3⟩ := h.hushed.buffers p ho
  refine ⟨h1, h2, h3, fun ha e => ?_, fun ha c e he hp => ?_, fun ha g e he hp => ?_, fun ha => ?_, fun ha => ?_,
    fun ha => ?_, fun ha => ?_⟩
  · have hx : s.out (portOf (globalOf p e)) .endpointTable := by
      rw [portOf_globalOf]
      exact ⟨ho, ha⟩
    exact endpoint_eq_reset.2 ⟨h.named.idle _ hx, h.hushed.blank _ hx⟩
  · rw [← Channel.ends_eq] at he
    exact h.named.noEnd c e he (by rw [hp]; exact ⟨ho, ha⟩)
  · cases hx : s.group g with
    | active x =>
      rw [hx] at he
      exact h.named.noMember g _ _ (congrArg Group.face hx) e he (by rw [hp]; exact ⟨ho, ha⟩)
    | free => rw [hx] at he; cases he
    | dissolving => rw [hx] at he; cases he
  · exact h.hushed.receipts p ⟨ho, ha⟩
  · exact h.hushed.attention p ⟨ho, ha⟩
  · by_contra hn
    obtain ⟨u, hu⟩ := Option.ne_none_iff_exists'.1 hn
    obtain ⟨-, -, hc⟩ := hg.send u hu
    cases hk : u.cancelled with
    | false =>
      rw [hc hk] at ho
      cases ho
    | true =>
      rw [hg.sendStopped.2 ⟨u, hu, hk⟩] at ha
      cases ha
  · by_contra hn
    obtain ⟨u, hu⟩ := Option.ne_none_iff_exists'.1 hn
    obtain ⟨-, -, hc⟩ := hg.fetch u hu
    cases hk : u.cancelled with
    | false =>
      rw [hc hk] at ho
      cases ho
    | true =>
      rw [hg.fetchStopped.2 ⟨u, hu, hk⟩] at ha
      cases ha

theorem unitLaw_of_sound {s : State} (hlen : s.LengthLaw) (h : s.Sound) : s.UnitLaw := by
  have hA := h.asked
  refine ⟨hA.law, hlen, fun p => ?_⟩
  have hg := h.geared p
  refine ⟨⟨fun u hu => ?_, fun hu hq => ?_, hg.locked, hg.sendStopped⟩,
    ⟨fun u hu => ?_, fun hu hq => ?_, hg.reading, hg.fetchStopped⟩⟩
  · obtain ⟨h1, h2, h3⟩ := hg.send u hu
    refine ⟨h1, h2, ⟨(hA.send p).2 (by rw [hu]; rfl), ?_⟩, h.holding.sender p u hu⟩
    cases hc : u.cancelled with
    | false => exact .inl ⟨rfl, h3 hc⟩
    | true => exact .inr ⟨rfl, hg.sendStopped.2 ⟨u, hu, hc⟩, hA.sendLast p u hu hc⟩
  · have := (hA.send p).1 hq
    rw [hu] at this
    cases this
  · obtain ⟨h1, h2, h3⟩ := hg.fetch u hu
    refine ⟨h1, h2, ⟨(hA.fetch p).2 (by rw [hu]; rfl), ?_⟩, h.holding.fetcher p u hu⟩
    cases hc : u.cancelled with
    | false => exact .inl ⟨rfl, h3 hc⟩
    | true => exact .inr ⟨rfl, hg.fetchStopped.2 ⟨u, hu, hc⟩, hA.fetchLast p u hu hc⟩
  · have := (hA.fetch p).1 hq
    rw [hu] at this
    cases this

/-- The parts together are the law. -/
theorem coherent_of_sound {s : State} (hl : s.LinkLaw) (hlen : s.LengthLaw) (h : s.Sound) : s.Coherent :=
  ⟨h.holding.holderLaw, queueLaw_of_sound hl h, namesLaw_of_sound hl h, h.holding.accountLaw, h.holding.copies,
    outOfServiceLaw_of_sound h, unitLaw_of_sound hlen h⟩

end Sys2Proof.Machine
end

section
/-! A view of the state for the laws of naming and holding: what those laws read, as functions, with all else left
out. -/

namespace Sys2Proof.Machine

/-! ## The parts of a record, a channel and a group that the laws read -/

/-- A message without what its reads, its endings and its origin's port write into it. -/
def Message.norm (m : Message) : Message :=
  { m with
    badMarks := []
    damaged := false
    receiptRequested := false
    tallies := { fetched := 0, expired := 0, discarded := 0, skipped := 0 } }

def MsgRecord.norm : MsgRecord → MsgRecord
  | .free => .free
  | .filling m => .filling m.norm
  | .live m _ => .live m.norm none

def Direction.norm (x : Direction) : Direction :=
  { x with nextSequence := 0#16 }

def LiveChannel.norm (l : LiveChannel) : LiveChannel :=
  { l with toCallee := l.toCallee.norm, toCaller := l.toCaller.norm }

def Channel.norm : Channel → Channel
  | .free => .free
  | .requested a b o d => .requested a b o d
  | .opened l => .opened l.norm
  | .draining l _ d => .draining l.norm { caller := false, callee := false } d
  | .aborting a b _ k => .aborting a b { caller := false, callee := false } k

def Group.norm : Group → Group
  | .free => .free
  | .active x => .active { x with policy := .opened, nextSequence := 0#16 }
  | .dissolving => .dissolving

/-- What the laws read of the state. A transfer unit stands as its record and the positions it has and has had, a Send
Unit with its kind. -/
@[ext] structure View where
  role : EpId → Role
  record : RecId → MsgRecord
  channel : ChanId → Channel
  group : GroupId → Group
  send : Port → Option (RecId × Nat × MsgKind)
  fetch : Port → Option (RecId × Nat)
  out : Port → ShareBlock → Prop

def CopyIn.span (u : CopyIn) : RecId × Nat × MsgKind :=
  (u.record, u.next + u.remaining, u.kind)

def CopyOut.span (u : CopyOut) : RecId × Nat :=
  (u.record, u.next + u.remaining)

def State.view (s : State) : View where
  role := s.role
  record r := (s.record r).norm
  channel c := (s.channel c).norm
  group g := (s.group g).norm
  send p := (s.port p).sendUnit.map CopyIn.span
  fetch p := (s.port p).fetchUnit.map CopyOut.span
  out := s.out

/-! ## Counts over a view -/

def View.entries (v : View) (r : RecId) : Nat :=
  ∑ e, (v.role e).queue.count r

def View.reads (v : View) (r : RecId) : Nat :=
  ∑ p, if (v.fetch p).map Prod.fst = some r then 1 else 0

/-- The link of a record that is not FREE. -/
def MsgRecord.link? (x : MsgRecord) : Option RecLink :=
  x.message?.map Message.link

def View.recordsOn (v : View) (c : ChanId) (d : Dirn) : Nat :=
  ∑ r, if (v.record r).link? = some (.channel c d) then 1 else 0

/-- The link is channel c, in either direction. -/
def onChannel (c : ChanId) : Option RecLink → Bool
  | some (.channel k _) => decide (k = c)
  | some (.group _) => false
  | none => false

/-- A transfer of record r, if there is one, counts on channel c. -/
def View.weight (v : View) (c : ChanId) : Option RecId → Nat
  | some r => if onChannel c (v.record r).link? then 1 else 0
  | none => 0

def View.transfersOn (v : View) (c : ChanId) : Nat :=
  ∑ p, v.weight c ((v.send p).map Prod.fst) + ∑ p, v.weight c ((v.fetch p).map Prod.fst)

/-- The end that sends, and the end that receives, on a direction between caller a and callee b. -/
def Dirn.sender (a b : EpId) : Dirn → EpId
  | .callerToCallee => a
  | .calleeToCaller => b

def Dirn.receiver (a b : EpId) : Dirn → EpId
  | .callerToCallee => b
  | .calleeToCaller => a

/-- Messages of a channel with these ends come from the sending end and are fetched at the other's port. -/
def View.Ends (v : View) (c : ChanId) (a b : EpId) : Prop :=
  ∀ r m d, (v.record r).message? = some m → m.link = .channel c d →
    m.origin = d.sender a b ∧ ∀ p, (v.fetch p).map Prod.fst = some r → p = portOf (d.receiver a b)

def MsgRecord.fills (g : GroupId) : MsgRecord → Bool
  | .free => false
  | .filling m => decide (m.link = .group g)
  | .live _ _ => false

def View.copiesOf (v : View) (g : GroupId) : Nat :=
  ∑ r, if (v.record r).fills g then 1 else 0

/-- The copy-ins of group g are those of publisher a. -/
def View.Copier (v : View) (g : GroupId) (a : EpId) : Prop :=
  ∀ r m, v.record r = .filling m → m.link = .group g → m.origin = a

/-- What a group keeps of its copy-in agrees with the copy-ins of it. -/
def Group.Copies (x : Group) (n : Nat) (copier : EpId → Prop) : Prop :=
  match x with
  | .free => n = 0
  | .active x => n = (if x.copyInFlight then 1 else 0) ∧ copier x.publisher
  | .dissolving => n = 1

/-! ## The laws over a view -/

def View.face (v : View) (c : ChanId) : Face :=
  (v.channel c).face

def View.groupFace (v : View) (g : GroupId) : Option (EpId × List EpId) :=
  (v.group g).face

/-- Records, queues and transfer units agree. -/
structure View.Held (v : View) : Prop where
  live : ∀ r m dl, v.record r = .live m dl →
    m.count = v.entries r + v.reads r ∧ 1 ≤ m.count ∧ m.count ≤ 12 ∧ (m.isGroup = false → m.count = 1)
  filling : ∀ r m, v.record r = .filling m → m.count = 1 ∧ ∃ x, v.send (portOf m.origin) = some (r, x)
  sender : ∀ p r n k, v.send p = some (r, n, k) → ∃ m, v.record r = .filling m ∧ portOf m.origin = p ∧
    n = m.blocks.length ∧ (k = .group ↔ m.isGroup = true)
  fetcher : ∀ p r n, v.fetch p = some (r, n) → ∃ m dl, v.record r = .live m dl ∧ n = m.blocks.length
  queue : ∀ e, (v.role e).queue.Nodup ∧ (v.role e).queue.length ≤ (v.role e).depth
  entry : ∀ e, ∀ r ∈ (v.role e).queue, ∃ m dl, v.record r = .live m dl ∧
    (v.role e).Takes e v.face v.groupFace m.origin m.link

structure View.Holding (v : View) : Prop extends View.Held v where
  account : ∀ c, (v.channel c).Accounts (v.recordsOn c) (v.transfersOn c) (v.Ends c)
  copies : ∀ g, (v.group g).Copies (v.copiesOf g) (v.Copier g)

structure View.Law (v : View) : Prop where
  named : Naming v.role v.face v.groupFace v.out
  holding : v.Holding

/-! ## The view of a state and its laws -/

@[simp] theorem Channel.norm_face (x : Channel) : x.norm.face = x.face := by
  cases x <;> rfl

@[simp] theorem Group.norm_face (x : Group) : x.norm.face = x.face := by
  cases x <;> rfl

@[simp] theorem view_face (s : State) : s.view.face = s.face :=
  funext fun c => Channel.norm_face (s.channel c)

@[simp] theorem view_groupFace (s : State) : s.view.groupFace = s.groupFace :=
  funext fun g => Group.norm_face (s.group g)

@[simp] theorem MsgRecord.norm_link? (x : MsgRecord) : x.norm.link? = x.link? := by
  cases x <;> rfl

theorem MsgRecord.norm_message? (x : MsgRecord) : x.norm.message? = x.message?.map Message.norm := by
  cases x <;> rfl

theorem MsgRecord.norm_eq_filling {x : MsgRecord} {m : Message} :
    x.norm = .filling m ↔ ∃ m', x = .filling m' ∧ m'.norm = m := by
  cases x <;> simp [MsgRecord.norm]

theorem MsgRecord.norm_eq_live {x : MsgRecord} {m : Message} {dl : Option Time} :
    x.norm = .live m dl ↔ dl = none ∧ ∃ m' d, x = .live m' d ∧ m'.norm = m := by
  cases x <;> simp [MsgRecord.norm]
  exact ⟨fun h => ⟨h.2.symm, h.1⟩, fun h => ⟨h.2, h.1.symm⟩⟩

theorem view_entries (s : State) (r : RecId) : s.view.entries r = s.entryCount r :=
  (entryCount_eq s r).symm

theorem view_fetch_fst (s : State) (p : Port) : (s.view.fetch p).map Prod.fst = (s.port p).fetchUnit.map CopyOut.record := by
  show ((s.port p).fetchUnit.map CopyOut.span).map Prod.fst = _
  rw [Option.map_map]
  rfl

theorem view_send_fst (s : State) (p : Port) : (s.view.send p).map Prod.fst = (s.port p).sendUnit.map CopyIn.record := by
  show ((s.port p).sendUnit.map CopyIn.span).map Prod.fst = _
  rw [Option.map_map]
  rfl

theorem view_reads (s : State) (r : RecId) : s.view.reads r = s.fetchCount r := by
  unfold State.fetchCount View.reads
  rw [finRange_filter_length]
  refine Finset.sum_congr rfl fun p _ => ?_
  rw [view_fetch_fst]
  simp

theorem view_link (s : State) (r : RecId) : (s.view.record r).link? = (s.record r).link? :=
  MsgRecord.norm_link? _

theorem view_recordsOn (s : State) (c : ChanId) (d : Dirn) : s.view.recordsOn c d = s.recordsOn c d := by
  unfold State.recordsOn View.recordsOn
  rw [finRange_filter_length]
  refine Finset.sum_congr rfl fun r _ => ?_
  rw [if_congr (by rw [view_link]) rfl rfl]
  simp [MsgRecord.link?]

theorem onChannel_eq (c : ChanId) (k : Option RecLink) :
    onChannel c k = decide (k = some (.channel c .callerToCallee) ∨ k = some (.channel c .calleeToCaller)) := by
  cases k with
  | none => simp [onChannel]
  | some k =>
    cases k with
    | group g => simp [onChannel]
    | channel k d => cases d <;> simp [onChannel]

theorem isOn_eq (s : State) (c : ChanId) (r : RecId) : s.isOn c r = onChannel c (s.record r).link? := by
  unfold State.isOn MsgRecord.link?
  rw [onChannel_eq]

theorem view_transfersOn (s : State) (c : ChanId) : s.view.transfersOn c = s.transfersOn c := by
  unfold State.transfersOn View.transfersOn
  rw [finRange_filter_length, finRange_filter_length]
  refine congr_arg₂ (· + ·) (Finset.sum_congr rfl fun p _ => ?_) (Finset.sum_congr rfl fun p _ => ?_)
  · rw [view_send_fst]
    cases (s.port p).sendUnit with
    | none => rfl
    | some u => simp [View.weight, isOn_eq, State.view]
  · rw [view_fetch_fst]
    cases (s.port p).fetchUnit with
    | none => rfl
    | some u => simp [View.weight, isOn_eq, State.view]

theorem view_ends (s : State) (c : ChanId) (a b : EpId) : s.view.Ends c a b ↔ s.EndsOfMessages c a b := by
  constructor
  · intro h r m d hm hk
    have hm' : (s.view.record r).message? = some m.norm := by
      show (s.record r).norm.message? = _
      rw [MsgRecord.norm_message?, hm]
      rfl
    obtain ⟨h1, h2⟩ := h r m.norm d hm' hk
    simp only [view_fetch_fst] at h2
    cases d <;> exact ⟨h1, h2⟩
  · intro h r m d hm hk
    change (s.record r).norm.message? = some m at hm
    rw [MsgRecord.norm_message?] at hm
    obtain ⟨m', hm', rfl⟩ := Option.map_eq_some_iff.1 hm
    obtain ⟨h1, h2⟩ := h r m' d hm' hk
    simp only [view_fetch_fst]
    cases d <;> exact ⟨h1, h2⟩

theorem MsgRecord.norm_fills (x : MsgRecord) (g : GroupId) : x.norm.fills g = x.fills g := by
  cases x <;> rfl

theorem view_copiesOf (s : State) (g : GroupId) : s.view.copiesOf g = s.copiesOf g := by
  unfold State.copiesOf View.copiesOf
  rw [finRange_filter_length]
  refine Finset.sum_congr rfl fun r _ => ?_
  show (if (s.record r).norm.fills g then 1 else 0) = _
  rw [MsgRecord.norm_fills]
  cases s.record r <;> rfl

theorem Channel.norm_accounts (x : Channel) (records : Dirn → Nat) (transfers : Nat) (ends : EpId → EpId → Prop) :
    x.norm.Accounts records transfers ends ↔ x.Accounts records transfers ends := by
  have hdir (l : LiveChannel) (d : Dirn) : l.norm.direction d = (l.direction d).norm := by cases d <;> rfl
  cases x with
  | opened l =>
    show ((∀ d, (l.norm.direction d).credits + _ = _ ∧ _) ∧ _) ↔ _
    simp only [hdir]
    exact Iff.rfl
  | draining l cl dl =>
    show ((∀ d, (l.norm.direction d).credits + _ = _ ∧ _) ∧ _) ↔ _
    simp only [hdir]
    exact Iff.rfl
  | free => exact Iff.rfl
  | requested a b o dl => exact Iff.rfl
  | aborting a b cl k => exact Iff.rfl

theorem view_copies (s : State) : (∀ g, (s.view.group g).Copies (s.view.copiesOf g) (s.view.Copier g)) ↔ s.CopyLaw := by
  have hcopier (g : GroupId) (a : EpId) :
      s.view.Copier g a ↔ ∀ r m, s.record r = .filling m → m.link = .group g → m.origin = a := by
    constructor
    · exact fun h r m hm hk => h r m.norm (MsgRecord.norm_eq_filling.2 ⟨m, hm, rfl⟩) hk
    · intro h r m hm hk
      obtain ⟨m', hm', rfl⟩ := MsgRecord.norm_eq_filling.1 hm
      exact h r m' hm' hk
  refine forall_congr' fun g => ?_
  show (s.group g).norm.Copies _ _ ↔ _
  rw [view_copiesOf]
  cases s.group g with
  | active x => exact and_congr_right fun _ => hcopier g x.publisher
  | free => exact Iff.rfl
  | dissolving => exact Iff.rfl

theorem holding_view {s : State} (h : s.Holding) : s.view.Holding := by
  refine ⟨⟨fun r m dl hr => ?_, fun r m hr => ?_, fun p r n k hp => ?_, fun p r n hp => ?_, h.queue, fun e r hr => ?_⟩,
    fun c => ?_, (view_copies s).2 h.copies⟩
  · obtain ⟨-, m', d, hm, rfl⟩ := MsgRecord.norm_eq_live.1 hr
    rw [view_entries, view_reads]
    exact h.live r m' d hm
  · obtain ⟨m', hm, rfl⟩ := MsgRecord.norm_eq_filling.1 hr
    obtain ⟨h1, h2⟩ := h.filling r m' hm
    obtain ⟨u, hu, rfl⟩ := sends_iff.1 h2
    refine ⟨h1, (u.next + u.remaining, u.kind), ?_⟩
    show ((s.port (portOf m'.origin)).sendUnit.map CopyIn.span) = _
    rw [hu]
    rfl
  · obtain ⟨u, hu, hx⟩ := Option.map_eq_some_iff.1 hp
    cases hx
    obtain ⟨m, hm, ho, hn, hk⟩ := h.sender p u hu
    exact ⟨m.norm, MsgRecord.norm_eq_filling.2 ⟨m, hm, rfl⟩, ho, hn, hk⟩
  · obtain ⟨u, hu, hx⟩ := Option.map_eq_some_iff.1 hp
    cases hx
    obtain ⟨m, dl, hm, hn⟩ := h.fetcher p u hu
    exact ⟨m.norm, none, MsgRecord.norm_eq_live.2 ⟨rfl, m, dl, hm, rfl⟩, hn⟩
  · obtain ⟨m, dl, hm, ht⟩ := h.entry e r hr
    rw [view_face, view_groupFace]
    exact ⟨m.norm, none, MsgRecord.norm_eq_live.2 ⟨rfl, m, dl, hm, rfl⟩, ht⟩
  · have hc := h.account c
    rw [show s.view.recordsOn c = s.recordsOn c from funext (view_recordsOn s c), view_transfersOn,
      show s.view.Ends c = s.EndsOfMessages c from funext₂ fun a b => propext (view_ends s c a b)]
    exact (Channel.norm_accounts ..).2 hc

theorem holding_of_view {s : State} (h : s.view.Holding) : s.Holding := by
  refine ⟨fun r m dl hr => ?_, fun r m hr => ?_, fun p u hu => ?_, fun p u hu => ?_, h.queue, fun e r hr => ?_,
    fun c => ?_, (view_copies s).1 h.copies⟩
  · have := h.live r m.norm none (MsgRecord.norm_eq_live.2 ⟨rfl, m, dl, hr, rfl⟩)
    rw [view_entries, view_reads] at this
    exact this
  · obtain ⟨h1, x, h2⟩ := h.filling r m.norm (MsgRecord.norm_eq_filling.2 ⟨m, hr, rfl⟩)
    obtain ⟨u, hu, hx⟩ := Option.map_eq_some_iff.1 h2
    cases hx
    exact ⟨h1, sends_iff.2 ⟨u, hu, rfl⟩⟩
  · obtain ⟨m, hm, ho, hn, hk⟩ := h.sender p u.record (u.next + u.remaining) u.kind
      (Option.map_eq_some_iff.2 ⟨u, hu, rfl⟩)
    obtain ⟨m', hm', rfl⟩ := MsgRecord.norm_eq_filling.1 hm
    exact ⟨m', hm', ho, hn, hk⟩
  · obtain ⟨m, dl, hm, hn⟩ := h.fetcher p u.record (u.next + u.remaining) (Option.map_eq_some_iff.2 ⟨u, hu, rfl⟩)
    obtain ⟨-, m', d, hm', rfl⟩ := MsgRecord.norm_eq_live.1 hm
    exact ⟨m', d, hm', hn⟩
  · obtain ⟨m, dl, hm, ht⟩ := h.entry e r hr
    rw [view_face, view_groupFace] at ht
    obtain ⟨-, m', d, hm', rfl⟩ := MsgRecord.norm_eq_live.1 hm
    exact ⟨m', d, hm', ht⟩
  · have hc := h.account c
    rw [show s.view.recordsOn c = s.recordsOn c from funext (view_recordsOn s c), view_transfersOn,
      show s.view.Ends c = s.EndsOfMessages c from funext₂ fun a b => propext (view_ends s c a b)] at hc
    exact (Channel.norm_accounts ..).1 hc

theorem named_iff_view (s : State) : s.Named ↔ Naming s.view.role s.view.face s.view.groupFace s.view.out := by
  rw [view_face, view_groupFace]
  exact Iff.rfl

theorem State.Sound.view_law {s : State} (h : s.Sound) : s.view.Law :=
  ⟨(named_iff_view s).1 h.named, holding_view h.holding⟩

theorem sound_of_view {s : State} (h : s.view.Law) (hh : s.Hushed) (hg : ∀ p, s.Geared p) (ha : s.Asked) : s.Sound :=
  ⟨(named_iff_view s).2 h.named, holding_of_view h.holding, hh, hg, ha⟩

end Sys2Proof.Machine
end

section
/-! How roles, channels and groups go on naming each other when a link is made, changed or ended. -/

namespace Sys2Proof.Machine

/-! ## Roles and the links they name -/

@[simp] theorem Role.withQueue_channel? (r : Role) (q : List RecId) : (r.withQueue q).channel? = r.channel? := by
  cases r <;> rfl

@[simp] theorem Role.withQueue_group? (r : Role) (q : List RecId) : (r.withQueue q).group? = r.group? := by
  cases r <;> rfl

@[simp] theorem Role.withQueue_depth (r : Role) (q : List RecId) : (r.withQueue q).depth = r.depth := by
  cases r <;> rfl

theorem Role.not_channel_and_group {r : Role} {c : ChanId} {g : GroupId} (hc : r.channel? = some c) (hg : r.group? = some g) :
    False := by
  cases r <;> cases hc <;> cases hg

section
variable {e : EpId} {face face' : ChanId → Face} {group group' : GroupId → Option (EpId × List EpId)} {r : Role}

theorem Role.backed_withQueue (q : List RecId) (h : r.Backed e face group) : (r.withQueue q).Backed e face group := by
  cases r <;> exact h

/-- A backed role is backed as long as the channel and the group it names stay. -/
theorem Role.Backed.congr (h : r.Backed e face group) (hc : ∀ c, r.channel? = some c → face' c = face c)
    (hg : ∀ g, r.group? = some g → group' g = group g) : r.Backed e face' group' := by
  cases r with
  | idle => trivial
  | listening f => trivial
  | offered c a f o => exact (hc c rfl).trans h
  | calling c b =>
    obtain ⟨o, h⟩ := h
    exact ⟨o, (hc c rfl).trans h⟩
  | connected c x q n =>
    obtain ⟨w, h⟩ := h
    exact ⟨w, by rwa [hc c rfl]⟩
  | closing c x q n =>
    obtain ⟨w, h⟩ := h
    exact ⟨w, by rwa [hc c rfl]⟩
  | publisher g =>
    obtain ⟨l, h⟩ := h
    exact ⟨l, (hg g rfl).trans h⟩
  | member g q n =>
    obtain ⟨hn, a, l, h, hm⟩ := h
    exact ⟨hn, a, l, (hg g rfl).trans h, hm⟩

/-- The channel that a backed role names, names the endpoint. -/
theorem Role.Backed.mem_ends (h : r.Backed e face group) {c : ChanId} (hc : r.channel? = some c) : e ∈ (face c).ends := by
  cases r with
  | offered k a f o =>
    cases hc
    rw [show face c = .request a e o from h]
    simp [Face.ends]
  | calling k b =>
    cases hc
    obtain ⟨o, h⟩ := h
    rw [h]
    simp [Face.ends]
  | connected k x q n =>
    cases hc
    obtain ⟨w, h | h⟩ := h <;> rw [h] <;> simp [Face.ends]
  | closing k x q n =>
    cases hc
    obtain ⟨w, h | h⟩ := h <;> rw [h] <;> simp [Face.ends]
  | idle => cases hc
  | listening f => cases hc
  | publisher g => cases hc
  | member g q n => cases hc

theorem Role.Backed.mem_group (h : r.Backed e face group) {g : GroupId} (hg : r.group? = some g) :
    ∃ a l, group g = some (a, l) ∧ e ∈ a :: l := by
  cases r with
  | publisher k =>
    cases hg
    obtain ⟨l, h⟩ := h
    exact ⟨e, l, h, List.mem_cons_self⟩
  | member k q n =>
    cases hg
    obtain ⟨-, a, l, h, hm⟩ := h
    exact ⟨a, l, h, List.mem_cons_of_mem _ hm⟩
  | idle => cases hg
  | listening f => cases hg
  | offered c a f o => cases hg
  | calling c b => cases hg
  | connected c x q n => cases hg
  | closing c x q n => cases hg

end

/-! ## The changes -/

section
variable {role role' : EpId → Role} {face : ChanId → Face} {group : GroupId → Option (EpId × List EpId)}
  {out out' : Port → ShareBlock → Prop}

/-- Queues do not matter to the naming. -/
theorem Naming.withQueues (h : Naming role face group out) (hr : ∀ e, ∃ q, role' e = (role e).withQueue q) :
    Naming role' face group out := by
  have gone {e : EpId} (hg : Gone role out e) : Gone role' out e := by
    obtain ⟨q, hq⟩ := hr e
    exact ⟨by rw [hq, hg.1]; rfl, hg.2⟩
  refine ⟨fun e => ?_, h.distinct, fun c e he => (h.ends c e he).imp gone fun hc => ?_, h.sound,
    fun g a l hg e he => (h.members g a l hg e he).imp gone fun hc => ?_, fun e he => ?_, h.noEnd, h.noMember⟩ <;>
    obtain ⟨q, hq⟩ := hr e <;> rw [hq]
  · exact Role.backed_withQueue q (h.backed e)
  · rw [Role.withQueue_channel?, hc]
  · rw [Role.withQueue_group?, hc]
  · rw [h.idle e he]
    rfl

/-- An endpoint that is IDLE or LISTENING at a port in service is no end of a channel and of no group. -/
theorem Naming.not_end (h : Naming role face group out) {e : EpId} (hc : (role e).channel? = none)
    (ho : ∀ b, ¬out (portOf e) b) (c : ChanId) : e ∉ (face c).ends := by
  intro he
  rcases h.ends c e he with ⟨-, hx⟩ | hx
  · exact ho _ hx
  · rw [hc] at hx
    cases hx

theorem Naming.not_member (h : Naming role face group out) {e : EpId} (hg : (role e).group? = none)
    (ho : ∀ b, ¬out (portOf e) b) {g : GroupId} {a : EpId} {l : List EpId} (hgl : group g = some (a, l)) : e ∉ a :: l := by
  intro he
  rcases h.members g a l hgl e he with ⟨-, hx⟩ | hx
  · exact ho _ hx
  · rw [hg] at hx
    cases hx

/-- A request placed on a FREE channel (R41). -/
theorem Naming.request (h : Naming role face group out) {c : ChanId} {a b : EpId} {f : Filter} (o : Offer)
    (hc : face c = .none) (ha : role a = .idle) (hb : role b = .listening f) (hne : a ≠ b)
    (hoa : ∀ x, ¬out (portOf a) x) (hob : ∀ x, ¬out (portOf b) x) :
    Naming (Function.update (Function.update role a (.calling c b)) b (.offered c a f o))
      (Function.update face c (.request a b o)) group out := by
  have hA := h.not_end (e := a) (by rw [ha]; rfl) hoa
  have hB := h.not_end (e := b) (by rw [hb]; rfl) hob
  have hra : Function.update (Function.update role a (.calling c b)) b (.offered c a f o) a = .calling c b := by
    rw [Function.update_of_ne hne, Function.update_self]
  have hrb : Function.update (Function.update role a (.calling c b)) b (.offered c a f o) b = .offered c a f o :=
    Function.update_self ..
  have hre {e : EpId} (h1 : e ≠ a) (h2 : e ≠ b) :
      Function.update (Function.update role a (.calling c b)) b (.offered c a f o) e = role e := by
    rw [Function.update_of_ne h2, Function.update_of_ne h1]
  have hfc : Function.update face c (.request a b o) c = .request a b o := Function.update_self ..
  refine ⟨fun e => ?_, fun k => ?_, fun k e he => ?_, h.sound, fun g x l hg e he => ?_, fun e he => ?_, fun k e he => ?_,
    h.noMember⟩
  · by_cases h1 : e = a
    · rw [h1, hra]
      exact ⟨o, hfc⟩
    · by_cases h2 : e = b
      · rw [h2, hrb]
        exact hfc
      · rw [hre h1 h2]
        refine (h.backed e).congr (fun k hk => Function.update_of_ne ?_ _ _) fun _ _ => rfl
        rintro rfl
        have := (h.backed e).mem_ends hk
        rw [hc] at this
        cases this
  · by_cases hk : k = c
    · rw [hk, hfc]
      simpa [Face.ends] using hne
    · rw [Function.update_of_ne hk]
      exact h.distinct k
  · by_cases hk : k = c
    · rw [hk, hfc] at he
      simp only [Face.ends, List.mem_cons, List.not_mem_nil, or_false] at he
      rw [hk]
      rcases he with rfl | rfl
      · exact .inr (by rw [hra]; rfl)
      · exact .inr (by rw [hrb]; rfl)
    · rw [Function.update_of_ne hk] at he
      rw [hre (fun x => hA k (x ▸ he)) fun x => hB k (x ▸ he)]
      exact h.ends k e he
  · have h1 : e ≠ a := fun hx => h.not_member (by rw [ha]; rfl) hoa hg (hx ▸ he)
    have h2 : e ≠ b := fun hx => h.not_member (by rw [hb]; rfl) hob hg (hx ▸ he)
    rw [hre h1 h2]
    exact h.members g x l hg e he
  · rw [hre (fun hx => hoa _ (hx ▸ he)) fun hx => hob _ (hx ▸ he)]
    exact h.idle e he
  · by_cases hk : k = c
    · rw [hk, hfc] at he
      simp only [Face.ends, List.mem_cons, List.not_mem_nil, or_false] at he
      rcases he with rfl | rfl
      · exact hoa _
      · exact hob _
    · rw [Function.update_of_ne hk] at he
      exact h.noEnd k e he

/-- A channel names nobody any more, and its ends are IDLE, or LISTENING at a port whose endpoints are in use. -/
theorem Naming.endLink (h : Naming role face group out) {c : ChanId} (hout : ∀ e, e ∉ (face c).ends → role' e = role e)
    (hin : ∀ e ∈ (face c).ends,
      role' e = .idle ∨ (∃ f, role' e = .listening f) ∧ ¬out (portOf e) .endpointTable) :
    Naming role' (Function.update face c .none) group out := by
  have gone {e : EpId} (hg : Gone role out e) : Gone role' out e := by
    by_cases he : e ∈ (face c).ends
    · rcases hin e he with hi | ⟨-, hx⟩
      · exact ⟨hi, hg.2⟩
      · exact absurd hg.2 hx
    · exact ⟨(hout e he).trans hg.1, hg.2⟩
  refine ⟨fun e => ?_, fun k => ?_, fun k e he => ?_, h.sound, fun g a l hg e he => ?_, fun e he => ?_, fun k e he => ?_,
    h.noMember⟩
  · by_cases he : e ∈ (face c).ends
    · rcases hin e he with hi | ⟨⟨f, hf⟩, -⟩
      · rw [hi]
        trivial
      · rw [hf]
        trivial
    · rw [hout e he]
      refine (h.backed e).congr (fun k hk => Function.update_of_ne ?_ _ _) fun _ _ => rfl
      rintro rfl
      exact he ((h.backed e).mem_ends hk)
  · by_cases hk : k = c
    · rw [hk, Function.update_self]
      exact List.nodup_nil
    · rw [Function.update_of_ne hk]
      exact h.distinct k
  · have hk : k ≠ c := by
      rintro rfl
      rw [Function.update_self] at he
      cases he
    rw [Function.update_of_ne hk] at he
    rcases h.ends k e he with hg | hr
    · exact .inl (gone hg)
    · by_cases hc : e ∈ (face c).ends
      · rcases h.ends c e hc with hg | hr'
        · exact .inl (gone hg)
        · exact absurd (Option.some.inj (hr.symm.trans hr')) hk
      · exact .inr ((congrArg Role.channel? (hout e hc)).trans hr)
  · rcases h.members g a l hg e he with hx | hr
    · exact .inl (gone hx)
    · by_cases hc : e ∈ (face c).ends
      · rcases h.ends c e hc with hx | hr'
        · exact .inl (gone hx)
        · exact (Role.not_channel_and_group hr' hr).elim
      · exact .inr ((congrArg Role.group? (hout e hc)).trans hr)
  · exact (gone ⟨h.idle e he, he⟩).1
  · have hk : k ≠ c := by
      rintro rfl
      rw [Function.update_self] at he
      cases he
    rw [Function.update_of_ne hk] at he
    exact h.noEnd k e he

/-- The ends of a channel take new roles that name the channel in its new state. -/
theorem Naming.relink (h : Naming role face group out) {c : ChanId} {y : Face} (hy : y.ends = (face c).ends)
    (hout : ∀ e, e ∉ (face c).ends → role' e = role e)
    (hin : ∀ e ∈ (face c).ends, Gone role out e ∧ role' e = role e ∨
      role e ≠ .idle ∧ (role' e).channel? = some c ∧ (role' e).Backed e (Function.update face c y) group) :
    Naming role' (Function.update face c y) group out := by
  have hends (k : ChanId) : (Function.update face c y k).ends = (face k).ends := by
    by_cases hk : k = c
    · rw [hk, Function.update_self, hy]
    · rw [Function.update_of_ne hk]
  have gone {e : EpId} (hg : Gone role out e) : Gone role' out e := by
    by_cases he : e ∈ (face c).ends
    · rcases hin e he with ⟨-, hi⟩ | ⟨hx, -⟩
      · exact ⟨hi.trans hg.1, hg.2⟩
      · exact absurd hg.1 hx
    · exact ⟨(hout e he).trans hg.1, hg.2⟩
  refine ⟨fun e => ?_, fun k => ?_, fun k e he => ?_, h.sound, fun g a l hg e he => ?_, fun e he => ?_, fun k e he => ?_,
    h.noMember⟩
  · by_cases he : e ∈ (face c).ends
    · rcases hin e he with ⟨hg, hi⟩ | ⟨-, -, hb⟩
      · rw [hi, hg.1]
        trivial
      · exact hb
    · rw [hout e he]
      refine (h.backed e).congr (fun k hk => Function.update_of_ne ?_ _ _) fun _ _ => rfl
      rintro rfl
      exact he ((h.backed e).mem_ends hk)
  · rw [hends]
    exact h.distinct k
  · rw [hends] at he
    rcases h.ends k e he with hg | hr
    · exact .inl (gone hg)
    · by_cases hc : e ∈ (face c).ends
      · rcases hin e hc with ⟨hg, -⟩ | ⟨hx, hr', -⟩
        · exact .inl (gone hg)
        · rcases h.ends c e hc with hg | hr''
          · exact absurd hg.1 hx
          · exact .inr (hr'.trans (hr''.symm.trans hr))
      · exact .inr ((congrArg Role.channel? (hout e hc)).trans hr)
  · rcases h.members g a l hg e he with hx | hr
    · exact .inl (gone hx)
    · by_cases hc : e ∈ (face c).ends
      · rcases h.ends c e hc with hx | hr'
        · exact .inl (gone hx)
        · exact (Role.not_channel_and_group hr' hr).elim
      · exact .inr ((congrArg Role.group? (hout e hc)).trans hr)
  · exact (gone ⟨h.idle e he, he⟩).1
  · rw [hends] at he
    exact h.noEnd k e he

/-- A group made by an IDLE endpoint (R120). -/
theorem Naming.create (h : Naming role face group out) {g : GroupId} {e : EpId} (hg : group g = none)
    (he : role e = .idle) (ho : ∀ b, ¬out (portOf e) b) :
    Naming (Function.update role e (.publisher g)) face (Function.update group g (some (e, []))) out := by
  have hend := h.not_end (e := e) (by rw [he]; rfl) ho
  refine ⟨fun x => ?_, h.distinct, fun k x hx => ?_, fun k a l hk => ?_, fun k a l hk x hx => ?_, fun x hx => ?_, h.noEnd,
    fun k a l hk x hx => ?_⟩
  · by_cases hx : x = e
    · rw [hx, Function.update_self]
      exact ⟨[], Function.update_self ..⟩
    · rw [Function.update_of_ne hx]
      refine (h.backed x).congr (fun _ _ => rfl) fun k hk => Function.update_of_ne ?_ _ _
      rintro rfl
      obtain ⟨a, l, hl, -⟩ := (h.backed x).mem_group hk
      rw [hg] at hl
      cases hl
  · rw [Function.update_of_ne fun y : x = e => hend k (y ▸ hx)]
    exact h.ends k x hx
  · by_cases hkg : k = g
    · rw [hkg, Function.update_self] at hk
      cases hk
      exact ⟨List.nodup_nil, List.not_mem_nil⟩
    · rw [Function.update_of_ne hkg] at hk
      exact h.sound k a l hk
  · by_cases hkg : k = g
    · rw [hkg, Function.update_self] at hk
      cases hk
      rw [List.mem_singleton.1 hx, Function.update_self, hkg]
      exact .inr rfl
    · rw [Function.update_of_ne hkg] at hk
      rw [Function.update_of_ne fun y : x = e => h.not_member (by rw [he]; rfl) ho hk (y ▸ hx)]
      exact h.members k a l hk x hx
  · rw [Function.update_of_ne fun y => ho _ (y ▸ hx)]
    exact h.idle x hx
  · by_cases hkg : k = g
    · rw [hkg, Function.update_self] at hk
      cases hk
      rw [List.mem_singleton.1 hx]
      exact ho _
    · rw [Function.update_of_ne hkg] at hk
      exact h.noMember k a l hk x hx

/-- An IDLE endpoint joins a group (R122). -/
theorem Naming.join (h : Naming role face group out) {g : GroupId} {e a : EpId} {l : List EpId} (q : List RecId) {n : Nat}
    (hg : group g = some (a, l)) (he : role e = .idle) (ho : ∀ b, ¬out (portOf e) b) (hn : 1 ≤ n) :
    Naming (Function.update role e (.member g q n)) face (Function.update group g (some (a, l ++ [e]))) out := by
  have hend := h.not_end (e := e) (by rw [he]; rfl) ho
  have hmem {k : GroupId} {b : EpId} {m : List EpId} := h.not_member (e := e) (g := k) (a := b) (l := m) (by rw [he]; rfl) ho
  have hnew := hmem hg
  refine ⟨fun x => ?_, h.distinct, fun k x hx => ?_, fun k b m hk => ?_, fun k b m hk x hx => ?_, fun x hx => ?_, h.noEnd,
    fun k b m hk x hx => ?_⟩
  · by_cases hx : x = e
    · rw [hx, Function.update_self]
      exact ⟨hn, a, l ++ [e], Function.update_self .., by simp⟩
    · rw [Function.update_of_ne hx]
      have hb := h.backed x
      by_cases hxg : (role x).group? = some g
      · rcases Role.group?_eq_some.1 hxg with hr | ⟨q', n', hr⟩ <;> rw [hr] at hb ⊢
        · obtain ⟨l', hl'⟩ := hb
          cases hg.symm.trans hl'
          exact ⟨l ++ [e], Function.update_self ..⟩
        · obtain ⟨hn', a', l', hl', hx'⟩ := hb
          cases hg.symm.trans hl'
          exact ⟨hn', a, l ++ [e], Function.update_self .., List.mem_append_left _ hx'⟩
      · refine hb.congr (fun _ _ => rfl) fun k hk => Function.update_of_ne ?_ _ _
        rintro rfl
        exact hxg hk
  · rw [Function.update_of_ne fun y : x = e => hend k (y ▸ hx)]
    exact h.ends k x hx
  · by_cases hkg : k = g
    · rw [hkg, Function.update_self] at hk
      cases hk
      obtain ⟨h1, h2⟩ := h.sound g a l hg
      simp only [List.mem_cons, not_or] at hnew
      refine ⟨List.nodup_append.2 ⟨h1, List.nodup_singleton e, ?_⟩, ?_⟩
      · rintro x hx y hy rfl
        exact hnew.2 (List.mem_singleton.1 hy ▸ hx)
      · simp only [List.mem_append, List.mem_singleton, not_or]
        exact ⟨h2, fun x => hnew.1 x.symm⟩
    · rw [Function.update_of_ne hkg] at hk
      exact h.sound k b m hk
  · by_cases hkg : k = g
    · rw [hkg, Function.update_self] at hk
      cases hk
      by_cases hxe : x = e
      · rw [hxe, Function.update_self, hkg]
        exact .inr rfl
      · rw [Function.update_of_ne hxe, hkg]
        refine h.members g a l hg x ?_
        simpa [hxe] using hx
    · rw [Function.update_of_ne hkg] at hk
      rw [Function.update_of_ne fun y : x = e => hmem hk (y ▸ hx)]
      exact h.members k b m hk x hx
  · rw [Function.update_of_ne fun y => ho _ (y ▸ hx)]
    exact h.idle x hx
  · by_cases hkg : k = g
    · rw [hkg, Function.update_self] at hk
      cases hk
      by_cases hxe : x = e
      · rw [hxe]
        exact ho _
      · refine h.noMember g a l hg x ?_
        simpa [hxe] using hx
    · rw [Function.update_of_ne hkg] at hk
      exact h.noMember k b m hk x hx

/-- Endpoints of a group leave it, IDLE: all of them, when the group ends (R123, R124, R133). -/
theorem Naming.leave (h : Naming role face group out) {g : GroupId} {a : EpId} {l : List EpId}
    {y : Option (EpId × List EpId)} {left : EpId → Prop} [DecidablePred left] (hg : group g = some (a, l))
    (hsub : ∀ e, left e → e ∈ a :: l) (hrole : ∀ e, role' e = if left e then .idle else role e)
    (hy : y = none ∧ (∀ e ∈ a :: l, left e) ∨ ∃ l', y = some (a, l') ∧ l'.Sublist l ∧ ¬left a ∧
      ∀ e ∈ l, e ∈ l' ↔ ¬left e) :
    Naming role' face (Function.update group g y) out := by
  have gone {e : EpId} (hx : Gone role out e) : Gone role' out e := by
    refine ⟨?_, hx.2⟩
    rw [hrole, hx.1, ite_self]
  have named {e : EpId} (hx : left e) : Gone role out e ∨ (role e).group? = some g := h.members g a l hg e (hsub e hx)
  refine ⟨fun x => ?_, h.distinct, fun k x hx => ?_, fun k b m hk => ?_, fun k b m hk x hx => ?_, fun x hx => ?_, h.noEnd,
    fun k b m hk x hx => ?_⟩
  · rw [hrole]
    split
    · trivial
    · next hx =>
      have hb := h.backed x
      by_cases hxg : (role x).group? = some g
      · obtain ⟨a', l', hl', hm⟩ := hb.mem_group hxg
        cases hg.symm.trans hl'
        rcases hy with ⟨-, hall⟩ | ⟨l', rfl, -, -, hiff⟩
        · exact absurd (hall x hm) hx
        · rcases Role.group?_eq_some.1 hxg with hr | ⟨q', n', hr⟩ <;> rw [hr] at hb ⊢
          · obtain ⟨l'', hl''⟩ := hb
            cases hg.symm.trans hl''
            exact ⟨l', Function.update_self ..⟩
          · obtain ⟨hn', a'', l'', hl'', hx'⟩ := hb
            cases hg.symm.trans hl''
            exact ⟨hn', a, l', Function.update_self .., (hiff x hx').2 hx⟩
      · refine hb.congr (fun _ _ => rfl) fun k hk => Function.update_of_ne ?_ _ _
        rintro rfl
        exact hxg hk
  · rcases h.ends k x hx with hg' | hr
    · exact .inl (gone hg')
    · by_cases hl : left x
      · rcases named hl with hx' | hr'
        · exact .inl (gone hx')
        · exact (Role.not_channel_and_group hr hr').elim
      · refine .inr ?_
        rw [hrole, if_neg hl, hr]
  · by_cases hkg : k = g
    · rw [hkg, Function.update_self] at hk
      rcases hy with ⟨rfl, -⟩ | ⟨l', rfl, hs, -, -⟩
      · cases hk
      · cases hk
        obtain ⟨h1, h2⟩ := h.sound g a l hg
        exact ⟨h1.sublist hs, fun hm => h2 (hs.subset hm)⟩
    · rw [Function.update_of_ne hkg] at hk
      exact h.sound k b m hk
  · by_cases hkg : k = g
    · rw [hkg, Function.update_self] at hk
      rcases hy with ⟨rfl, -⟩ | ⟨l', rfl, hs, ha, hiff⟩
      · cases hk
      · cases hk
        have hxl : x ∈ a :: l ∧ ¬left x := by
          rcases List.mem_cons.1 hx with rfl | hm
          · exact ⟨List.mem_cons_self, ha⟩
          · exact ⟨List.mem_cons_of_mem _ (hs.subset hm), (hiff x (hs.subset hm)).1 hm⟩
        rw [hrole, if_neg hxl.2, hkg]
        exact (h.members g a l hg x hxl.1).imp_left fun hg' => ⟨hg'.1, hg'.2⟩
    · rw [Function.update_of_ne hkg] at hk
      rcases h.members k b m hk x hx with hg' | hr
      · exact .inl (gone hg')
      · by_cases hl : left x
        · rcases named hl with hx' | hr'
          · exact .inl (gone hx')
          · exact absurd (Option.some.inj (hr.symm.trans hr')) hkg
        · refine .inr ?_
          rw [hrole, if_neg hl, hr]
  · exact (gone ⟨h.idle x hx, hx⟩).1
  · by_cases hkg : k = g
    · rw [hkg, Function.update_self] at hk
      rcases hy with ⟨rfl, -⟩ | ⟨l', rfl, hs, -, -⟩
      · cases hk
      · cases hk
        refine h.noMember g a l hg x ?_
        rcases List.mem_cons.1 hx with rfl | hm
        · exact List.mem_cons_self
        · exact List.mem_cons_of_mem _ (hs.subset hm)
    · rw [Function.update_of_ne hkg] at hk
      exact h.noMember k b m hk x hx

/-- A port comes into use, or its blocks owe their shares again, when no channel and no group names it. -/
theorem Naming.reopen (h : Naming role face group out) (hle : ∀ p b, out' p b → out p b)
    (hnew : ∀ p, out p .endpointTable → ¬out' p .endpointTable → out p .channelController ∧ out p .groupController) :
    Naming role face group out' := by
  have gone {e : EpId} (hc : ¬(out (portOf e) .channelController ∧ out (portOf e) .groupController))
      (hg : Gone role out e) : Gone role out' e := by
    refine ⟨hg.1, ?_⟩
    by_contra hx
    exact hc (hnew _ hg.2 hx)
  refine ⟨h.backed, h.distinct, fun c e he => ?_, h.sound, fun g a l hg e he => ?_, fun e he => h.idle e (hle _ _ he),
    fun c e he hx => h.noEnd c e he (hle _ _ hx), fun g a l hg e he hx => h.noMember g a l hg e he (hle _ _ hx)⟩
  · exact (h.ends c e he).imp_left (gone fun hx => h.noEnd c e he hx.1)
  · exact (h.members g a l hg e he).imp_left (gone fun hx => h.noMember g a l hg e he hx.2)

/-- A block has taken its share of a port: nothing that the share removes is left. -/
theorem Naming.settle (h : Naming role face group out) (hmono : ∀ p b, out p b → out' p b)
    (hrole : ∀ e, role' e = role e ∨ role' e = .idle ∧ out' (portOf e) .endpointTable)
    (hidle : ∀ e, out' (portOf e) .endpointTable → role' e = .idle)
    (hchan : ∀ c, ∀ e ∈ (face c).ends, ¬out' (portOf e) .channelController)
    (hgroup : ∀ g a l, group g = some (a, l) → ∀ e ∈ a :: l, ¬out' (portOf e) .groupController) :
    Naming role' face group out' := by
  have gone {e : EpId} (hg : Gone role out e) : Gone role' out' e :=
    ⟨hidle e (hmono _ _ hg.2), hmono _ _ hg.2⟩
  refine ⟨fun e => ?_, h.distinct, fun c e he => ?_, h.sound, fun g a l hg e he => ?_, hidle, hchan, hgroup⟩
  · rcases hrole e with hr | ⟨hr, -⟩ <;> rw [hr]
    · exact h.backed e
    · trivial
  · rcases hrole e with hr | hr
    · exact (h.ends c e he).imp gone fun hc => by rw [hr, hc]
    · exact .inl hr
  · rcases hrole e with hr | hr
    · exact (h.members g a l hg e he).imp gone fun hc => by rw [hr, hc]
    · exact .inl hr

end

end Sys2Proof.Machine
end

section
/-! The laws of holding when links are made, changed or ended, and what the counts of a view depend on. -/

namespace Sys2Proof.Machine

/-! ## Parts of a view replaced -/

def View.setRole (v : View) (e : EpId) (x : Role) : View := { v with role := Function.update v.role e x }

def View.setRecord (v : View) (r : RecId) (x : MsgRecord) : View := { v with record := Function.update v.record r x }

def View.setChannel (v : View) (c : ChanId) (x : Channel) : View := { v with channel := Function.update v.channel c x }

def View.setGroup (v : View) (g : GroupId) (x : Group) : View := { v with group := Function.update v.group g x }

def View.setSend (v : View) (p : Port) (x : Option (RecId × Nat × MsgKind)) : View :=
  { v with send := Function.update v.send p x }

def View.setFetch (v : View) (p : Port) (x : Option (RecId × Nat)) : View :=
  { v with fetch := Function.update v.fetch p x }

theorem face_setChannel (v : View) (c : ChanId) (x : Channel) :
    (v.setChannel c x).face = Function.update v.face c x.face := by
  funext k
  show (Function.update v.channel c x k).face = _
  by_cases h : k = c
  · rw [h, Function.update_self, Function.update_self]
  · rw [Function.update_of_ne h, Function.update_of_ne h]
    rfl

theorem groupFace_setGroup (v : View) (g : GroupId) (x : Group) :
    (v.setGroup g x).groupFace = Function.update v.groupFace g x.face := by
  funext k
  show (Function.update v.group g x k).face = _
  by_cases h : k = g
  · rw [h, Function.update_self, Function.update_self]
  · rw [Function.update_of_ne h, Function.update_of_ne h]
    rfl

/-! ## What the counts depend on -/

section
variable {v v' : View}

theorem View.entries_congr (h : ∀ e, (v'.role e).queue = (v.role e).queue) (r : RecId) : v'.entries r = v.entries r :=
  Finset.sum_congr rfl fun e _ => by rw [h e]

theorem View.reads_congr (h : v'.fetch = v.fetch) (r : RecId) : v'.reads r = v.reads r := by
  unfold View.reads
  rw [h]

theorem View.recordsOn_congr (h : v'.record = v.record) : v'.recordsOn = v.recordsOn := by
  funext c d
  unfold View.recordsOn
  rw [h]

theorem View.weight_congr (h : v'.record = v.record) (c : ChanId) (r : Option RecId) : v'.weight c r = v.weight c r := by
  unfold View.weight
  rw [h]

theorem View.transfersOn_congr (hr : v'.record = v.record) (hs : v'.send = v.send) (hf : v'.fetch = v.fetch) :
    v'.transfersOn = v.transfersOn := by
  funext c
  unfold View.transfersOn
  simp only [View.weight_congr hr, hs, hf]

theorem View.ends_congr (hr : v'.record = v.record) (hf : v'.fetch = v.fetch) : v'.Ends = v.Ends := by
  funext c a b
  unfold View.Ends
  rw [hr, hf]

theorem View.copiesOf_congr (h : v'.record = v.record) : v'.copiesOf = v.copiesOf := by
  funext g
  unfold View.copiesOf
  rw [h]

theorem View.copier_congr (h : v'.record = v.record) : v'.Copier = v.Copier := by
  funext g a
  unfold View.Copier
  rw [h]

end

theorem mem_queue_iff_count {q : List RecId} {r : RecId} : r ∈ q ↔ 1 ≤ q.count r :=
  List.count_pos_iff.symm

theorem View.one_le_entries {v : View} {e : EpId} {r : RecId} (h : r ∈ (v.role e).queue) : 1 ≤ v.entries r :=
  (mem_queue_iff_count.1 h).trans (le_sum (fun e => (v.role e).queue.count r) e)

theorem View.one_le_reads {v : View} {p : Port} {r : RecId} {n : Nat} (h : v.fetch p = some (r, n)) : 1 ≤ v.reads r := by
  have := le_sum (fun p => if (v.fetch p).map Prod.fst = some r then 1 else 0) p
  simp only [h, Option.map_some, if_true] at this
  exact this

/-! ## A record that nothing holds -/

section
variable {v : View} (h : v.Held)
include h

theorem View.Held.entries_zero {r : RecId} (hr : ∀ m dl, v.record r ≠ .live m dl) : v.entries r = 0 :=
  Finset.sum_eq_zero fun e _ => List.count_eq_zero.2 fun he => by
    obtain ⟨m, dl, hm, -⟩ := h.entry e r he
    exact hr m dl hm

theorem View.Held.reads_zero {r : RecId} (hr : ∀ m dl, v.record r ≠ .live m dl) : v.reads r = 0 := by
  refine Finset.sum_eq_zero fun p _ => if_neg fun hp => ?_
  obtain ⟨⟨k, n⟩, hk, hkr⟩ := Option.map_eq_some_iff.1 hp
  obtain ⟨m, dl, hm, -⟩ := h.fetcher p k n hk
  exact hr m dl (hkr ▸ hm)

/-- A channel with no transfer in flight and no message in the queues of its ends has no record. -/
theorem View.Held.recordsOn_zero {c : ChanId} (hq : ∀ d e, (v.face c).receiver? d = some e → (v.role e).queue = [])
    (ht : v.transfersOn c = 0) (d : Dirn) : v.recordsOn c d = 0 := by
  obtain ⟨hs, hf⟩ := Nat.add_eq_zero_iff.1 ht
  rw [Finset.sum_eq_zero_iff] at hs hf
  refine Finset.sum_eq_zero fun r _ => if_neg fun hr => ?_
  obtain ⟨m, hm, hk⟩ := Option.map_eq_some_iff.1 hr
  have hon : onChannel c (v.record r).link? = true := by
    rw [hr]
    exact decide_eq_true rfl
  cases hx : v.record r with
  | free =>
    rw [hx] at hm
    cases hm
  | filling y =>
    obtain ⟨-, x, hp⟩ := h.filling r y hx
    have := hs (portOf y.origin) (Finset.mem_univ _)
    rw [hp] at this
    exact absurd this (by simp [View.weight, hon])
  | live y dl =>
    rw [hx] at hm
    cases hm
    obtain ⟨h1, h2, -, -⟩ := h.live r m dl hx
    have hpos : v.entries r ≠ 0 ∨ v.reads r ≠ 0 := by omega
    rcases hpos with he | he
    · obtain ⟨e, -, hce⟩ := Finset.exists_ne_zero_of_sum_ne_zero he
      have hmem : r ∈ (v.role e).queue := mem_queue_iff_count.2 (Nat.one_le_iff_ne_zero.2 hce)
      obtain ⟨m', dl', hm', htk⟩ := h.entry e r hmem
      rw [hx] at hm'
      cases hm'
      rw [hk] at htk
      have hrec : (v.face c).receiver? d = some e := by
        cases hrole : v.role e with
        | connected k x q n =>
          rw [hrole] at htk
          obtain ⟨d', hd', hrc⟩ := htk
          cases hd'
          exact hrc
        | closing k x q n =>
          rw [hrole] at htk
          obtain ⟨d', hd', hrc⟩ := htk
          cases hd'
          exact hrc
        | member g q n =>
          rw [hrole] at htk
          cases htk.1
        | idle => rw [hrole] at htk; exact htk.elim
        | listening f => rw [hrole] at htk; exact htk.elim
        | offered k a f o => rw [hrole] at htk; exact htk.elim
        | calling k b => rw [hrole] at htk; exact htk.elim
        | publisher g => rw [hrole] at htk; exact htk.elim
      rw [hq d e hrec] at hmem
      cases hmem
    · obtain ⟨p, -, hcp⟩ := Finset.exists_ne_zero_of_sum_ne_zero he
      have hp : (v.fetch p).map Prod.fst = some r := by
        by_contra hn
        exact hcp (if_neg hn)
      have := hf p (Finset.mem_univ _)
      rw [hp] at this
      exact absurd this (by simp [View.weight, hon])

end

/-- A unit at work on a channel holds one of its records. -/
theorem View.transfersOn_zero {v : View} {c : ChanId} (hr : ∀ d, v.recordsOn c d = 0) : v.transfersOn c = 0 := by
  have hno (r : RecId) : onChannel c (v.record r).link? = false := by
    by_contra hx
    rw [Bool.not_eq_false, onChannel_eq, decide_eq_true_iff] at hx
    rcases hx with hx | hx
    · have := Finset.sum_eq_zero_iff.1 (hr .callerToCallee) r (Finset.mem_univ _)
      rw [if_pos hx] at this
      cases this
    · have := Finset.sum_eq_zero_iff.1 (hr .calleeToCaller) r (Finset.mem_univ _)
      rw [if_pos hx] at this
      cases this
  have hw (r : Option RecId) : v.weight c r = 0 := by
    cases r with
    | none => rfl
    | some r => simp [View.weight, hno r]
  exact congr_arg₂ (· + ·) (Finset.sum_eq_zero fun p _ => hw _) (Finset.sum_eq_zero fun p _ => hw _)

/-! ## Links made, changed and ended -/

section
variable {e : EpId} {face face' : ChanId → Face} {group group' : GroupId → Option (EpId × List EpId)} {r : Role}

theorem Role.Takes.congr {o : EpId} {k : RecLink} (h : r.Takes e face group o k)
    (hc : ∀ c, r.channel? = some c → face' c = face c) (hg : ∀ g, r.group? = some g → group' g = group g) :
    r.Takes e face' group' o k := by
  cases r with
  | connected c x q n =>
    obtain ⟨d, hk, hd⟩ := h
    exact ⟨d, hk, by rwa [hc c rfl]⟩
  | closing c x q n =>
    obtain ⟨d, hk, hd⟩ := h
    exact ⟨d, hk, by rwa [hc c rfl]⟩
  | member g q n =>
    obtain ⟨hk, l, hl⟩ := h
    exact ⟨hk, l, (hg g rfl).trans hl⟩
  | idle => exact h
  | listening f => exact h
  | offered c a f o => exact h
  | calling c b => exact h
  | publisher g => exact h

@[simp] theorem Role.takes_withQueue {o : EpId} {k : RecLink} (q : List RecId) :
    (r.withQueue q).Takes e face group o k ↔ r.Takes e face group o k := by
  cases r <;> exact Iff.rfl

end

/-- Links change, and with them no record, no transfer unit and no queue. -/
theorem View.Holding.relink {v v' : View} (h : v.Holding) (hrec : v'.record = v.record) (hs : v'.send = v.send)
    (hf : v'.fetch = v.fetch) (hq : ∀ e, (v'.role e).queue = (v.role e).queue)
    (hrole : ∀ e, (v.role e).queue ≠ [] → (v'.role e).depth = (v.role e).depth ∧
      ∀ o k, (v.role e).Takes e v.face v.groupFace o k → (v'.role e).Takes e v'.face v'.groupFace o k)
    (hc : ∀ c, (v'.channel c).Accounts (v.recordsOn c) (v.transfersOn c) (v.Ends c))
    (hg : ∀ g, (v'.group g).Copies (v.copiesOf g) (v.Copier g)) : v'.Holding := by
  refine ⟨⟨fun r m dl hr => ?_, fun r m hr => ?_, fun p r n k hp => ?_, fun p r n hp => ?_, fun e => ?_,
    fun e r hr => ?_⟩, fun c => ?_, fun g => ?_⟩
  · rw [hrec] at hr
    rw [View.entries_congr hq, View.reads_congr hf]
    exact h.live r m dl hr
  · rw [hrec] at hr
    rw [hs]
    exact h.filling r m hr
  · rw [hs] at hp
    rw [hrec]
    exact h.sender p r n k hp
  · rw [hf] at hp
    rw [hrec]
    exact h.fetcher p r n hp
  · obtain ⟨h1, h2⟩ := h.queue e
    rw [hq e]
    refine ⟨h1, ?_⟩
    by_cases hn : (v.role e).queue = []
    · rw [hn]
      exact Nat.zero_le _
    · rw [(hrole e hn).1]
      exact h2
  · rw [hq e] at hr
    obtain ⟨m, dl, hm, ht⟩ := h.entry e r hr
    rw [hrec]
    exact ⟨m, dl, hm, (hrole e (List.ne_nil_of_mem hr)).2 _ _ ht⟩
  · rw [View.recordsOn_congr hrec, View.transfersOn_congr hrec hs hf, View.ends_congr hrec hf]
    exact hc c
  · rw [View.copiesOf_congr hrec, View.copier_congr hrec]
    exact hg g

section
variable {v : View} (h : v.Law)
include h

theorem View.Law.accounts_update {c : ChanId} {x : Channel}
    (hx : x.Accounts (v.recordsOn c) (v.transfersOn c) (v.Ends c)) (k : ChanId) :
    (Function.update v.channel c x k).Accounts (v.recordsOn k) (v.transfersOn k) (v.Ends k) := by
  by_cases hk : k = c
  · rw [hk, Function.update_self]
    exact hx
  · rw [Function.update_of_ne hk]
    exact h.holding.account k

theorem View.Law.copies_update {g : GroupId} {x : Group} (hx : x.Copies (v.copiesOf g) (v.Copier g)) (k : GroupId) :
    (Function.update v.group g x k).Copies (v.copiesOf k) (v.Copier k) := by
  by_cases hk : k = g
  · rw [hk, Function.update_self]
    exact hx
  · rw [Function.update_of_ne hk]
    exact h.holding.copies k

/-- Roles and one channel change; each endpoint with a queue keeps it, its depth, and takes the messages in it. -/
theorem View.Law.channel_change {role' : EpId → Role} {c : ChanId} {x : Channel}
    (hn : Naming role' (Function.update v.face c x.face) v.groupFace v.out)
    (hq : ∀ e, (role' e).queue = (v.role e).queue)
    (hrole : ∀ e, (v.role e).queue ≠ [] → role' e = v.role e ∧ (v.role e).channel? ≠ some c ∨
      (role' e).depth = (v.role e).depth ∧ ∀ o k, (v.role e).Takes e v.face v.groupFace o k →
        (role' e).Takes e (Function.update v.face c x.face) v.groupFace o k)
    (hx : x.Accounts (v.recordsOn c) (v.transfersOn c) (v.Ends c)) :
    View.Law { v with role := role', channel := Function.update v.channel c x } := by
  have hface : View.face { v with role := role', channel := Function.update v.channel c x } =
      Function.update v.face c x.face := face_setChannel v c x
  refine ⟨by rw [hface]; exact hn, h.holding.relink rfl rfl rfl hq (fun e he => ?_) (h.accounts_update hx)
    h.holding.copies⟩
  rw [hface]
  rcases hrole e he with ⟨hr, hne⟩ | hr
  · refine ⟨congrArg Role.depth hr, fun o k ht => ?_⟩
    show (role' e).Takes e _ v.groupFace o k
    rw [hr]
    refine ht.congr (fun k' hk' => Function.update_of_ne ?_ _ _) fun _ _ => rfl
    rintro rfl
    exact hne hk'
  · exact hr

/-- A link of a channel ends while the queues of its ends are empty. -/
theorem View.Law.endLink {role' : EpId → Role} {c : ChanId} {x : Channel} (hface : x.face = .none)
    (hempty : ∀ e ∈ (v.face c).ends, (v.role e).queue = []) (hout : ∀ e, e ∉ (v.face c).ends → role' e = v.role e)
    (hin : ∀ e ∈ (v.face c).ends,
      role' e = .idle ∨ (∃ f, role' e = .listening f) ∧ ¬v.out (portOf e) .endpointTable)
    (hx : x.Accounts (v.recordsOn c) (v.transfersOn c) (v.Ends c)) :
    View.Law { v with role := role', channel := Function.update v.channel c x } := by
  refine h.channel_change ?_ (fun e => ?_) (fun e he => .inl ?_) hx
  · rw [hface]
    exact h.named.endLink hout hin
  · by_cases he : e ∈ (v.face c).ends
    · rw [hempty e he]
      rcases hin e he with hr | ⟨⟨f, hr⟩, -⟩ <;> rw [hr] <;> rfl
    · rw [hout e he]
  · have hne : e ∉ (v.face c).ends := fun hx => he (hempty e hx)
    exact ⟨hout e hne, fun hc => hne ((h.named.backed e).mem_ends hc)⟩

end

end Sys2Proof.Machine
end

section
/-! How the laws of holding survive the discard of queue entries. -/

namespace Sys2Proof.Machine

/-! ## Records with fewer holders -/

/-- A record that loses n holders: FREE with the last. -/
def MsgRecord.lower (n : Nat) : MsgRecord → MsgRecord
  | .free => .free
  | .filling m => if m.count - n = 0 then .free else .filling { m with count := m.count - n }
  | .live m d => if m.count - n = 0 then .free else .live { m with count := m.count - n } d

theorem MsgRecord.lower_live_pos {m : Message} {d : Option Time} {n : Nat} (h : n < m.count) :
    (MsgRecord.live m d).lower n = .live { m with count := m.count - n } d :=
  if_neg (by omega)

theorem MsgRecord.lower_live_free {m : Message} {d : Option Time} {n : Nat} (h : m.count ≤ n) :
    (MsgRecord.live m d).lower n = .free :=
  if_pos (by omega)

theorem MsgRecord.lower_zero_filling {m : Message} (h : m.count = 1) : (MsgRecord.filling m).lower 0 = .filling m := by
  obtain ⟨_, _, _, _, _, _, _, _, c, _, _⟩ := m
  cases h
  rfl

theorem MsgRecord.lower_eq_filling {x : MsgRecord} {n : Nat} {m : Message} (h : x.lower n = .filling m) :
    ∃ m', x = .filling m' ∧ n < m'.count ∧ m = { m' with count := m'.count - n } := by
  cases x with
  | free => cases h
  | filling m' =>
    unfold MsgRecord.lower at h
    dsimp only at h
    split at h
    · cases h
    · next hn =>
      cases h
      exact ⟨m', rfl, by omega, rfl⟩
  | live m' d =>
    unfold MsgRecord.lower at h
    dsimp only at h
    split at h <;> cases h

theorem MsgRecord.lower_eq_live {x : MsgRecord} {n : Nat} {m : Message} {d : Option Time} (h : x.lower n = .live m d) :
    ∃ m', x = .live m' d ∧ n < m'.count ∧ m = { m' with count := m'.count - n } := by
  cases x with
  | free => cases h
  | live m' d' =>
    unfold MsgRecord.lower at h
    dsimp only at h
    split at h
    · cases h
    · next hn =>
      cases h
      exact ⟨m', rfl, by omega, rfl⟩
  | filling m' =>
    unfold MsgRecord.lower at h
    dsimp only at h
    split at h <;> cases h

theorem MsgRecord.lower_message? {x : MsgRecord} {n : Nat} {m : Message} (h : (x.lower n).message? = some m) :
    ∃ m', x.message? = some m' ∧ m = { m' with count := m'.count - n } := by
  cases hx : x.lower n with
  | free =>
    rw [hx] at h
    cases h
  | filling y =>
    rw [hx] at h
    cases h
    obtain ⟨m', rfl, -, hm⟩ := MsgRecord.lower_eq_filling hx
    exact ⟨m', rfl, hm⟩
  | live y d =>
    rw [hx] at h
    cases h
    obtain ⟨m', rfl, -, hm⟩ := MsgRecord.lower_eq_live hx
    exact ⟨m', rfl, hm⟩

/-! ## The discard of entries -/

/-- The entries on a direction of a channel among n r entries of each record r. -/
def View.lost (v : View) (n : RecId → Nat) (c : ChanId) (d : Dirn) : Nat :=
  ∑ r, if (v.record r).link? = some (.channel c d) then n r else 0

/-- From v to v' each record r lost n r entries of queues, its count fell with them, and the channels of the records
that went FREE have the credits back. -/
structure View.Dropped (v v' : View) (n : RecId → Nat) : Prop where
  role : ∀ e, ∃ q, q.Sublist (v.role e).queue ∧ v'.role e = (v.role e).withQueue q
  entries : ∀ r, v.entries r = v'.entries r + n r
  record : ∀ r, v'.record r = (v.record r).lower (n r)
  channel : ∀ c, v'.channel c =
    (v.channel c).mapLive (LiveChannel.refundedBy (v.lost n c .callerToCallee) (v.lost n c .calleeToCaller))
  group : v'.group = v.group
  send : v'.send = v.send
  fetch : v'.fetch = v.fetch
  out : v'.out = v.out

@[simp] theorem Role.queue_withQueue_of_sublist {r : Role} {q : List RecId} (h : q.Sublist r.queue) :
    (r.withQueue q).queue = q := by
  cases r <;> first | rfl | exact (List.sublist_nil.1 h).symm

theorem Channel.face_mapLive {x : Channel} {f : LiveChannel → LiveChannel}
    (h : ∀ l, (f l).caller = l.caller ∧ (f l).callee = l.callee ∧ (f l).toCallee.window = l.toCallee.window ∧
      (f l).toCaller.window = l.toCaller.window) : (x.mapLive f).face = x.face := by
  cases x with
  | opened l =>
    obtain ⟨h1, h2, h3, h4⟩ := h l
    show Face.live false _ _ _ _ = Face.live false _ _ _ _
    rw [h1, h2, h3, h4]
  | draining l cl d =>
    obtain ⟨h1, h2, h3, h4⟩ := h l
    show Face.live true _ _ _ _ = Face.live true _ _ _ _
    rw [h1, h2, h3, h4]
  | free => rfl
  | requested a b o d => rfl
  | aborting a b cl k => rfl

theorem Channel.face_refundedBy (x : Channel) (n n' : Nat) : (x.mapLive (LiveChannel.refundedBy n n')).face = x.face :=
  Channel.face_mapLive fun _ => ⟨rfl, rfl, rfl, rfl⟩

/-- A channel's account when n and n' of its messages went, with their credits. -/
theorem Channel.Accounts.refundedBy {x : Channel} {records records' : Dirn → Nat} {t n n' : Nat}
    {ends ends' : EpId → EpId → Prop} (h : x.Accounts records t ends)
    (h1 : records' .callerToCallee + n = records .callerToCallee)
    (h2 : records' .calleeToCaller + n' = records .calleeToCaller) (he : ∀ a b, ends a b → ends' a b) :
    (x.mapLive (LiveChannel.refundedBy n n')).Accounts records' t ends' := by
  have zero (h : ∀ d, records d = 0) (d : Dirn) : records' d = 0 := by
    have := h d
    cases d <;> omega
  have dirs {l : LiveChannel} (hl : ∀ d, (l.direction d).credits + (l.direction d).outstanding = (l.direction d).window ∧
      (l.direction d).outstanding = records d) (d : Dirn) :
      ((l.refundedBy n n').direction d).credits + ((l.refundedBy n n').direction d).outstanding =
        ((l.refundedBy n n').direction d).window ∧ ((l.refundedBy n n').direction d).outstanding = records' d := by
    obtain ⟨g1, g2⟩ := hl d
    cases d <;> simp only [LiveChannel.direction, LiveChannel.refundedBy, Direction.refunded] at * <;> omega
  cases x with
  | free => exact zero h
  | requested a b o d => exact zero h
  | opened l =>
    obtain ⟨g1, g2, g3⟩ := h
    exact ⟨dirs g1, g2, he _ _ g3⟩
  | draining l cl d =>
    obtain ⟨g1, g2, g3⟩ := h
    exact ⟨dirs g1, g2, he _ _ g3⟩
  | aborting a b cl k =>
    obtain ⟨g1, g2, g3⟩ := h
    exact ⟨g1, g2, he _ _ g3⟩

/-- A record of a channel has one holder (R6). -/
theorem View.Held.single {v : View} (h : v.Held) {r : RecId} {m : Message} {dl : Option Time} {c : ChanId} {d : Dirn}
    (hr : v.record r = .live m dl) (hk : m.link = .channel c d) : m.count = 1 := by
  obtain ⟨-, -, -, h4⟩ := h.live r m dl hr
  exact h4 (by simp [Message.isGroup, hk])

section
variable {v v' : View} {n : RecId → Nat} (hd : v.Dropped v' n)
include hd

theorem View.Dropped.face : v'.face = v.face := by
  funext c
  show (v'.channel c).face = _
  rw [hd.channel]
  exact Channel.face_refundedBy ..

theorem View.Dropped.groupFace : v'.groupFace = v.groupFace := by
  funext g
  show (v'.group g).face = _
  rw [hd.group]
  rfl

theorem View.Dropped.ends {c : ChanId} {a b : EpId} (he : v.Ends c a b) : v'.Ends c a b := by
  intro r m d hm hk
  rw [hd.record] at hm
  obtain ⟨m', hm', rfl⟩ := MsgRecord.lower_message? hm
  rw [hd.fetch]
  exact he r m' d hm' hk

end

section
variable {v v' : View} {n : RecId → Nat} (h : v.Holding) (hd : v.Dropped v' n)
include h hd

theorem View.Dropped.zero_of_not_live {r : RecId} (hr : ∀ m dl, v.record r ≠ .live m dl) : n r = 0 := by
  have := hd.entries r
  rw [h.toHeld.entries_zero hr] at this
  omega

theorem View.Dropped.filling_iff {r : RecId} {m : Message} : v'.record r = .filling m ↔ v.record r = .filling m := by
  rw [hd.record]
  constructor
  · intro hr
    obtain ⟨m', hm', -, rfl⟩ := MsgRecord.lower_eq_filling hr
    rw [hd.zero_of_not_live h (by simp [hm']), hm']
    rfl
  · intro hr
    rw [hd.zero_of_not_live h (by simp [hr]), hr]
    exact MsgRecord.lower_zero_filling (h.filling r m hr).1

/-- A record that keeps a holder stays LIVE with the rest of its message. -/
theorem View.Dropped.live_of_holder {r : RecId} {m : Message} {dl : Option Time} (hr : v.record r = .live m dl)
    (hx : 1 ≤ v'.entries r + v.reads r) : v'.record r = .live { m with count := m.count - n r } dl := by
  obtain ⟨h1, -⟩ := h.live r m dl hr
  have := hd.entries r
  rw [hd.record, hr]
  exact MsgRecord.lower_live_pos (by omega)

/-- The records of a direction that went FREE are its dropped entries. -/
theorem View.Dropped.recordsOn (c : ChanId) (d : Dirn) :
    v'.recordsOn c d + v.lost n c d = v.recordsOn c d := by
  unfold View.recordsOn View.lost
  rw [← Finset.sum_add_distrib]
  refine Finset.sum_congr rfl fun r _ => ?_
  rw [hd.record]
  cases hr : v.record r with
  | free => rfl
  | filling m =>
    rw [hd.zero_of_not_live h (by simp [hr]), MsgRecord.lower_zero_filling (h.filling r m hr).1]
    split <;> rfl
  | live m dl =>
    by_cases hk : m.link = .channel c d
    · have hone := h.toHeld.single hr hk
      obtain ⟨h1, -⟩ := h.live r m dl hr
      have hent := hd.entries r
      have hlink : (MsgRecord.live m dl).link? = some (.channel c d) := congrArg some hk
      rw [if_pos hlink, if_pos hlink]
      by_cases hn : n r = 0
      · have hlink' : (MsgRecord.live { m with count := m.count - n r } dl).link? = some (.channel c d) := congrArg some hk
        rw [MsgRecord.lower_live_pos (by omega), if_pos hlink', hn]
      · rw [MsgRecord.lower_live_free (by omega), if_neg (by simp [MsgRecord.link?, MsgRecord.message?])]
        omega
    · have hlink : (MsgRecord.live m dl).link? ≠ some (.channel c d) := fun hx => hk (Option.some.inj hx)
      rw [if_neg hlink, if_neg hlink, if_neg]
      intro hx
      obtain ⟨m', hm', hk'⟩ := Option.map_eq_some_iff.1 hx
      obtain ⟨m'', hm'', rfl⟩ := MsgRecord.lower_message? hm'
      cases hm''
      exact hk hk'

theorem View.Dropped.weight {c : ChanId} {r : RecId} (hr : (∃ m, v.record r = .filling m) ∨ 1 ≤ v.reads r) :
    v'.weight c (some r) = v.weight c (some r) := by
  have hlink : (v'.record r).link? = (v.record r).link? := by
    rcases hr with ⟨m, hm⟩ | hr
    · rw [hm, (hd.filling_iff h).2 hm]
    · cases hx : v.record r with
      | live m dl =>
        rw [hd.live_of_holder h hx (by omega)]
        rfl
      | free =>
        rw [h.toHeld.reads_zero (by simp [hx])] at hr
        omega
      | filling m =>
        rw [h.toHeld.reads_zero (by simp [hx])] at hr
        omega
  simp [View.weight, hlink]

theorem View.Dropped.transfersOn (c : ChanId) : v'.transfersOn c = v.transfersOn c := by
  unfold View.transfersOn
  rw [hd.send, hd.fetch]
  refine congr_arg₂ (· + ·) (Finset.sum_congr rfl fun p _ => ?_) (Finset.sum_congr rfl fun p _ => ?_)
  · cases hp : v.send p with
    | none => rfl
    | some x =>
      obtain ⟨r, k, kind⟩ := x
      obtain ⟨m, hm, -⟩ := h.sender p r k kind hp
      exact hd.weight h (.inl ⟨m, hm⟩)
  · cases hp : v.fetch p with
    | none => rfl
    | some x => exact hd.weight h (.inr (View.one_le_reads hp))

theorem View.Dropped.accounts (c : ChanId) :
    (v'.channel c).Accounts (v'.recordsOn c) (v'.transfersOn c) (v'.Ends c) := by
  rw [hd.channel, hd.transfersOn h]
  exact (h.account c).refundedBy (hd.recordsOn h c _) (hd.recordsOn h c _) fun _ _ => hd.ends

theorem View.Dropped.copies (g : GroupId) : (v'.group g).Copies (v'.copiesOf g) (v'.Copier g) := by
  have hcount : v'.copiesOf g = v.copiesOf g := by
    refine Finset.sum_congr rfl fun r _ => ?_
    have hfill : (v'.record r).fills g = (v.record r).fills g := by
      cases hx : v.record r with
      | filling m => rw [(hd.filling_iff h).2 hx]
      | free => rw [hd.record, hx]; rfl
      | live m dl =>
        cases hy : v'.record r with
        | filling m' =>
          rw [(hd.filling_iff h).1 hy] at hx
          cases hx
        | free => rfl
        | live m' dl' => rfl
    rw [hfill]
  have hcopier : v'.Copier g = v.Copier g := by
    funext a
    unfold View.Copier
    simp only [hd.filling_iff h]
  rw [hcount, hcopier, hd.group]
  exact h.copies g

/-- The laws of holding survive the discard. -/
theorem View.Dropped.holding : v'.Holding := by
  refine ⟨⟨fun r m dl hr => ?_, fun r m hr => ?_, fun p r k kind hp => ?_, fun p r k hp => ?_, fun e => ?_,
    fun e r hr => ?_⟩, hd.accounts h, hd.copies h⟩
  · rw [hd.record] at hr
    obtain ⟨m', hm', hlt, rfl⟩ := MsgRecord.lower_eq_live hr
    obtain ⟨h1, h2, h3, h4⟩ := h.live r m' dl hm'
    have hent := hd.entries r
    have hreads : v'.reads r = v.reads r := View.reads_congr hd.fetch r
    refine ⟨?_, Nat.sub_pos_of_lt hlt, (Nat.sub_le ..).trans h3, fun hg => ?_⟩
    · show m'.count - n r = _
      omega
    · have := h4 hg
      show m'.count - n r = 1
      omega
  · rw [hd.send]
    exact h.filling r m ((hd.filling_iff h).1 hr)
  · rw [hd.send] at hp
    obtain ⟨m, hm, hx⟩ := h.sender p r k kind hp
    exact ⟨m, (hd.filling_iff h).2 hm, hx⟩
  · rw [hd.fetch] at hp
    obtain ⟨m, dl, hm, hx⟩ := h.fetcher p r k hp
    exact ⟨_, dl, hd.live_of_holder h hm (by have := View.one_le_reads hp; omega), hx⟩
  · obtain ⟨q, hs, hq⟩ := hd.role e
    obtain ⟨h1, h2⟩ := h.queue e
    rw [hq, Role.queue_withQueue_of_sublist hs, Role.withQueue_depth]
    exact ⟨h1.sublist hs, hs.length_le.trans h2⟩
  · obtain ⟨q, hs, hq⟩ := hd.role e
    have hr' := hr
    rw [hq, Role.queue_withQueue_of_sublist hs] at hr'
    obtain ⟨m, dl, hm, ht⟩ := h.entry e r (hs.subset hr')
    refine ⟨_, dl, hd.live_of_holder h hm (by have := View.one_le_entries hr; omega), ?_⟩
    rw [hd.face, hd.groupFace, hq, Role.takes_withQueue]
    exact ht

end

theorem View.Dropped.law {v v' : View} {n : RecId → Nat} (h : v.Law) (hd : v.Dropped v' n) : v'.Law := by
  refine ⟨?_, hd.holding h.holding⟩
  rw [hd.face, hd.groupFace, hd.out]
  refine h.named.withQueues fun e => ?_
  obtain ⟨q, -, hq⟩ := hd.role e
  exact ⟨q, hq⟩

end Sys2Proof.Machine
end

section
/-! The accounts of channels and groups when a message begins or ends. -/

namespace Sys2Proof.Machine

/-! ## The account of one channel -/

def LiveChannel.Accounts (l : LiveChannel) (records : Dirn → Nat) (transfers : Nat) (ends : EpId → EpId → Prop) : Prop :=
  (∀ d, (l.direction d).credits + (l.direction d).outstanding = (l.direction d).window ∧
    (l.direction d).outstanding = records d) ∧ l.transfers = transfers ∧ ends l.caller l.callee

theorem Channel.accounts_iff_of_live {x : Channel} {l : LiveChannel} (h : x.live? = some l) {records : Dirn → Nat}
    {t : Nat} {ends : EpId → EpId → Prop} : x.Accounts records t ends ↔ l.Accounts records t ends := by
  cases x <;> cases h <;> exact Iff.rfl

@[simp] theorem Channel.live?_mapLive (x : Channel) (f : LiveChannel → LiveChannel) :
    (x.mapLive f).live? = x.live?.map f := by
  cases x <;> rfl

@[simp] theorem Channel.norm_live? (x : Channel) : x.norm.live? = x.live?.map LiveChannel.norm := by
  cases x <;> rfl

/-- One more on direction d. -/
def bump (records : Dirn → Nat) (d : Dirn) (x : Dirn) : Nat :=
  records x + if x = d then 1 else 0

theorem bump_self (records : Dirn → Nat) (d : Dirn) : bump records d d = records d + 1 := by
  simp [bump]

section
variable {x : Channel} {records : Dirn → Nat} {d : Dirn} {t : Nat} {ends ends' : EpId → EpId → Prop}

theorem Channel.Accounts.mono (h : x.Accounts records t ends) (he : ∀ a b, ends a b → ends' a b) :
    x.Accounts records t ends' := by
  cases x with
  | free => exact h
  | requested a b o dl => exact h
  | opened l =>
    obtain ⟨h1, h2, h3⟩ := h
    exact ⟨h1, h2, he _ _ h3⟩
  | draining l cl dl =>
    obtain ⟨h1, h2, h3⟩ := h
    exact ⟨h1, h2, he _ _ h3⟩
  | aborting a b cl k =>
    obtain ⟨h1, h2, h3⟩ := h
    exact ⟨h1, h2, he _ _ h3⟩

theorem LiveChannel.direction_modDirection (l : LiveChannel) (d k : Dirn) (f : Direction → Direction) :
    (l.modDirection d f).direction k = if k = d then f (l.direction d) else l.direction k := by
  cases d <;> cases k <;> rfl

theorem LiveChannel.modDirection_frame (l : LiveChannel) (d : Dirn) (f : Direction → Direction) :
    (l.modDirection d f).transfers = l.transfers ∧ (l.modDirection d f).caller = l.caller ∧
      (l.modDirection d f).callee = l.callee := by
  cases d <;> exact ⟨rfl, rfl, rfl⟩

/-- A message enters a direction with a credit left (R63). -/
theorem LiveChannel.Accounts.spend {l : LiveChannel} (h : l.Accounts records t ends) (hc : (l.direction d).credits ≠ 0) :
    (l.modDirection d Direction.spend).Accounts (bump records d) t ends := by
  obtain ⟨h1, h2, h3⟩ := h
  obtain ⟨f1, f2, f3⟩ := l.modDirection_frame d Direction.spend
  refine ⟨fun k => ?_, f1.trans h2, by rw [f2, f3]; exact h3⟩
  obtain ⟨g1, g2⟩ := h1 k
  rw [LiveChannel.direction_modDirection]
  by_cases hk : k = d
  · subst hk
    rw [if_pos rfl, bump_self]
    simp only [Direction.spend]
    omega
  · rw [if_neg hk, bump, if_neg hk]
    exact ⟨g1, g2⟩

/-- A message leaves a direction (R68, R83). -/
theorem LiveChannel.Accounts.refund {l : LiveChannel} (h : l.Accounts (bump records d) t ends) :
    (l.modDirection d Direction.refund).Accounts records t ends := by
  obtain ⟨h1, h2, h3⟩ := h
  obtain ⟨f1, f2, f3⟩ := l.modDirection_frame d Direction.refund
  refine ⟨fun k => ?_, f1.trans h2, by rw [f2, f3]; exact h3⟩
  obtain ⟨g1, g2⟩ := h1 k
  rw [LiveChannel.direction_modDirection]
  by_cases hk : k = d
  · subst hk
    rw [bump_self] at g2
    rw [if_pos rfl]
    simp only [Direction.refund]
    omega
  · rw [bump, if_neg hk] at g2
    rw [if_neg hk]
    exact ⟨g1, g2⟩

theorem LiveChannel.Accounts.transfers {l : LiveChannel} {t' : Nat} (h : l.Accounts records t ends) :
    LiveChannel.Accounts { l with transfers := t' } records t' ends := by
  obtain ⟨h1, -, h3⟩ := h
  refine ⟨fun k => ?_, rfl, h3⟩
  have := h1 k
  cases k <;> exact this

theorem LiveChannel.Accounts.ended {l : LiveChannel} (h : l.Accounts (bump records d) (t + 1) ends) :
    (l.ended d true).Accounts records t ends := by
  have hl : l.ended d true = { l.modDirection d Direction.refund with transfers := t } := by
    obtain ⟨-, h2, -⟩ := h
    rw [LiveChannel.ended, if_pos rfl, h2]
    rfl
  rw [hl]
  exact h.refund.transfers

/-- The account when a message ends with its transfer; an ABORTING channel goes FREE with its last transfer (R114). -/
theorem Channel.Accounts.withoutOne (h : x.Accounts (bump records d) (t + 1) ends)
    (hz : x.face = .none → t = 0 → ∀ k, records k = 0) : (x.withoutOne d true).Accounts records t ends := by
  cases x with
  | free =>
    have := h d
    rw [bump_self] at this
    omega
  | requested a b o dl =>
    have := h d
    rw [bump_self] at this
    omega
  | opened l => exact LiveChannel.Accounts.ended h
  | draining l cl dl => exact LiveChannel.Accounts.ended h
  | aborting a b cl k =>
    obtain ⟨h1, h2, h3⟩ := h
    show (if true = false then Channel.aborting a b cl k else if k ≤ 1 then .free else .aborting a b cl (k - 1)).Accounts
      records t ends
    rw [if_neg (by decide)]
    split
    · exact hz rfl (by omega)
    · exact ⟨by omega, by omega, h3⟩

end

theorem Channel.face_withoutOne (x : Channel) (d : Dirn) (b : Bool) : (x.withoutOne d b).face = x.face := by
  cases x with
  | free => rfl
  | requested a b o dl => rfl
  | opened l => cases d <;> rfl
  | draining l cl dl => cases d <;> rfl
  | aborting a b' cl k =>
    show (if b = false then Channel.aborting a b' cl k else if k ≤ 1 then .free else .aborting a b' cl (k - 1)).face = .none
    split_ifs <;> rfl

theorem Channel.norm_withoutOne (x : Channel) (d : Dirn) : (x.withoutOne d true).norm = x.norm.withoutOne d true := by
  cases x with
  | free => rfl
  | requested a b o dl => rfl
  | opened l => cases d <;> rfl
  | draining l cl dl => cases d <;> rfl
  | aborting a b cl k =>
    show (if true = false then Channel.aborting a b cl k else if k ≤ 1 then .free else .aborting a b cl (k - 1)).norm =
      if true = false then Channel.aborting a b { caller := false, callee := false } k else if k ≤ 1 then .free
      else .aborting a b { caller := false, callee := false } (k - 1)
    simp only [Bool.true_eq_false, if_false]
    split_ifs <;> rfl

/-! ## The counts when one record and one unit change -/

section
variable {v v' : View} {r : RecId} (hr : ∀ k, k ≠ r → v'.record k = v.record k)
include hr

theorem View.recordsOn_change (c : ChanId) (d : Dirn) :
    v'.recordsOn c d + (if (v.record r).link? = some (.channel c d) then 1 else 0) =
      v.recordsOn c d + if (v'.record r).link? = some (.channel c d) then 1 else 0 :=
  sum_add_eq_of_eq_off (f := fun k => if (v.record k).link? = some (.channel c d) then 1 else 0)
    (g := fun k => if (v'.record k).link? = some (.channel c d) then 1 else 0) r fun k hk => by rw [hr k hk]

theorem View.copiesOf_change (g : GroupId) :
    v'.copiesOf g + (if (v.record r).fills g then 1 else 0) = v.copiesOf g + if (v'.record r).fills g then 1 else 0 :=
  sum_add_eq_of_eq_off (f := fun k => if (v.record k).fills g then 1 else 0)
    (g := fun k => if (v'.record k).fills g then 1 else 0) r fun k hk => by rw [hr k hk]

theorem View.weight_change {c : ChanId} {k : Option RecId} (h : k ≠ some r ∨ (v'.record r).link? = (v.record r).link?) :
    v'.weight c k = v.weight c k := by
  cases k with
  | none => rfl
  | some k =>
    have hl : (v'.record k).link? = (v.record k).link? := by
      by_cases hk : k = r
      · rw [hk]
        exact h.resolve_left (by simp [hk])
      · rw [hr k hk]
    simp [View.weight, hl]

end

/-- Transfers on a channel when the units of one port change, and no other unit's record leaves its channel. -/
theorem View.transfersOn_change {v v' : View} {c : ChanId} (p : Port)
    (hs : ∀ q, q ≠ p → v'.weight c ((v'.send q).map Prod.fst) = v.weight c ((v.send q).map Prod.fst))
    (hf : ∀ q, q ≠ p → v'.weight c ((v'.fetch q).map Prod.fst) = v.weight c ((v.fetch q).map Prod.fst)) :
    v'.transfersOn c + v.weight c ((v.send p).map Prod.fst) + v.weight c ((v.fetch p).map Prod.fst) =
      v.transfersOn c + v'.weight c ((v'.send p).map Prod.fst) + v'.weight c ((v'.fetch p).map Prod.fst) := by
  have h1 : (∑ q : Port, v'.weight c ((v'.send q).map Prod.fst)) + v.weight c ((v.send p).map Prod.fst) =
      (∑ q : Port, v.weight c ((v.send q).map Prod.fst)) + v'.weight c ((v'.send p).map Prod.fst) :=
    sum_add_eq_of_eq_off p hs
  have h2 : (∑ q : Port, v'.weight c ((v'.fetch q).map Prod.fst)) + v.weight c ((v.fetch p).map Prod.fst) =
      (∑ q : Port, v.weight c ((v.fetch q).map Prod.fst)) + v'.weight c ((v'.fetch p).map Prod.fst) :=
    sum_add_eq_of_eq_off p hf
  unfold View.transfersOn
  omega

theorem View.reads_change {v v' : View} {p : Port} (h : ∀ q, q ≠ p → v'.fetch q = v.fetch q) (r : RecId) :
    v'.reads r + (if (v.fetch p).map Prod.fst = some r then 1 else 0) =
      v.reads r + if (v'.fetch p).map Prod.fst = some r then 1 else 0 :=
  sum_add_eq_of_eq_off (f := fun q => if (v.fetch q).map Prod.fst = some r then 1 else 0)
    (g := fun q => if (v'.fetch q).map Prod.fst = some r then 1 else 0) p fun q hq => by rw [h q hq]

theorem View.entries_change {v v' : View} {e : EpId} (h : ∀ x, x ≠ e → (v'.role x).queue = (v.role x).queue) (r : RecId) :
    v'.entries r + (v.role e).queue.count r = v.entries r + (v'.role e).queue.count r :=
  sum_add_eq_of_eq_off (f := fun x => (v.role x).queue.count r) (g := fun x => (v'.role x).queue.count r) e
    fun x hx => by rw [h x hx]

/-! ## Groups and their copy-ins -/

/-- The copy-in of a group is over. -/
def Group.copyDone : Group → Group
  | .free => .free
  | .active x => .active { x with copyInFlight := false }
  | .dissolving => .free

theorem Group.face_copyDone (x : Group) : x.copyDone.face = x.face := by
  cases x <;> rfl

theorem Group.Copies.done {x : Group} {n : Nat} {copier copier' : EpId → Prop} (h : x.Copies (n + 1) copier)
    (hc : ∀ a, copier a → copier' a) : x.copyDone.Copies n copier' := by
  cases x with
  | free => cases h
  | active x =>
    obtain ⟨h1, h2⟩ := h
    refine ⟨?_, hc _ h2⟩
    show n = if false = true then 1 else 0
    rw [if_neg (by decide)]
    split at h1 <;> omega
  | dissolving => exact Nat.succ.inj h

theorem Group.Copies.mono {x : Group} {n : Nat} {copier copier' : EpId → Prop} (h : x.Copies n copier)
    (hc : ∀ a, copier a → copier' a) : x.Copies n copier' := by
  cases x with
  | free => exact h
  | active x => exact ⟨h.1, hc _ h.2⟩
  | dissolving => exact h

end Sys2Proof.Machine
end

section
/-! How the laws of holding survive the start and the end of a copy-in, an arrival, and the start and the end of a
fetch. -/

namespace Sys2Proof.Machine

/-! ## What one record adds to the counts -/

/-- A record with this link counts 1 on its own direction. -/
def RecLink.share (k : RecLink) (c : ChanId) (d : Dirn) : Nat :=
  if k = .channel c d then 1 else 0

/-- A transfer of a record with this link counts 1 on its own channel. -/
def RecLink.load (k : RecLink) (c : ChanId) : Nat :=
  if onChannel c (some k) then 1 else 0

/-- A copy-in with this link counts 1 at its own group. -/
def RecLink.copy (k : RecLink) (g : GroupId) : Nat :=
  if k = .group g then 1 else 0

theorem RecLink.share_group (g : GroupId) (c : ChanId) (d : Dirn) : (RecLink.group g).share c d = 0 :=
  if_neg (by simp)

theorem RecLink.load_group (g : GroupId) (c : ChanId) : (RecLink.group g).load c = 0 := rfl

theorem RecLink.share_self (c : ChanId) (d x : Dirn) : (RecLink.channel c d).share c x = if x = d then 1 else 0 := by
  simp only [RecLink.share, RecLink.channel.injEq, true_and, eq_comm]

theorem RecLink.load_self (c : ChanId) (d : Dirn) : (RecLink.channel c d).load c = 1 := by
  simp [RecLink.load, onChannel]

theorem RecLink.share_ne {c k : ChanId} (h : k ≠ c) (d x : Dirn) : (RecLink.channel c d).share k x = 0 :=
  if_neg (by simp [h.symm])

theorem RecLink.load_ne {c k : ChanId} (h : k ≠ c) (d : Dirn) : (RecLink.channel c d).load k = 0 := by
  simp [RecLink.load, onChannel, h.symm]

theorem RecLink.copy_channel (c : ChanId) (d : Dirn) (g : GroupId) : (RecLink.channel c d).copy g = 0 :=
  if_neg (by simp)

theorem RecLink.copy_self (g : GroupId) : (RecLink.group g).copy g = 1 := if_pos rfl

theorem RecLink.copy_ne {g k : GroupId} (h : k ≠ g) : (RecLink.group g).copy k = 0 :=
  if_neg (by simp [h.symm])

theorem MsgRecord.share_link (m : Message) (dl : Option Time) (c : ChanId) (d : Dirn) :
    (if (MsgRecord.live m dl).link? = some (.channel c d) then 1 else 0) = m.link.share c d := by
  simp [MsgRecord.link?, MsgRecord.message?, RecLink.share]

theorem MsgRecord.share_link_filling (m : Message) (c : ChanId) (d : Dirn) :
    (if (MsgRecord.filling m).link? = some (.channel c d) then 1 else 0) = m.link.share c d := by
  simp [MsgRecord.link?, MsgRecord.message?, RecLink.share]

theorem MsgRecord.share_link_free (c : ChanId) (d : Dirn) :
    (if MsgRecord.free.link? = some (.channel c d) then 1 else 0) = 0 := by
  simp [MsgRecord.link?, MsgRecord.message?]

/-- A record of channel k has both a direction and the whole weight there. -/
theorem View.weight_eq_load {v : View} {r : RecId} {m : Message} (h : (v.record r).message? = some m) (c : ChanId) :
    v.weight c (some r) = m.link.load c := by
  simp [View.weight, MsgRecord.link?, h, RecLink.load]

/-! ## The parts that each rule has to show -/

section
variable {v v' : View}

theorem View.Takes_of_face {e : EpId} {o : EpId} {k : RecLink} (hf : v'.face = v.face) (hg : v'.groupFace = v.groupFace)
    {q : List RecId} (hr : v'.role e = (v.role e).withQueue q) (h : (v.role e).Takes e v.face v.groupFace o k) :
    (v'.role e).Takes e v'.face v'.groupFace o k := by
  rw [hr, hf, hg, Role.takes_withQueue]
  exact h

/-- Messages of a channel when record r changes but for messages with these ends, and no other fetch begins. -/
theorem View.Ends.change {r : RecId} {c : ChanId} {a b : EpId} (h : v.Ends c a b)
    (hr : ∀ k, k ≠ r → v'.record k = v.record k)
    (hf : ∀ k p, k ≠ r → (v'.fetch p).map Prod.fst = some k → (v.fetch p).map Prod.fst = some k)
    (hm : ∀ m d, (v'.record r).message? = some m → m.link = .channel c d →
      m.origin = d.sender a b ∧ ∀ p, (v'.fetch p).map Prod.fst = some r → p = portOf (d.receiver a b)) :
    v'.Ends c a b := by
  intro k m d hk hl
  by_cases hkr : k = r
  · subst hkr
    exact hm m d hk hl
  · rw [hr k hkr] at hk
    obtain ⟨h1, h2⟩ := h k m d hk hl
    exact ⟨h1, fun p hp => h2 p (hf k p hkr hp)⟩

theorem View.Copier.change {r : RecId} {g : GroupId} {a : EpId} (h : v.Copier g a)
    (hr : ∀ k, k ≠ r → v'.record k = v.record k) (hm : ∀ m, v'.record r = .filling m → m.link = .group g → m.origin = a) :
    v'.Copier g a := by
  intro k m hk hl
  by_cases hkr : k = r
  · subst hkr
    exact hm m hk hl
  · rw [hr k hkr] at hk
    exact h k m hk hl

end

/-! ## A copy-in begins -/

/-- From v to v' the Send Unit of port p begins to fill FREE record r with m, a message of this kind. -/
structure View.Started (v v' : View) (p : Port) (r : RecId) (m : Message) (kind : MsgKind) : Prop where
  idle : v.send p = none
  free : v.record r = .free
  origin : portOf m.origin = p
  count : m.count = 1
  ofKind : kind = .group ↔ m.isGroup = true
  role : v'.role = v.role
  send : v'.send = Function.update v.send p (some (r, m.blocks.length, kind))
  fetch : v'.fetch = v.fetch
  record : v'.record = Function.update v.record r (.filling m)
  out : v'.out = v.out
  face : v'.face = v.face
  groupFace : v'.groupFace = v.groupFace
  account : ∀ c, (v'.channel c).Accounts (fun d => v.recordsOn c d + m.link.share c d)
    (v.transfersOn c + m.link.load c) fun a b => v.Ends c a b ∧ ∀ d, m.link = .channel c d → m.origin = d.sender a b
  copies : ∀ g, (v'.group g).Copies (v.copiesOf g + m.link.copy g) fun a =>
    v.Copier g a ∧ (m.link = .group g → m.origin = a)

section
variable {v v' : View} {p : Port} {r : RecId} {m : Message} {kind : MsgKind} (h : v.Holding) (hs : v.Started v' p r m kind)
include hs

theorem View.Started.record_self : v'.record r = .filling m := by
  rw [hs.record, Function.update_self]

theorem View.Started.record_ne {k : RecId} (hk : k ≠ r) : v'.record k = v.record k := by
  rw [hs.record, Function.update_of_ne hk]

theorem View.Started.send_ne {q : Port} (hq : q ≠ p) : v'.send q = v.send q := by
  rw [hs.send, Function.update_of_ne hq]

theorem View.Started.recordsOn (c : ChanId) (d : Dirn) : v'.recordsOn c d = v.recordsOn c d + m.link.share c d := by
  have := View.recordsOn_change (fun k hk => hs.record_ne hk) c d
  rw [hs.record_self, hs.free, MsgRecord.share_link_free, MsgRecord.share_link_filling] at this
  omega

theorem View.Started.copiesOf (g : GroupId) : v'.copiesOf g = v.copiesOf g + m.link.copy g := by
  have := View.copiesOf_change (fun k hk => hs.record_ne hk) g
  rw [hs.record_self, hs.free] at this
  simpa [MsgRecord.fills, RecLink.copy] using this

include h

theorem View.Started.transfersOn (c : ChanId) : v'.transfersOn c = v.transfersOn c + m.link.load c := by
  have hother {k : RecId} (hk : k ≠ r) : v'.weight c (some k) = v.weight c (some k) :=
    View.weight_change (fun k hk => hs.record_ne hk) (.inl (by simpa using hk))
  have := View.transfersOn_change (v := v) (v' := v') (c := c) p (fun q hq => ?_) fun q _ => ?_
  · rw [hs.idle, hs.fetch, hs.send, Function.update_self] at this
    have hself : v'.weight c (some r) = m.link.load c := View.weight_eq_load (by rw [hs.record_self]; rfl) c
    have hfetch : v'.weight c ((v.fetch p).map Prod.fst) = v.weight c ((v.fetch p).map Prod.fst) := by
      cases hp : v.fetch p with
      | none => rfl
      | some x =>
        obtain ⟨y, dl, hy, -⟩ := h.fetcher p x.1 x.2 hp
        refine hother ?_
        rintro rfl
        rw [hs.free] at hy
        cases hy
    simp only [Option.map_some, Option.map_none] at this
    rw [hself, hfetch, show v.weight c none = 0 from rfl] at this
    omega
  · rw [hs.send_ne hq]
    cases hp : v.send q with
    | none => rfl
    | some x =>
      obtain ⟨y, hy, -⟩ := h.sender q x.1 x.2.1 x.2.2 hp
      refine hother ?_
      rintro rfl
      rw [hs.free] at hy
      cases hy
  · rw [hs.fetch]
    cases hp : v.fetch q with
    | none => rfl
    | some x =>
      obtain ⟨y, dl, hy, -⟩ := h.fetcher q x.1 x.2 hp
      refine hother ?_
      rintro rfl
      rw [hs.free] at hy
      cases hy

theorem View.Started.held : v'.Held := by
  have nonfree {k : RecId} {x : MsgRecord} (hk : v.record k = x) (hx : x ≠ .free) : k ≠ r := by
    rintro rfl
    exact hx (hk.symm.trans hs.free)
  refine ⟨fun k y dl hk => ?_, fun k y hk => ?_, fun q k n kd hq => ?_, fun q k n hq => ?_, ?_, fun e k hk => ?_⟩
  · have hkr : k ≠ r := by
      rintro rfl
      rw [hs.record_self] at hk
      cases hk
    rw [hs.record_ne hkr] at hk
    have hent : v'.entries k = v.entries k := View.entries_congr (fun e => by rw [hs.role]) k
    rw [hent, View.reads_congr hs.fetch k]
    exact h.live k y dl hk
  · by_cases hkr : k = r
    · subst hkr
      rw [hs.record_self] at hk
      cases hk
      refine ⟨hs.count, (m.blocks.length, kind), ?_⟩
      rw [hs.origin, hs.send, Function.update_self]
    · rw [hs.record_ne hkr] at hk
      obtain ⟨h1, x, h2⟩ := h.filling k y hk
      refine ⟨h1, x, ?_⟩
      rw [hs.send_ne, h2]
      intro hp
      rw [hp, hs.idle] at h2
      cases h2
  · by_cases hqp : q = p
    · rw [hs.send, hqp, Function.update_self] at hq
      cases hq
      exact ⟨m, hs.record_self, hs.origin.trans hqp.symm, rfl, hs.ofKind⟩
    · rw [hs.send_ne hqp] at hq
      obtain ⟨y, hy, hrest⟩ := h.sender q k n kd hq
      exact ⟨y, (hs.record_ne (nonfree hy (by simp))).trans hy, hrest⟩
  · rw [hs.fetch] at hq
    obtain ⟨y, dl, hy, hrest⟩ := h.fetcher q k n hq
    exact ⟨y, dl, (hs.record_ne (nonfree hy (by simp))).trans hy, hrest⟩
  · rw [hs.role]
    exact h.queue
  · rw [hs.role] at hk
    obtain ⟨y, dl, hy, ht⟩ := h.entry e k hk
    refine ⟨y, dl, (hs.record_ne (nonfree hy (by simp))).trans hy, ?_⟩
    rw [hs.role, hs.face, hs.groupFace]
    exact ht

theorem View.Started.holding : v'.Holding := by
  refine ⟨hs.held h, fun c => ?_, fun g => ?_⟩
  · rw [show v'.recordsOn c = _ from funext fun d => hs.recordsOn c d, hs.transfersOn h]
    refine (hs.account c).mono fun a b he => he.1.change (fun k hk => hs.record_ne hk) (fun k q _ => by rw [hs.fetch]; exact id)
      fun y d hy hl => ?_
    rw [hs.record_self] at hy
    cases hy
    refine ⟨he.2 d hl, fun q hq => ?_⟩
    rw [hs.fetch] at hq
    obtain ⟨x, hx, hxr⟩ := Option.map_eq_some_iff.1 hq
    obtain ⟨y, dl, hy, -⟩ := h.fetcher q x.1 x.2 hx
    rw [hxr, hs.free] at hy
    cases hy
  · rw [hs.copiesOf]
    refine (hs.copies g).mono fun a ha => ha.1.change (fun k hk => hs.record_ne hk) fun y hy hl => ?_
    rw [hs.record_self] at hy
    cases hy
    exact ha.2 hl

end

theorem View.Started.law {v v' : View} {p : Port} {r : RecId} {m : Message} {kind : MsgKind} (h : v.Law)
    (hs : v.Started v' p r m kind) : v'.Law := by
  refine ⟨?_, hs.holding h.holding⟩
  rw [hs.role, hs.face, hs.groupFace, hs.out]
  exact h.named

end Sys2Proof.Machine
end

section
/-! How the laws of holding survive the end of a copy-in and an arrival in queues. -/

namespace Sys2Proof.Machine

/-! ## Channels and groups one transfer less -/

/-- Channel c when a transfer of a message with link k ends other than by delivery. -/
def Channel.less (k : RecLink) (c : ChanId) (x : Channel) : Channel :=
  match k with
  | .channel j d => if c = j then x.withoutOne d true else x
  | .group _ => x

/-- Group g when a copy-in of a message with link k ends. -/
def Group.less (k : RecLink) (g : GroupId) (x : Group) : Group :=
  match k with
  | .channel _ _ => x
  | .group j => if g = j then x.copyDone else x

@[simp] theorem Channel.face_less (k : RecLink) (c : ChanId) (x : Channel) : (x.less k c).face = x.face := by
  cases k with
  | group g => rfl
  | channel j d =>
    show (if c = j then x.withoutOne d true else x).face = x.face
    split
    · exact Channel.face_withoutOne x d true
    · rfl

@[simp] theorem Group.face_less (k : RecLink) (g : GroupId) (x : Group) : (x.less k g).face = x.face := by
  cases k with
  | channel c d => rfl
  | group j =>
    show (if g = j then x.copyDone else x).face = x.face
    split
    · exact Group.face_copyDone x
    · rfl

theorem Channel.Accounts.less {x : Channel} {k : RecLink} {c : ChanId} {records : Dirn → Nat} {t : Nat}
    {ends : EpId → EpId → Prop} (h : x.Accounts (fun d => records d + k.share c d) (t + k.load c) ends)
    (hz : x.face = .none → t = 0 → ∀ d, records d = 0) : (x.less k c).Accounts records t ends := by
  cases k with
  | group g =>
    simp only [RecLink.share_group, RecLink.load_group, Nat.add_zero] at h
    exact h
  | channel j d =>
    show (if c = j then x.withoutOne d true else x).Accounts records t ends
    by_cases hc : c = j
    · subst hc
      simp only [RecLink.share_self, RecLink.load_self] at h
      rw [if_pos rfl]
      exact Channel.Accounts.withoutOne h hz
    · simp only [RecLink.share_ne hc, RecLink.load_ne hc, Nat.add_zero] at h
      rw [if_neg hc]
      exact h

theorem Group.Copies.less {x : Group} {k : RecLink} {g : GroupId} {n : Nat} {copier copier' : EpId → Prop}
    (h : x.Copies (n + k.copy g) copier) (hc : ∀ a, copier a → copier' a) : (x.less k g).Copies n copier' := by
  cases k with
  | channel c d =>
    rw [RecLink.copy_channel, Nat.add_zero] at h
    exact h.mono hc
  | group j =>
    show (if g = j then x.copyDone else x).Copies n copier'
    by_cases hg : g = j
    · subst hg
      rw [RecLink.copy_self] at h
      rw [if_pos rfl]
      exact h.done hc
    · rw [RecLink.copy_ne hg, Nat.add_zero] at h
      rw [if_neg hg]
      exact h.mono hc

/-! ## A copy-in ends -/

/-- From v to v' the copy-in at port p of record r, which holds m, ends with nothing delivered. -/
structure View.Unfilled (v v' : View) (p : Port) (r : RecId) (m : Message) (n : Nat) (kind : MsgKind) : Prop where
  was : v.send p = some (r, n, kind)
  filling : v.record r = .filling m
  role : v'.role = v.role
  fetch : v'.fetch = v.fetch
  out : v'.out = v.out
  send : v'.send = Function.update v.send p none
  record : v'.record = Function.update v.record r .free
  channel : ∀ c, v'.channel c = (v.channel c).less m.link c
  group : ∀ g, v'.group g = (v.group g).less m.link g

section
variable {v v' : View} {p : Port} {r : RecId} {m : Message} {n : Nat} {kind : MsgKind} (h : v.Holding)
  (hs : v.Unfilled v' p r m n kind)
include hs

theorem View.Unfilled.record_self : v'.record r = .free := by
  rw [hs.record, Function.update_self]

theorem View.Unfilled.record_ne {k : RecId} (hk : k ≠ r) : v'.record k = v.record k := by
  rw [hs.record, Function.update_of_ne hk]

theorem View.Unfilled.send_ne {q : Port} (hq : q ≠ p) : v'.send q = v.send q := by
  rw [hs.send, Function.update_of_ne hq]

theorem View.Unfilled.record_of_some {k : RecId} {x : MsgRecord} (hk : v'.record k = x) (hx : x ≠ .free) :
    v.record k = x := by
  rw [← hk, hs.record_ne]
  rintro rfl
  exact hx (hk.symm.trans hs.record_self)

theorem View.Unfilled.record_live {k : RecId} {y : Message} {dl : Option Time} (hk : v.record k = .live y dl) :
    v'.record k = .live y dl := by
  rw [hs.record_ne, hk]
  rintro rfl
  rw [hs.filling] at hk
  cases hk

theorem View.Unfilled.face : v'.face = v.face := by
  funext c
  show (v'.channel c).face = _
  rw [hs.channel, Channel.face_less]
  rfl

theorem View.Unfilled.groupFace : v'.groupFace = v.groupFace := by
  funext g
  show (v'.group g).face = _
  rw [hs.group, Group.face_less]
  rfl

theorem View.Unfilled.recordsOn (c : ChanId) (d : Dirn) : v.recordsOn c d = v'.recordsOn c d + m.link.share c d := by
  have := View.recordsOn_change (fun k hk => hs.record_ne hk) c d
  rw [hs.record_self, hs.filling, MsgRecord.share_link_free, MsgRecord.share_link_filling] at this
  omega

theorem View.Unfilled.copiesOf (g : GroupId) : v.copiesOf g = v'.copiesOf g + m.link.copy g := by
  have := View.copiesOf_change (fun k hk => hs.record_ne hk) g
  rw [hs.record_self, hs.filling] at this
  simpa [MsgRecord.fills, RecLink.copy] using this.symm

include h

/-- No other unit has the record. -/
theorem View.Unfilled.sender_ne {q : Port} {x : RecId × Nat × MsgKind} (hq : q ≠ p) (hx : v.send q = some x) : x.1 ≠ r := by
  obtain ⟨y, hy, ho, -⟩ := h.sender q x.1 x.2.1 x.2.2 hx
  obtain ⟨z, hz, ho', -⟩ := h.sender p r n kind hs.was
  intro hr
  rw [hr, hz] at hy
  cases hy
  exact hq (ho.symm.trans ho')

theorem View.Unfilled.transfersOn (c : ChanId) : v.transfersOn c = v'.transfersOn c + m.link.load c := by
  have hother {k : RecId} (hk : k ≠ r) : v'.weight c (some k) = v.weight c (some k) :=
    View.weight_change (fun k hk => hs.record_ne hk) (.inl (by simpa using hk))
  have hfetch (q : Port) : v'.weight c ((v'.fetch q).map Prod.fst) = v.weight c ((v.fetch q).map Prod.fst) := by
    rw [hs.fetch]
    cases hp : v.fetch q with
    | none => rfl
    | some x =>
      obtain ⟨y, dl, hy, -⟩ := h.fetcher q x.1 x.2 hp
      refine hother ?_
      rintro rfl
      rw [hs.filling] at hy
      cases hy
  have := View.transfersOn_change (v := v) (v' := v') (c := c) p (fun q hq => ?_) fun q _ => hfetch q
  · have hself : v.weight c (some r) = m.link.load c := View.weight_eq_load (by rw [hs.filling]; rfl) c
    rw [hfetch, hs.was, hs.send, Function.update_self] at this
    simp only [Option.map_some, Option.map_none] at this
    rw [hself, show v'.weight c none = 0 from rfl] at this
    omega
  · rw [hs.send_ne hq]
    cases hp : v.send q with
    | none => rfl
    | some x => exact hother (hs.sender_ne h hq hp)

theorem View.Unfilled.held : v'.Held := by
  refine ⟨fun k y dl hk => ?_, fun k y hk => ?_, fun q k n kd hq => ?_, fun q k n hq => ?_, ?_, fun e k hk => ?_⟩
  · have hent : v'.entries k = v.entries k := View.entries_congr (fun e => by rw [hs.role]) k
    rw [hent, View.reads_congr hs.fetch k]
    exact h.live k y dl (hs.record_of_some hk (by simp))
  · have hk' := hs.record_of_some hk (by simp)
    obtain ⟨h1, x, h2⟩ := h.filling k y hk'
    refine ⟨h1, x, ?_⟩
    rw [hs.send_ne, h2]
    intro hp
    rw [hp, hs.was] at h2
    cases h2
    rw [hs.record_self] at hk
    cases hk
  · have hqp : q ≠ p := by
      rintro rfl
      rw [hs.send, Function.update_self] at hq
      cases hq
    rw [hs.send_ne hqp] at hq
    obtain ⟨y, hy, hrest⟩ := h.sender q k n kd hq
    exact ⟨y, (hs.record_ne (hs.sender_ne h hqp hq)).trans hy, hrest⟩
  · rw [hs.fetch] at hq
    obtain ⟨y, dl, hy, hrest⟩ := h.fetcher q k n hq
    exact ⟨y, dl, hs.record_live hy, hrest⟩
  · rw [hs.role]
    exact h.queue
  · rw [hs.role] at hk
    obtain ⟨y, dl, hy, ht⟩ := h.entry e k hk
    refine ⟨y, dl, hs.record_live hy, ?_⟩
    rw [hs.role, hs.face, hs.groupFace]
    exact ht

theorem View.Unfilled.holding : v'.Holding := by
  have held := hs.held h
  refine ⟨held, fun c => ?_, fun g => ?_⟩
  · have hx := h.account c
    rw [show v.recordsOn c = _ from funext fun d => hs.recordsOn c d, hs.transfersOn h] at hx
    rw [hs.channel]
    refine (hx.less fun hface ht => held.recordsOn_zero (fun d e hd => ?_) ht).mono fun a b he =>
      he.change (fun k hk => hs.record_ne hk) (fun k q _ => by rw [hs.fetch]; exact id) fun y d hy _ => ?_
    · rw [hs.face, show v.face c = .none from hface] at hd
      cases hd
    · rw [hs.record_self] at hy
      cases hy
  · rw [hs.group]
    have hx := h.copies g
    rw [hs.copiesOf] at hx
    refine hx.less fun a ha => ha.change (fun k hk => hs.record_ne hk) fun y hy _ => ?_
    rw [hs.record_self] at hy
    cases hy

end

theorem View.Unfilled.law {v v' : View} {p : Port} {r : RecId} {m : Message} {n : Nat} {kind : MsgKind} (h : v.Law)
    (hs : v.Unfilled v' p r m n kind) : v'.Law := by
  refine ⟨?_, hs.holding h.holding⟩
  rw [hs.role, hs.face, hs.groupFace, hs.out]
  exact h.named

/-! ## An arrival -/

theorem Role.queue_withQueue_of_lt {x : Role} (h : x.queue.length < x.depth) (q : List RecId) :
    (x.withQueue q).queue = q := by
  cases x with
  | connected c e k n => rfl
  | closing c e k n => rfl
  | member g k n => rfl
  | idle => cases h
  | listening f => cases h
  | offered c e f o => cases h
  | calling c e => cases h
  | publisher g => cases h

/-- From v to v' a message enters the queues of endpoints that have room for it. -/
structure View.Arrived (v v' : View) (r : RecId) (m : Message) (l : List EpId) : Prop where
  free : v.record r = .free
  count : m.count = l.length
  pos : 1 ≤ l.length
  le : l.length ≤ 12
  single : m.isGroup = false → l.length = 1
  nodup : l.Nodup
  room : ∀ e ∈ l, (v.role e).queue.length < (v.role e).depth ∧ (v.role e).Takes e v.face v.groupFace m.origin m.link
  role : ∀ e, v'.role e = if e ∈ l then (v.role e).withQueue ((v.role e).queue ++ [r]) else v.role e
  record : v'.record = Function.update v.record r (.live m none)
  send : v'.send = v.send
  fetch : v'.fetch = v.fetch
  out : v'.out = v.out
  group : v'.group = v.group
  face : v'.face = v.face
  account : ∀ c, (v'.channel c).Accounts (fun d => v.recordsOn c d + m.link.share c d) (v.transfersOn c)
    fun a b => v.Ends c a b ∧ ∀ d, m.link = .channel c d → m.origin = d.sender a b

section
variable {v v' : View} {r : RecId} {m : Message} {l : List EpId} (h : v.Holding) (hs : v.Arrived v' r m l)
include hs

theorem View.Arrived.record_self : v'.record r = .live m none := by
  rw [hs.record, Function.update_self]

theorem View.Arrived.record_ne {k : RecId} (hk : k ≠ r) : v'.record k = v.record k := by
  rw [hs.record, Function.update_of_ne hk]

theorem View.Arrived.record_of_some {k : RecId} {x : MsgRecord} (hk : v.record k = x) (hx : x ≠ .free) :
    k ≠ r ∧ v'.record k = x := by
  have hkr : k ≠ r := by
    rintro rfl
    exact hx (hk.symm.trans hs.free)
  exact ⟨hkr, (hs.record_ne hkr).trans hk⟩

theorem View.Arrived.groupFace : v'.groupFace = v.groupFace := by
  funext g
  show (v'.group g).face = _
  rw [hs.group]
  rfl

theorem View.Arrived.queue (e : EpId) :
    (v'.role e).queue = if e ∈ l then (v.role e).queue ++ [r] else (v.role e).queue := by
  rw [hs.role]
  by_cases he : e ∈ l
  · rw [if_pos he, if_pos he]
    exact Role.queue_withQueue_of_lt (hs.room e he).1 _
  · rw [if_neg he, if_neg he]

theorem View.Arrived.withQueue (e : EpId) : ∃ q, v'.role e = (v.role e).withQueue q := by
  rw [hs.role]
  by_cases he : e ∈ l
  · exact ⟨_, if_pos he⟩
  · exact ⟨(v.role e).queue, by rw [if_neg he, Role.withQueue_self]⟩

theorem View.Arrived.recordsOn (c : ChanId) (d : Dirn) : v'.recordsOn c d = v.recordsOn c d + m.link.share c d := by
  have := View.recordsOn_change (fun k hk => hs.record_ne hk) c d
  rw [hs.record_self, hs.free, MsgRecord.share_link_free, MsgRecord.share_link] at this
  omega

theorem View.Arrived.copiesOf (g : GroupId) : v'.copiesOf g = v.copiesOf g := by
  have := View.copiesOf_change (fun k hk => hs.record_ne hk) g
  rw [hs.record_self, hs.free] at this
  simpa [MsgRecord.fills] using this

theorem View.Arrived.entries_ne {k : RecId} (hk : k ≠ r) : v'.entries k = v.entries k := by
  refine Finset.sum_congr rfl fun e _ => ?_
  rw [hs.queue]
  split
  · rw [List.count_append, List.count_singleton, if_neg (by simpa using hk.symm), Nat.add_zero]
  · rfl

include h

theorem View.Arrived.entries_self : v'.entries r = l.length := by
  have hno (e : EpId) : (v.role e).queue.count r = 0 := List.count_eq_zero.2 fun he => by
    obtain ⟨y, dl, hy, -⟩ := h.entry e r he
    rw [hs.free] at hy
    cases hy
  have hterm (e : EpId) : (v'.role e).queue.count r = if e ∈ l.toFinset then 1 else 0 := by
    rw [hs.queue]
    by_cases he : e ∈ l
    · rw [if_pos he, if_pos (List.mem_toFinset.2 he), List.count_append, hno, List.count_singleton_self]
    · rw [if_neg he, if_neg (by simpa using he), hno]
  unfold View.entries
  rw [Finset.sum_congr rfl fun e _ => hterm e, Finset.sum_ite_mem, Finset.univ_inter, Finset.sum_const, smul_eq_mul,
    Nat.mul_one, List.toFinset_card_of_nodup hs.nodup]

theorem View.Arrived.transfersOn (c : ChanId) : v'.transfersOn c = v.transfersOn c := by
  have hother {k : RecId} (hk : k ≠ r) : v'.weight c (some k) = v.weight c (some k) :=
    View.weight_change (fun k hk => hs.record_ne hk) (.inl (by simpa using hk))
  unfold View.transfersOn
  rw [hs.send, hs.fetch]
  refine congr_arg₂ (· + ·) (Finset.sum_congr rfl fun q _ => ?_) (Finset.sum_congr rfl fun q _ => ?_)
  · cases hq : v.send q with
    | none => rfl
    | some x =>
      obtain ⟨y, hy, -⟩ := h.sender q x.1 x.2.1 x.2.2 hq
      exact hother (hs.record_of_some hy (by simp)).1
  · cases hq : v.fetch q with
    | none => rfl
    | some x =>
      obtain ⟨y, dl, hy, -⟩ := h.fetcher q x.1 x.2 hq
      exact hother (hs.record_of_some hy (by simp)).1

theorem View.Arrived.held : v'.Held := by
  refine ⟨fun k y dl hk => ?_, fun k y hk => ?_, fun q k n kd hq => ?_, fun q k n hq => ?_, fun e => ?_, fun e k hk => ?_⟩
  · rw [View.reads_congr hs.fetch k]
    by_cases hkr : k = r
    · subst hkr
      rw [hs.record_self] at hk
      cases hk
      have hreads : v.reads k = 0 := h.toHeld.reads_zero (by simp [hs.free])
      rw [hs.entries_self h, hreads, hs.count]
      exact ⟨rfl, hs.pos, hs.le, hs.single⟩
    · rw [hs.record_ne hkr] at hk
      rw [hs.entries_ne hkr]
      exact h.live k y dl hk
  · have hkr : k ≠ r := by
      rintro rfl
      rw [hs.record_self] at hk
      cases hk
    rw [hs.record_ne hkr] at hk
    rw [hs.send]
    exact h.filling k y hk
  · rw [hs.send] at hq
    obtain ⟨y, hy, hrest⟩ := h.sender q k n kd hq
    exact ⟨y, (hs.record_of_some hy (by simp)).2, hrest⟩
  · rw [hs.fetch] at hq
    obtain ⟨y, dl, hy, hrest⟩ := h.fetcher q k n hq
    exact ⟨y, dl, (hs.record_of_some hy (by simp)).2, hrest⟩
  · obtain ⟨h1, h2⟩ := h.queue e
    obtain ⟨q, hq⟩ := hs.withQueue e
    have hdepth : (v'.role e).depth = (v.role e).depth := by rw [hq, Role.withQueue_depth]
    rw [hs.queue, hdepth]
    by_cases he : e ∈ l
    · rw [if_pos he, List.length_append]
      refine ⟨h1.append (List.nodup_singleton r) fun k hk hkr => ?_, (hs.room e he).1⟩
      obtain ⟨y, dl, hy, -⟩ := h.entry e k hk
      exact (hs.record_of_some hy (by simp)).1 (List.mem_singleton.1 hkr)
    · rw [if_neg he]
      exact ⟨h1, h2⟩
  · obtain ⟨q, hq⟩ := hs.withQueue e
    have takes {y : Message} (ht : (v.role e).Takes e v.face v.groupFace y.origin y.link) :
        (v'.role e).Takes e v'.face v'.groupFace y.origin y.link := View.Takes_of_face hs.face hs.groupFace hq ht
    have old (hk : k ∈ (v.role e).queue) : ∃ m dl, v'.record k = .live m dl ∧
        (v'.role e).Takes e v'.face v'.groupFace m.origin m.link := by
      obtain ⟨y, dl, hy, ht⟩ := h.entry e k hk
      exact ⟨y, dl, (hs.record_of_some hy (by simp)).2, takes ht⟩
    rw [hs.queue] at hk
    by_cases he : e ∈ l
    · rw [if_pos he, List.mem_append, List.mem_singleton] at hk
      rcases hk with hk | rfl
      · exact old hk
      · exact ⟨m, none, hs.record_self, takes (hs.room e he).2⟩
    · rw [if_neg he] at hk
      exact old hk

theorem View.Arrived.holding : v'.Holding := by
  refine ⟨hs.held h, fun c => ?_, fun g => ?_⟩
  · rw [show v'.recordsOn c = _ from funext fun d => hs.recordsOn c d, hs.transfersOn h]
    refine (hs.account c).mono fun a b he => he.1.change (fun k hk => hs.record_ne hk) (fun k q _ => by rw [hs.fetch]; exact id)
      fun y d hy hl => ?_
    rw [hs.record_self] at hy
    cases hy
    refine ⟨he.2 d hl, fun q hq => ?_⟩
    rw [hs.fetch] at hq
    obtain ⟨x, hx, hxr⟩ := Option.map_eq_some_iff.1 hq
    obtain ⟨y, dl, hy, -⟩ := h.fetcher q x.1 x.2 hx
    rw [hxr, hs.free] at hy
    cases hy
  · rw [hs.copiesOf, hs.group]
    refine (h.copies g).mono fun a ha => ha.change (fun k hk => hs.record_ne hk) fun y hy _ => ?_
    rw [hs.record_self] at hy
    cases hy

end

theorem View.Arrived.law {v v' : View} {r : RecId} {m : Message} {l : List EpId} (h : v.Law)
    (hs : v.Arrived v' r m l) : v'.Law := by
  refine ⟨?_, hs.holding h.holding⟩
  rw [hs.face, hs.groupFace, hs.out]
  exact h.named.withQueues hs.withQueue

end Sys2Proof.Machine
end

section
/-! How the laws of holding survive the start and the end of a fetch. -/

namespace Sys2Proof.Machine

theorem Role.Takes.receiver {r : Role} {e o : EpId} {face : ChanId → Face}
    {group : GroupId → Option (EpId × List EpId)} {c : ChanId} {d : Dirn} (h : r.Takes e face group o (.channel c d)) :
    (face c).receiver? d = some e := by
  cases r with
  | connected k x q n =>
    obtain ⟨d', hk, hd⟩ := h
    cases hk
    exact hd
  | closing k x q n =>
    obtain ⟨d', hk, hd⟩ := h
    cases hk
    exact hd
  | member g q n => cases h.1
  | idle => exact h.elim
  | listening f => exact h.elim
  | offered c a f o => exact h.elim
  | calling c b => exact h.elim
  | publisher g => exact h.elim

/-- What a receiver on a direction is, by the ends that an account of the channel speaks of. -/
theorem Channel.Accounts.receiver {x : Channel} {records : Dirn → Nat} {t : Nat} {ends ends' : EpId → EpId → Prop}
    {d : Dirn} {e : EpId} (h : x.Accounts records t ends) (hd : x.face.receiver? d = some e)
    (he : ∀ a b, d.receiver a b = e → ends a b → ends' a b) : x.Accounts records t ends' := by
  cases x with
  | free => exact h
  | requested a b o dl => exact h
  | opened l =>
    obtain ⟨h1, h2, h3⟩ := h
    exact ⟨h1, h2, he _ _ (by cases d <;> exact Option.some.inj hd) h3⟩
  | draining l cl dl =>
    obtain ⟨h1, h2, h3⟩ := h
    exact ⟨h1, h2, he _ _ (by cases d <;> exact Option.some.inj hd) h3⟩
  | aborting a b cl k => cases hd

def LiveChannel.moreTransfers (n : Nat) (l : LiveChannel) : LiveChannel :=
  { l with transfers := l.transfers + n }

theorem LiveChannel.Accounts.moreTransfers {l : LiveChannel} {records : Dirn → Nat} {t n : Nat} {ends : EpId → EpId → Prop}
    (h : l.Accounts records t ends) : (l.moreTransfers n).Accounts records (t + n) ends := by
  have ht : l.transfers = t := h.2.1
  subst ht
  exact h.transfers

theorem Channel.Accounts.moreTransfers {x : Channel} {records : Dirn → Nat} {t n : Nat} {ends : EpId → EpId → Prop}
    (h : x.Accounts records t ends) (hx : x.face = .none → n = 0) :
    (x.mapLive (LiveChannel.moreTransfers n)).Accounts records (t + n) ends := by
  cases x with
  | free => exact h
  | requested a b o dl => exact h
  | opened l => exact LiveChannel.Accounts.moreTransfers h
  | draining l cl dl => exact LiveChannel.Accounts.moreTransfers h
  | aborting a b cl k =>
    rw [hx rfl, Nat.add_zero]
    exact h

/-! ## A fetch begins -/

/-- From v to v' the Fetch Unit of port p begins to read record r, the head of the queue of endpoint e. -/
structure View.FetchBegun (v v' : View) (p : Port) (e : EpId) (r : RecId) (m : Message) (q : List RecId) : Prop where
  idle : v.fetch p = none
  live : v.record r = .live m none
  place : portOf e = p
  queue : (v.role e).queue = r :: q
  role : v'.role = Function.update v.role e ((v.role e).withQueue q)
  record : v'.record = v.record
  send : v'.send = v.send
  fetch : v'.fetch = Function.update v.fetch p (some (r, m.blocks.length))
  out : v'.out = v.out
  group : v'.group = v.group
  channel : ∀ c, v'.channel c = (v.channel c).mapLive (LiveChannel.moreTransfers (m.link.load c))

section
variable {v v' : View} {p : Port} {e : EpId} {r : RecId} {m : Message} {q : List RecId} (h : v.Holding)
  (hs : v.FetchBegun v' p e r m q)
include hs

theorem View.FetchBegun.fetch_self : v'.fetch p = some (r, m.blocks.length) := by
  rw [hs.fetch, Function.update_self]

theorem View.FetchBegun.fetch_ne {x : Port} (hx : x ≠ p) : v'.fetch x = v.fetch x := by
  rw [hs.fetch, Function.update_of_ne hx]

theorem View.FetchBegun.face : v'.face = v.face := by
  funext c
  show (v'.channel c).face = _
  rw [hs.channel]
  exact Channel.face_mapLive fun _ => ⟨rfl, rfl, rfl, rfl⟩

theorem View.FetchBegun.groupFace : v'.groupFace = v.groupFace := by
  funext g
  show (v'.group g).face = _
  rw [hs.group]
  rfl

theorem View.FetchBegun.withQueue (x : EpId) : ∃ k, k.Sublist (v.role x).queue ∧ v'.role x = (v.role x).withQueue k := by
  rw [hs.role]
  by_cases hx : x = e
  · subst hx
    refine ⟨q, ?_, Function.update_self ..⟩
    rw [hs.queue]
    exact List.sublist_cons_self r q
  · exact ⟨(v.role x).queue, List.Sublist.refl _, by rw [Function.update_of_ne hx, Role.withQueue_self]⟩

theorem View.FetchBegun.reads (k : RecId) : v'.reads k = v.reads k + if k = r then 1 else 0 := by
  have := View.reads_change (fun x hx => hs.fetch_ne hx) k
  rw [hs.fetch_self, hs.idle] at this
  simp only [Option.map_none, Option.map_some, Option.some.injEq, reduceCtorEq, if_false, Nat.add_zero] at this
  rw [this]
  simp only [eq_comm]

theorem View.FetchBegun.queue_self : (v'.role e).queue = q := by
  rw [hs.role, Function.update_self]
  refine Role.queue_withQueue_of_sublist ?_
  rw [hs.queue]
  exact List.sublist_cons_self r q

theorem View.FetchBegun.entries (k : RecId) : v.entries k = v'.entries k + if k = r then 1 else 0 := by
  have := View.entries_change (v := v) (v' := v') (e := e) (fun x hx => by rw [hs.role, Function.update_of_ne hx]) k
  rw [hs.queue_self, hs.queue, List.count_cons] at this
  simp only [beq_iff_eq, eq_comm (a := r)] at this
  omega

theorem View.FetchBegun.recordsOn (c : ChanId) : v'.recordsOn c = v.recordsOn c :=
  congrFun (View.recordsOn_congr hs.record) c

theorem View.FetchBegun.transfersOn (c : ChanId) : v'.transfersOn c = v.transfersOn c + m.link.load c := by
  have := View.transfersOn_change (v := v) (v' := v') (c := c) p (fun x _ => ?_) fun x hx => ?_
  · have hself : v'.weight c (some r) = m.link.load c :=
      View.weight_eq_load (by rw [hs.record, hs.live]; rfl) c
    rw [hs.fetch_self, hs.idle, hs.send, View.weight_congr hs.record] at this
    simp only [Option.map_some, Option.map_none] at this
    rw [hself, show v.weight c none = 0 from rfl] at this
    omega
  · rw [hs.send]
    exact View.weight_congr hs.record c _
  · rw [hs.fetch_ne hx]
    exact View.weight_congr hs.record c _

include h

theorem View.FetchBegun.takes : (v.role e).Takes e v.face v.groupFace m.origin m.link := by
  obtain ⟨y, dl, hy, ht⟩ := h.entry e r (by rw [hs.queue]; exact List.mem_cons_self)
  rw [hs.live] at hy
  cases hy
  exact ht

theorem View.FetchBegun.accounts (c : ChanId) :
    (v'.channel c).Accounts (v'.recordsOn c) (v'.transfersOn c) (v'.Ends c) := by
  have old {a b : EpId} (he : v.Ends c a b) (hm : ∀ d, m.link = .channel c d → d.receiver a b = e) : v'.Ends c a b := by
    intro k y d hk hl
    rw [hs.record] at hk
    obtain ⟨h1, h2⟩ := he k y d hk hl
    refine ⟨h1, fun x hx => ?_⟩
    by_cases hxp : x = p
    · rw [hxp, hs.fetch_self] at hx
      cases hx
      rw [hs.live] at hk
      cases hk
      rw [hxp, hm d hl, hs.place]
    · rw [hs.fetch_ne hxp] at hx
      exact h2 x hx
  have hacc := h.account c
  rw [hs.channel, hs.recordsOn, hs.transfersOn]
  refine Channel.Accounts.moreTransfers ?_ fun hface => ?_
  · by_cases hon : ∃ d, m.link = .channel c d
    · obtain ⟨d, hd⟩ := hon
      have ht := hs.takes h
      rw [hd] at ht
      refine hacc.receiver (d := d) ht.receiver fun a b hab he => old he fun d' hd' => ?_
      rw [hd] at hd'
      cases hd'
      exact hab
    · exact hacc.mono fun a b he => old he fun d hd => absurd ⟨d, hd⟩ hon
  · cases hl : m.link with
    | group g => exact RecLink.load_group g c
    | channel k d =>
      refine RecLink.load_ne ?_ d
      rintro rfl
      have ht := hs.takes h
      rw [hl] at ht
      have hr := ht.receiver
      rw [show v.face c = .none from hface] at hr
      cases hr

theorem View.FetchBegun.holding : v'.Holding := by
  refine ⟨⟨fun k y dl hk => ?_, fun k y hk => ?_, fun x k n kd hx => ?_, fun x k n hx => ?_, fun x => ?_,
    fun x k hk => ?_⟩, hs.accounts h, fun g => ?_⟩
  · rw [hs.record] at hk
    obtain ⟨h1, hrest⟩ := h.live k y dl hk
    refine ⟨?_, hrest⟩
    have h2 := hs.entries k
    have h3 := hs.reads k
    omega
  · rw [hs.record] at hk
    rw [hs.send]
    exact h.filling k y hk
  · rw [hs.send] at hx
    rw [hs.record]
    exact h.sender x k n kd hx
  · rw [hs.record]
    by_cases hxp : x = p
    · rw [hxp, hs.fetch_self] at hx
      cases hx
      exact ⟨m, none, hs.live, rfl⟩
    · rw [hs.fetch_ne hxp] at hx
      exact h.fetcher x k n hx
  · obtain ⟨k, hsub, hk⟩ := hs.withQueue x
    obtain ⟨h1, h2⟩ := h.queue x
    rw [hk, Role.queue_withQueue_of_sublist hsub, Role.withQueue_depth]
    exact ⟨h1.sublist hsub, hsub.length_le.trans h2⟩
  · obtain ⟨q', hsub, hq⟩ := hs.withQueue x
    rw [hq, Role.queue_withQueue_of_sublist hsub] at hk
    obtain ⟨y, dl, hy, ht⟩ := h.entry x k (hsub.subset hk)
    exact ⟨y, dl, by rw [hs.record]; exact hy, View.Takes_of_face hs.face hs.groupFace hq ht⟩
  · rw [congrFun (View.copiesOf_congr hs.record) g, congrFun (View.copier_congr hs.record) g, hs.group]
    exact h.copies g

end

theorem View.FetchBegun.law {v v' : View} {p : Port} {e : EpId} {r : RecId} {m : Message} {q : List RecId} (h : v.Law)
    (hs : v.FetchBegun v' p e r m q) : v'.Law := by
  refine ⟨?_, hs.holding h.holding⟩
  rw [hs.face, hs.groupFace, hs.out]
  refine h.named.withQueues fun x => ?_
  obtain ⟨k, -, hk⟩ := hs.withQueue x
  exact ⟨k, hk⟩

/-! ## A fetch ends -/

/-- From v to v' the fetch of record r at port p ends, and with it one holder of the record. -/
structure View.FetchEnded (v v' : View) (p : Port) (r : RecId) (m : Message) (n : Nat) : Prop where
  was : v.fetch p = some (r, n)
  live : v.record r = .live m none
  role : v'.role = v.role
  send : v'.send = v.send
  out : v'.out = v.out
  group : v'.group = v.group
  fetch : v'.fetch = Function.update v.fetch p none
  record : v'.record = Function.update v.record r ((MsgRecord.live m none).lower 1)
  channel : ∀ c, v'.channel c = (v.channel c).less m.link c

section
variable {v v' : View} {p : Port} {r : RecId} {m : Message} {n : Nat} (h : v.Holding) (hs : v.FetchEnded v' p r m n)
include hs

theorem View.FetchEnded.record_self : v'.record r = (MsgRecord.live m none).lower 1 := by
  rw [hs.record, Function.update_self]

theorem View.FetchEnded.record_ne {k : RecId} (hk : k ≠ r) : v'.record k = v.record k := by
  rw [hs.record, Function.update_of_ne hk]

theorem View.FetchEnded.fetch_ne {x : Port} (hx : x ≠ p) : v'.fetch x = v.fetch x := by
  rw [hs.fetch, Function.update_of_ne hx]

theorem View.FetchEnded.fetch_self : v'.fetch p = none := by
  rw [hs.fetch, Function.update_self]

theorem View.FetchEnded.face : v'.face = v.face := by
  funext c
  show (v'.channel c).face = _
  rw [hs.channel, Channel.face_less]
  rfl

theorem View.FetchEnded.groupFace : v'.groupFace = v.groupFace := by
  funext g
  show (v'.group g).face = _
  rw [hs.group]
  rfl

theorem View.FetchEnded.entries (k : RecId) : v'.entries k = v.entries k :=
  View.entries_congr (fun e => by rw [hs.role]) k

theorem View.FetchEnded.reads (k : RecId) : v.reads k = v'.reads k + if k = r then 1 else 0 := by
  have := View.reads_change (fun x hx => hs.fetch_ne hx) k
  rw [hs.fetch_self, hs.was] at this
  simp only [Option.map_none, Option.map_some, Option.some.injEq, reduceCtorEq, if_false, Nat.add_zero] at this
  rw [← this]
  simp only [eq_comm]

theorem View.FetchEnded.filling_iff {k : RecId} {y : Message} : v'.record k = .filling y ↔ v.record k = .filling y := by
  by_cases hk : k = r
  · subst hk
    rw [hs.record_self, hs.live]
    constructor
    · intro hx
      obtain ⟨m', hm', -⟩ := MsgRecord.lower_eq_filling hx
      cases hm'
    · intro hx
      cases hx
  · rw [hs.record_ne hk]

include h

/-- A record with another holder stays LIVE with the same link and blocks. -/
theorem View.FetchEnded.live_of_holder {k : RecId} {y : Message} {dl : Option Time} (hk : v.record k = .live y dl)
    (hx : 1 ≤ v'.entries k + v'.reads k) :
    ∃ y', v'.record k = .live y' dl ∧ y'.link = y.link ∧ y'.origin = y.origin ∧ y'.blocks = y.blocks := by
  by_cases hkr : k = r
  · subst hkr
    rw [hs.live] at hk
    cases hk
    obtain ⟨h1, -⟩ := h.live k m none hs.live
    have h2 := hs.entries k
    have h3 := hs.reads k
    rw [if_pos rfl] at h3
    exact ⟨_, hs.record_self.trans (MsgRecord.lower_live_pos (by omega)), rfl, rfl, rfl⟩
  · exact ⟨y, (hs.record_ne hkr).trans hk, rfl, rfl, rfl⟩

theorem View.FetchEnded.fetcher {x : Port} {k : RecId} {i : Nat} (hx : v'.fetch x = some (k, i)) :
    x ≠ p ∧ v.fetch x = some (k, i) ∧ ∃ y dl y', v.record k = .live y dl ∧ v'.record k = .live y' dl ∧ y'.link = y.link ∧
      i = y'.blocks.length := by
  have hxp : x ≠ p := by
    rintro rfl
    rw [hs.fetch_self] at hx
    cases hx
  have hx' := hx
  rw [hs.fetch_ne hxp] at hx'
  obtain ⟨y, dl, hy, hi⟩ := h.fetcher x k i hx'
  obtain ⟨y', hy', hl, -, hb⟩ := hs.live_of_holder h hy (by have := View.one_le_reads hx; omega)
  exact ⟨hxp, hx', y, dl, y', hy, hy', hl, by rw [hb]; exact hi⟩

/-- The record is gone when it is a channel's, and else keeps its link. -/
theorem View.FetchEnded.link :
    (v'.record r).link? = some m.link ∧ m.isGroup = true ∨
      v'.record r = .free := by
  rw [hs.record_self]
  obtain ⟨-, -, -, h4⟩ := h.live r m none hs.live
  by_cases hm : m.count ≤ 1
  · exact .inr (MsgRecord.lower_live_free hm)
  · refine .inl ⟨by rw [MsgRecord.lower_live_pos (by omega)]; rfl, ?_⟩
    by_contra hg
    have := h4 (by simpa using hg)
    omega

theorem View.FetchEnded.recordsOn (c : ChanId) (d : Dirn) : v.recordsOn c d = v'.recordsOn c d + m.link.share c d := by
  have := View.recordsOn_change (fun k hk => hs.record_ne hk) c d
  rw [hs.live, MsgRecord.share_link] at this
  rcases hs.link h with ⟨hl, hg⟩ | hf
  · rw [hl] at this
    have hz : m.link.share c d = 0 := by
      cases hk : m.link with
      | group g => exact RecLink.share_group g c d
      | channel k d' => simp [Message.isGroup, hk] at hg
    rw [hz] at this ⊢
    rw [if_neg (fun hx => by rw [Option.some.inj hx] at hz; simp [RecLink.share] at hz)] at this
    omega
  · rw [hf, MsgRecord.share_link_free] at this
    omega

theorem View.FetchEnded.transfersOn (c : ChanId) : v.transfersOn c = v'.transfersOn c + m.link.load c := by
  have hother {k : RecId} (hk : k ≠ r) : v'.weight c (some k) = v.weight c (some k) :=
    View.weight_change (fun k hk => hs.record_ne hk) (.inl (by simpa using hk))
  have hsend (x : Port) : v'.weight c ((v'.send x).map Prod.fst) = v.weight c ((v.send x).map Prod.fst) := by
    rw [hs.send]
    cases hp : v.send x with
    | none => rfl
    | some y =>
      obtain ⟨z, hz, -⟩ := h.sender x y.1 y.2.1 y.2.2 hp
      refine hother ?_
      rintro rfl
      rw [hs.live] at hz
      cases hz
  have := View.transfersOn_change (v := v) (v' := v') (c := c) p (fun x _ => hsend x) fun x hx => ?_
  · have hself : v.weight c (some r) = m.link.load c := View.weight_eq_load (by rw [hs.live]; rfl) c
    rw [hsend, hs.was, hs.fetch_self] at this
    simp only [Option.map_some, Option.map_none] at this
    rw [hself, show v'.weight c none = 0 from rfl] at this
    omega
  · cases hp : v'.fetch x with
    | none =>
      rw [hs.fetch_ne hx] at hp
      rw [hp]
      rfl
    | some y =>
      obtain ⟨-, hy, z, dl, z', hz, hz', hl, -⟩ := hs.fetcher h hp
      rw [hy]
      show v'.weight c (some y.1) = v.weight c (some y.1)
      rw [View.weight_eq_load (m := z') (by rw [hz']; rfl), View.weight_eq_load (m := z) (by rw [hz]; rfl), hl]

theorem View.FetchEnded.held : v'.Held := by
  refine ⟨fun k y dl hk => ?_, fun k y hk => ?_, fun x k n kd hx => ?_, fun x k n hx => ?_, ?_, fun e k hk => ?_⟩
  · have h2 := hs.entries k
    have h3 := hs.reads k
    by_cases hkr : k = r
    · subst hkr
      rw [hs.record_self] at hk
      obtain ⟨m', hm', hlt, rfl⟩ := MsgRecord.lower_eq_live hk
      cases hm'
      obtain ⟨h4, h5, h6, h7⟩ := h.live k m none hs.live
      rw [if_pos rfl] at h3
      show m.count - 1 = _ ∧ 1 ≤ m.count - 1 ∧ m.count - 1 ≤ 12 ∧ (m.isGroup = false → m.count - 1 = 1)
      refine ⟨by omega, by omega, by omega, fun hg => ?_⟩
      have := h7 hg
      omega
    · rw [if_neg hkr] at h3
      rw [hs.record_ne hkr] at hk
      rw [h2, ← Nat.add_zero (v'.reads k), ← h3]
      exact h.live k y dl hk
  · rw [hs.send]
    exact h.filling k y (hs.filling_iff.1 hk)
  · rw [hs.send] at hx
    obtain ⟨y, hy, hrest⟩ := h.sender x k n kd hx
    exact ⟨y, hs.filling_iff.2 hy, hrest⟩
  · obtain ⟨-, -, -, dl, y', -, hy', -, hn⟩ := hs.fetcher h hx
    exact ⟨y', dl, hy', hn⟩
  · rw [hs.role]
    exact h.queue
  · have hent := View.one_le_entries hk
    rw [hs.role] at hk
    obtain ⟨y, dl, hy, ht⟩ := h.entry e k hk
    obtain ⟨y', hy', hl, ho, -⟩ := hs.live_of_holder h hy (by omega)
    refine ⟨y', dl, hy', ?_⟩
    rw [hs.role, hs.face, hs.groupFace, hl, ho]
    exact ht

theorem View.FetchEnded.holding : v'.Holding := by
  have held := hs.held h
  refine ⟨held, fun c => ?_, fun g => ?_⟩
  · have hx := h.account c
    rw [show v.recordsOn c = _ from funext fun d => hs.recordsOn h c d, hs.transfersOn h] at hx
    rw [hs.channel]
    refine (hx.less fun hface ht => held.recordsOn_zero (fun d e hd => ?_) ht).mono fun a b he k y d hk hl => ?_
    · rw [hs.face, show v.face c = .none from hface] at hd
      cases hd
    · have hy : ∃ y', (v.record k).message? = some y' ∧ y'.link = y.link ∧ y'.origin = y.origin := by
        by_cases hkr : k = r
        · subst hkr
          rw [hs.record_self] at hk
          obtain ⟨y', hy', rfl⟩ := MsgRecord.lower_message? hk
          rw [hs.live]
          exact ⟨y', hy', rfl, rfl⟩
        · rw [hs.record_ne hkr] at hk
          exact ⟨y, hk, rfl, rfl⟩
      obtain ⟨y', hy', hl', ho'⟩ := hy
      obtain ⟨h1, h2⟩ := he k y' d hy' (hl'.trans hl)
      refine ⟨ho' ▸ h1, fun x hx => h2 x ?_⟩
      by_cases hxp : x = p
      · rw [hxp, hs.fetch_self] at hx
        cases hx
      · rwa [hs.fetch_ne hxp] at hx
  · have hcopies : v'.copiesOf g = v.copiesOf g := by
      have := View.copiesOf_change (fun k hk => hs.record_ne hk) g
      rw [hs.live, show (v'.record r).fills g = false by
        cases hx : v'.record r with
        | filling y =>
          have := hs.filling_iff.1 hx
          rw [hs.live] at this
          cases this
        | free => rfl
        | live y dl => rfl] at this
      simpa [MsgRecord.fills] using this
    rw [hcopies, hs.group]
    exact (h.copies g).mono fun a ha k y hk => ha k y (hs.filling_iff.1 hk)

end

theorem View.FetchEnded.law {v v' : View} {p : Port} {r : RecId} {m : Message} {n : Nat} (h : v.Law)
    (hs : v.FetchEnded v' p r m n) : v'.Law := by
  refine ⟨?_, hs.holding h.holding⟩
  rw [hs.role, hs.face, hs.groupFace, hs.out]
  exact h.named

end Sys2Proof.Machine
end

section
/-! What each operation on the state does to the view. -/

namespace Sys2Proof.Machine

/-! ## States with the same view -/

section
variable {s t : State}

theorem out_of_state {p : Port} (h : (t.port p).state = (s.port p).state) : t.out p = s.out p := by
  funext b
  unfold State.out
  rw [online_congr h, awaits_congr h]

theorem out_of_cores (h : t.cores = s.cores) : t.out = s.out :=
  funext fun p => out_of_state (state_of_cores h p)

theorem sendUnit_of_cores (h : t.cores = s.cores) (p : Port) : (t.port p).sendUnit = (s.port p).sendUnit :=
  congrArg (fun x => x.2.2.2.2.2.1) (core_of_cores h p)

theorem fetchUnit_of_cores (h : t.cores = s.cores) (p : Port) : (t.port p).fetchUnit = (s.port p).fetchUnit :=
  congrArg (fun x => x.2.2.2.2.2.2.2.2.1) (core_of_cores h p)

theorem view_send_of_cores (h : t.cores = s.cores) : t.view.send = s.view.send :=
  funext fun p => congrArg (Option.map CopyIn.span) (sendUnit_of_cores h p)

theorem view_fetch_of_cores (h : t.cores = s.cores) : t.view.fetch = s.view.fetch :=
  funext fun p => congrArg (Option.map CopyOut.span) (fetchUnit_of_cores h p)

theorem view_eq (hk : t.cores = s.cores) (hr : ∀ e, t.role e = s.role e) (hm : ∀ r, (t.record r).norm = (s.record r).norm)
    (hc : ∀ c, (t.channel c).norm = (s.channel c).norm) (hg : ∀ g, (t.group g).norm = (s.group g).norm) :
    t.view = s.view :=
  View.ext (funext hr) (funext hm) (funext hc) (funext hg) (view_send_of_cores hk) (view_fetch_of_cores hk) (out_of_cores hk)

theorem view_congr (hk : t.cores = s.cores) (he : t.endpoints = s.endpoints) (hm : t.records = s.records)
    (hc : t.channels = s.channels) (hg : t.groups = s.groups) : t.view = s.view :=
  view_eq hk (fun e => congrArg Endpoint.role (endpoint_congr he e)) (fun r => congrArg _ (record_congr hm r))
    (fun c => congrArg _ (channel_congr hc c)) fun g => congrArg _ (group_congr hg g)

end

/-! ## Operations that the view does not show -/

section
variable (s : State)

@[simp] theorem view_setCond (p : Port) (it : Item) (c : Cond) : (s.setCond p it c).view = s.view :=
  view_congr (by simp) (by simp) (by simp) (by simp) (by simp)

@[simp] theorem view_setEndpointCond (e : EpId) (c : Cond) : (s.setEndpointCond e c).view = s.view :=
  view_setCond ..

@[simp] theorem view_setPortCond (p : Port) (c : Cond) : (s.setPortCond p c).view = s.view :=
  view_setCond ..

@[simp] theorem view_removeConds (p : Port) (it : Item) (x : CondSet) : (s.removeConds p it x).view = s.view :=
  view_congr (by simp) (by simp) (by simp) (by simp) (by simp)

@[simp] theorem view_reevaluate (p : Port) : (s.reevaluate p).view = s.view :=
  view_congr (by simp) (by simp) (by simp) (by simp) (by simp)

@[simp] theorem view_reevaluateAll : s.reevaluateAll.view = s.view :=
  view_congr (by simp) (by simp) (by simp) (by simp) (by simp)

@[simp] theorem view_tellPeers (p : Port) : (s.tellPeers p).view = s.view :=
  view_congr (by simp) (by simp) (by simp) (by simp) (by simp)

@[simp] theorem view_placeRequest (q : Requester) : (s.placeRequest q).view = s.view := rfl

@[simp] theorem view_dropRequest (q : Requester) : (s.dropRequest q).view = s.view := rfl

@[simp] theorem view_grant : s.grant.view = s.view := rfl

@[simp] theorem view_writeBlock (b : BlockId) (l : List Byte) : (s.writeBlock b l).view = s.view := rfl

@[simp] theorem view_writePosition (p : Port) (r : RecId) (k : Nat) : (s.writePosition p r k).view = s.view :=
  view_congr (by simp) (by simp) (by simp) (by simp) (by simp)

/-- A change of a port that keeps its state and the work of its units. -/
theorem view_modPort (p : Port) (f : PortRec → PortRec) (h1 : (f (s.port p)).state = (s.port p).state)
    (h2 : (f (s.port p)).sendUnit.map CopyIn.span = (s.port p).sendUnit.map CopyIn.span)
    (h3 : (f (s.port p)).fetchUnit.map CopyOut.span = (s.port p).fetchUnit.map CopyOut.span) :
    (s.modPort p f).view = s.view :=
  View.ext rfl rfl rfl rfl (funext fun q => modPort_part (fun x => x.sendUnit.map CopyIn.span) s p f h2 q)
    (funext fun q => modPort_part (fun x => x.fetchUnit.map CopyOut.span) s p f h3 q)
    (funext fun q => out_of_state (modPort_part PortRec.state s p f h1 q))

theorem view_closeAt (e : EpId) (o : CloseOutcome) (n : Nat) : (s.closeAt e o n).view = s.view := by
  refine view_eq (by simp) (fun k => ?_) (fun r => by rw [record_congr (closeAt_records ..)])
    (fun c => by rw [channel_congr (closeAt_channels ..)]) fun g => by rw [group_congr (closeAt_groups ..)]
  show ((s.closeAt e o n).endpoint k).role = _
  rw [closeAt_endpoint_eq]
  split
  · next h => rw [h.1]; rfl
  · rfl

end

/-! ## Operations on one part -/

section
variable (s : State)

theorem view_modEndpoint (e : EpId) (f : Endpoint → Endpoint) :
    (s.modEndpoint e f).view = s.view.setRole e (f (s.endpoint e)).role := by
  refine View.ext (funext fun k => ?_) rfl rfl rfl rfl rfl rfl
  show ((s.modEndpoint e f).endpoint k).role = Function.update s.role e _ k
  rw [endpoint_modEndpoint]
  by_cases h : k = e
  · rw [if_pos h, h, Function.update_self]
  · rw [if_neg h, Function.update_of_ne h]
    rfl

theorem view_setRole (e : EpId) (r : Role) : (s.setRole e r).view = s.view.setRole e r :=
  view_modEndpoint s e _

theorem view_setChannel (c : ChanId) (x : Channel) : (s.setChannel c x).view = s.view.setChannel c x.norm := by
  refine View.ext rfl rfl (funext fun k => ?_) rfl rfl rfl rfl
  show ((s.setChannel c x).channel k).norm = Function.update s.view.channel c _ k
  by_cases h : k = c
  · rw [h, channel_setChannel_self, Function.update_self]
  · rw [channel_setChannel_ne s x h, Function.update_of_ne h]
    rfl

theorem view_setGroup (g : GroupId) (x : Group) : (s.setGroup g x).view = s.view.setGroup g x.norm := by
  refine View.ext rfl rfl rfl (funext fun k => ?_) rfl rfl rfl
  show ((s.setGroup g x).group k).norm = Function.update s.view.group g _ k
  by_cases h : k = g
  · rw [h, group_setGroup_self, Function.update_self]
  · rw [group_setGroup_ne s x h, Function.update_of_ne h]
    rfl

theorem view_setRecord (r : RecId) (x : MsgRecord) : (s.setRecord r x).view = s.view.setRecord r x.norm := by
  refine View.ext rfl (funext fun k => ?_) rfl rfl rfl rfl rfl
  show ((s.setRecord r x).record k).norm = Function.update s.view.record r _ k
  by_cases h : k = r
  · rw [h, record_setRecord_self, Function.update_self]
  · rw [record_setRecord_ne s x h, Function.update_of_ne h]
    rfl

theorem view_modPort_send (p : Port) (f : PortRec → PortRec) (h1 : (f (s.port p)).state = (s.port p).state)
    (h3 : (f (s.port p)).fetchUnit.map CopyOut.span = (s.port p).fetchUnit.map CopyOut.span) :
    (s.modPort p f).view = s.view.setSend p ((f (s.port p)).sendUnit.map CopyIn.span) := by
  refine View.ext rfl rfl rfl rfl (funext fun q => ?_)
    (funext fun q => modPort_part (fun x => x.fetchUnit.map CopyOut.span) s p f h3 q)
    (funext fun q => out_of_state (modPort_part PortRec.state s p f h1 q))
  show ((s.modPort p f).port q).sendUnit.map CopyIn.span = Function.update s.view.send p _ q
  by_cases h : q = p
  · rw [h, port_modPort_self, Function.update_self]
  · rw [port_modPort_ne s f h, Function.update_of_ne h]
    rfl

theorem view_modPort_fetch (p : Port) (f : PortRec → PortRec) (h1 : (f (s.port p)).state = (s.port p).state)
    (h2 : (f (s.port p)).sendUnit.map CopyIn.span = (s.port p).sendUnit.map CopyIn.span) :
    (s.modPort p f).view = s.view.setFetch p ((f (s.port p)).fetchUnit.map CopyOut.span) := by
  refine View.ext rfl rfl rfl rfl (funext fun q => modPort_part (fun x => x.sendUnit.map CopyIn.span) s p f h2 q)
    (funext fun q => ?_) (funext fun q => out_of_state (modPort_part PortRec.state s p f h1 q))
  show ((s.modPort p f).port q).fetchUnit.map CopyOut.span = Function.update s.view.fetch p _ q
  by_cases h : q = p
  · rw [h, port_modPort_self, Function.update_self]
  · rw [port_modPort_ne s f h, Function.update_of_ne h]
    rfl

/-- A change that keeps the units changes of the view what is out of service alone. -/
theorem view_modPort_state (p : Port) (f : PortRec → PortRec) (h2 : (f (s.port p)).sendUnit = (s.port p).sendUnit)
    (h3 : (f (s.port p)).fetchUnit = (s.port p).fetchUnit) :
    (s.modPort p f).view = { s.view with out := (s.modPort p f).out } :=
  View.ext rfl rfl rfl rfl
    (funext fun q => congrArg (Option.map CopyIn.span) (modPort_part PortRec.sendUnit s p f h2 q))
    (funext fun q => congrArg (Option.map CopyOut.span) (modPort_part PortRec.fetchUnit s p f h3 q)) rfl

/-! ## Claims -/

theorem norm_modMessage_of_norm {x : MsgRecord} {f : Message → Message} (h : ∀ m, (f m).norm = m.norm) :
    (x.mapMessage f).norm = x.norm := by
  cases x with
  | free => rfl
  | filling m => exact congrArg MsgRecord.filling (h m)
  | live m d => exact congrArg (MsgRecord.live · none) (h m)

theorem view_modMessage (r : RecId) (f : Message → Message) (h : ∀ m, (f m).norm = m.norm) :
    (s.modMessage r f).view = s.view := by
  refine (view_setRecord ..).trans (View.ext rfl (funext fun k => ?_) rfl rfl rfl rfl rfl)
  show Function.update s.view.record r _ k = s.view.record k
  rw [norm_modMessage_of_norm h]
  by_cases hk : k = r
  · rw [hk, Function.update_self]
    rfl
  · rw [Function.update_of_ne hk]

theorem view_badMark (r : RecId) (b : BlockId) : (s.badMark r b).view = s.view :=
  view_modMessage s r _ fun _ => rfl

theorem norm_lower_filling (m : Message) (n : Nat) :
    (MsgRecord.filling m).norm.lower n = if m.count ≤ n then .free else .filling { m.norm with count := m.count - n } :=
  if_congr Nat.sub_eq_zero_iff_le rfl rfl

theorem norm_lower_live (m : Message) (d : Option Time) (n : Nat) :
    (MsgRecord.live m d).norm.lower n = if m.count ≤ n then .free else .live { m.norm with count := m.count - n } none :=
  if_congr Nat.sub_eq_zero_iff_le rfl rfl

theorem claim_record_norm (r : RecId) (n : Nat) (k : Option TallyKind) (c : Cause) :
    ((s.claim r n k c).record r).norm = (s.record r).norm.lower n := by
  cases hx : s.record r with
  | free =>
    have : s.claim r n k c = s := by
      unfold State.claim
      rw [hx]
      rfl
    rw [this, hx]
    rfl
  | filling m =>
    have hm : (s.record r).message? = some m := by rw [hx]; rfl
    rw [norm_lower_filling]
    split
    · next h => rw [claim_record_released s hm h]; rfl
    · next h => rw [claim_record_kept s hm (by omega), hx]; rfl
  | live m d =>
    have hm : (s.record r).message? = some m := by rw [hx]; rfl
    rw [norm_lower_live]
    split
    · next h => rw [claim_record_released s hm h]; rfl
    · next h => rw [claim_record_kept s hm (by omega), hx]; rfl

theorem view_claim (r : RecId) (n : Nat) (k : Option TallyKind) (c : Cause) :
    (s.claim r n k c).view = s.view.setRecord r ((s.view.record r).lower n) := by
  refine View.ext (funext fun e => ?_) (funext fun x => ?_) (funext fun x => ?_) (funext fun x => ?_)
    (view_send_of_cores (by simp)) (view_fetch_of_cores (by simp)) (out_of_cores (by simp))
  · exact congrArg Endpoint.role (endpoint_congr (by simp) e)
  · show ((s.claim r n k c).record x).norm = Function.update s.view.record r _ x
    by_cases h : x = r
    · rw [h, Function.update_self]
      exact claim_record_norm ..
    · rw [claim_record_ne s n k c h, Function.update_of_ne h]
      rfl
  · exact congrArg Channel.norm (channel_congr (by simp) x)
  · exact congrArg Group.norm (group_congr (by simp) x)

end

end Sys2Proof.Machine
end

section
/-! The laws of naming and holding through the commands and events that place, settle and end a request. -/

namespace Sys2Proof.Machine

/-! ## Rules over a view -/

theorem View.setRole_comm (v : View) {a b : EpId} (h : a ≠ b) (x y : Role) :
    (v.setRole a x).setRole b y = (v.setRole b y).setRole a x :=
  have hrole : Function.update (Function.update v.role a x) b y = Function.update (Function.update v.role b y) a x :=
    Function.update_comm h x y v.role
  View.ext hrole rfl rfl rfl rfl rfl rfl

theorem View.setRole_apply (v : View) (e k : EpId) (x : Role) : (v.setRole e x).role k = if k = e then x else v.role k :=
  Function.update_apply ..

section
variable {v : View} (h : v.Law)
include h

/-- An endpoint with no link changes between IDLE and LISTENING, at a port whose endpoints are in use. -/
theorem View.Law.rest {e : EpId} {x : Role} (he : v.role e = .idle ∨ ∃ f, v.role e = .listening f)
    (hx : x = .idle ∨ ∃ f, x = .listening f) (ho : ¬v.out (portOf e) .endpointTable) : (v.setRole e x).Law := by
  have hrole (k : EpId) : (v.setRole e x).role k = if k = e then x else v.role k := View.setRole_apply ..
  have hbare {y : Role} (hy : y = .idle ∨ ∃ f, y = .listening f) : y.channel? = none ∧ y.group? = none ∧ y.queue = [] := by
    rcases hy with rfl | ⟨f, rfl⟩ <;> exact ⟨rfl, rfl, rfl⟩
  obtain ⟨hc, hg, hq⟩ := hbare he
  obtain ⟨hc', hg', hq'⟩ := hbare hx
  have hne {k : EpId} (hk : Gone v.role v.out k) : k ≠ e := fun hke => ho (hke ▸ hk.2)
  refine ⟨⟨fun k => ?_, h.named.distinct, fun c k hk => ?_, h.named.sound, fun g a l hgl k hk => ?_, fun k hk => ?_,
    h.named.noEnd, h.named.noMember⟩, h.holding.relink rfl rfl rfl (fun k => ?_) (fun k hk => ?_) h.holding.account
      h.holding.copies⟩
  · rw [hrole]
    split
    · rcases hx with rfl | ⟨f, rfl⟩ <;> trivial
    · exact h.named.backed k
  · rcases h.named.ends c k hk with hx | hx
    · exact .inl ⟨by rw [hrole, if_neg (hne hx)]; exact hx.1, hx.2⟩
    · refine .inr ?_
      rw [hrole, if_neg]
      · exact hx
      · rintro rfl
        exact absurd (hc.symm.trans hx) (by simp)
  · rcases h.named.members g a l hgl k hk with hx | hx
    · exact .inl ⟨by rw [hrole, if_neg (hne hx)]; exact hx.1, hx.2⟩
    · refine .inr ?_
      rw [hrole, if_neg]
      · exact hx
      · rintro rfl
        exact absurd (hg.symm.trans hx) (by simp)
  · have hke : k ≠ e := by
      rintro rfl
      exact ho hk
    rw [hrole, if_neg hke]
    exact h.named.idle k hk
  · rw [hrole]
    split
    · next hk => rw [hk, hq, hq']
    · rfl
  · have hke : k ≠ e := by
      rintro rfl
      exact hk hq
    rw [hrole, if_neg hke]
    exact ⟨rfl, fun o j ht => ht⟩

/-- A request is placed on a FREE channel (R41). -/
theorem View.Law.request {c : ChanId} {a b : EpId} {f : Filter} (o : Offer) (dl : Time) (hc : v.channel c = .free)
    (ha : v.role a = .idle) (hb : v.role b = .listening f) (hne : a ≠ b) (hoa : ∀ x, ¬v.out (portOf a) x)
    (hob : ∀ x, ¬v.out (portOf b) x) :
    (((v.setChannel c (.requested a b o dl)).setRole a (.calling c b)).setRole b (.offered c a f o)).Law := by
  have hface : v.face c = .none := by
    show (v.channel c).face = _
    rw [hc]
    rfl
  have hacc := h.holding.account c
  rw [hc] at hacc
  have hqa : (v.role a).queue = [] := by rw [ha]; rfl
  have hqb : (v.role b).queue = [] := by rw [hb]; rfl
  have hrole (k : EpId) : Function.update (Function.update v.role a (.calling c b)) b (.offered c a f o) k =
      if k = b then .offered c a f o else if k = a then .calling c b else v.role k := by
    rw [Function.update_apply, Function.update_apply]
  refine h.channel_change (role' := Function.update (Function.update v.role a (.calling c b)) b (.offered c a f o))
    (h.named.request o hface ha hb hne hoa hob) (fun k => ?_) (fun k hk => .inl ⟨?_, fun hx => ?_⟩) hacc
  · rw [hrole]
    split
    · next hk => rw [hk, hqb]; rfl
    · split
      · next hk => rw [hk, hqa]; rfl
      · rfl
  · have hka : k ≠ a := fun hx => hk (hx ▸ hqa)
    have hkb : k ≠ b := fun hx => hk (hx ▸ hqb)
    rw [hrole, if_neg hkb, if_neg hka]
  · have := (h.named.backed k).mem_ends hx
    rw [hface] at this
    cases this

/-- The ends of a request: no messages, and distinct. -/
theorem View.Law.requested {c : ChanId} {a b : EpId} {o : Offer} {dl : Time} (hc : v.channel c = .requested a b o dl) :
    v.face c = .request a b o ∧ a ≠ b ∧ (v.role a).queue = [] ∧ (v.role b).queue = [] := by
  have hface : v.face c = .request a b o := Channel.face_eq_request.2 ⟨dl, hc⟩
  refine ⟨hface, ?_, ?_, ?_⟩
  · have := h.named.distinct c
    rw [hface] at this
    simpa [Face.ends] using this
  · rcases h.named.caller hface with ⟨hi, -⟩ | hi <;> rw [hi] <;> rfl
  · rcases h.named.callee hface with ⟨hi, -⟩ | ⟨f, hi⟩ <;> rw [hi] <;> rfl

/-- A request ends: the caller IDLE, the callee IDLE or back to LISTENING (R46 to R50). -/
theorem View.Law.endRequest {c : ChanId} {a b : EpId} {o : Offer} {dl : Time} {y : Role}
    (hc : v.channel c = .requested a b o dl)
    (hy : y = .idle ∨ ¬v.out (portOf b) .endpointTable ∧ y = (v.role b).backToListening) :
    (((v.setChannel c .free).setRole a .idle).setRole b y).Law := by
  obtain ⟨hface, hne, hqa, hqb⟩ := h.requested hc
  have hends : (v.face c).ends = [a, b] := by rw [hface]; rfl
  have hacc := h.holding.account c
  rw [hc] at hacc
  have hrole (k : EpId) : Function.update (Function.update v.role a .idle) b y k =
      if k = b then y else if k = a then .idle else v.role k := by
    rw [Function.update_apply, Function.update_apply]
  refine h.endLink (role' := Function.update (Function.update v.role a .idle) b y) rfl (fun k hk => ?_) (fun k hk => ?_) (fun k hk => ?_) hacc
  · simp only [hends, List.mem_cons, List.not_mem_nil, or_false] at hk
    rcases hk with rfl | rfl
    · exact hqa
    · exact hqb
  · simp only [hends, List.mem_cons, List.not_mem_nil, or_false, not_or] at hk
    rw [hrole, if_neg hk.2, if_neg hk.1]
  · simp only [hends, List.mem_cons, List.not_mem_nil, or_false] at hk
    rcases hk with rfl | rfl
    · rw [hrole, if_neg hne, if_pos rfl]
      exact .inl rfl
    · rw [hrole, if_pos rfl]
      rcases hy with rfl | ⟨ho, rfl⟩
      · exact .inl rfl
      · refine .inr ⟨?_, ho⟩
        rcases h.named.callee hface with hg | ⟨f, hi⟩
        · exact absurd hg.2 ho
        · exact ⟨f, by rw [hi]; rfl⟩

/-- A request becomes an OPEN channel (R44). -/
theorem View.Law.open {c : ChanId} {a b : EpId} {o : Offer} {dl : Time} {l : LiveChannel}
    (hc : v.channel c = .requested a b o dl) (ha : l.caller = a) (hb : l.callee = b)
    (hl : l.toCallee.outstanding = 0 ∧ l.toCaller.outstanding = 0 ∧ l.toCallee.credits = l.toCallee.window ∧
      l.toCaller.credits = l.toCaller.window ∧ l.transfers = 0)
    (hoa : ¬v.out (portOf a) .endpointTable) (hob : ¬v.out (portOf b) .endpointTable) :
    (((v.setChannel c (.opened l)).setRole a (.connected c b [] l.toCaller.window)).setRole b
      (.connected c a [] l.toCallee.window)).Law := by
  obtain ⟨hface, hne, hqa, hqb⟩ := h.requested hc
  have hends : (v.face c).ends = [a, b] := by rw [hface]; rfl
  have hrec : ∀ d, v.recordsOn c d = 0 := by
    have hacc := h.holding.account c
    rw [hc] at hacc
    exact hacc
  have hx : (Channel.opened l).face = .live false a b l.toCallee.window l.toCaller.window := by rw [← ha, ← hb]; rfl
  have hrole (k : EpId) : Function.update (Function.update v.role a (.connected c b [] l.toCaller.window)) b
      (.connected c a [] l.toCallee.window) k =
      if k = b then .connected c a [] l.toCallee.window else if k = a then .connected c b [] l.toCaller.window
      else v.role k := by
    rw [Function.update_apply, Function.update_apply]
  refine h.channel_change (role' := Function.update (Function.update v.role a (.connected c b [] l.toCaller.window)) b
    (.connected c a [] l.toCallee.window)) (c := c) (x := .opened l) (h.named.relink ?_ (fun k hk => ?_) fun k hk => .inr ?_) (fun k => ?_)
    (fun k hk => .inl ⟨?_, fun hx => ?_⟩) ?_
  · rw [hx, hends]
    rfl
  · simp only [hends, List.mem_cons, List.not_mem_nil, or_false, not_or] at hk
    rw [hrole, if_neg hk.2, if_neg hk.1]
  · simp only [hends, List.mem_cons, List.not_mem_nil, or_false] at hk
    rcases hk with rfl | rfl
    · rw [hrole, if_neg hne, if_pos rfl]
      refine ⟨fun hi => ?_, rfl, l.toCallee.window, .inl ?_⟩
      · rcases h.named.caller hface with hg | hr
        · exact hoa hg.2
        · rw [hr] at hi
          cases hi
      · rw [Function.update_self, hx]
    · rw [hrole, if_pos rfl]
      refine ⟨fun hi => ?_, rfl, l.toCaller.window, .inr ?_⟩
      · rcases h.named.callee hface with hg | ⟨f, hr⟩
        · exact hob hg.2
        · rw [hr] at hi
          cases hi
      · rw [Function.update_self, hx]
  · rw [hrole]
    split
    · next hk => rw [hk, hqb]; rfl
    · split
      · next hk => rw [hk, hqa]; rfl
      · rfl
  · have hka : k ≠ a := fun hx => hk (hx ▸ hqa)
    have hkb : k ≠ b := fun hx => hk (hx ▸ hqb)
    rw [hrole, if_neg hkb, if_neg hka]
  · have hm := (h.named.backed k).mem_ends hx
    simp only [hends, List.mem_cons, List.not_mem_nil, or_false] at hm
    rcases hm with rfl | rfl
    · exact hk hqa
    · exact hk hqb
  · obtain ⟨h1, h2, h3, h4, h5⟩ := hl
    refine ⟨fun d => ?_, h5.trans (View.transfersOn_zero hrec).symm, fun r m d hm hk => ?_⟩
    · rw [hrec]
      cases d <;> simp only [LiveChannel.direction] <;> omega
    · have := Finset.sum_eq_zero_iff.1 (hrec d) r (Finset.mem_univ _)
      rw [if_pos (by rw [MsgRecord.link?, hm]; exact congrArg some hk)] at this
      cases this

end

/-! ## Operations of the state -/

theorem not_out_of_online {s : State} {p : Port} (h : s.online p = true) (b : ShareBlock) : ¬s.out p b := by
  rintro ⟨ho, -⟩
  rw [h] at ho
  cases ho

section
variable (s : State)

theorem view_failCaller (a : EpId) (o : OpenOutcome) : (s.failCaller a o).view = s.view.setRole a .idle := by
  refine View.ext (funext fun e => ?_) ?_ ?_ ?_ (view_send_of_cores (by simp)) (view_fetch_of_cores (by simp))
    (out_of_cores (by simp))
  · show ((s.failCaller a o).endpoint e).role = Function.update s.role a _ e
    rw [failCaller_endpoint, Function.update_apply]
    split
    · split <;> rfl
    · rfl
  · exact funext fun r => congrArg MsgRecord.norm (record_congr (by simp) r)
  · exact funext fun c => congrArg Channel.norm (channel_congr (by simp) c)
  · exact funext fun g => congrArg Group.norm (group_congr (by simp) g)

theorem view_withdrawCallee (b : EpId) (o : WithdrawOutcome) :
    (s.withdrawCallee b o).view =
      s.view.setRole b (if s.online (portOf b) = true then (s.role b).backToListening else .idle) := by
  refine View.ext (funext fun e => ?_) ?_ ?_ ?_ (view_send_of_cores (by simp)) (view_fetch_of_cores (by simp))
    (out_of_cores (by simp))
  · show ((s.withdrawCallee b o).endpoint e).role = Function.update s.role b _ e
    rw [withdrawCallee_endpoint, Function.update_apply]
    split
    · split <;> rfl
    · rfl
  · exact funext fun r => congrArg MsgRecord.norm (record_congr (by simp) r)
  · exact funext fun c => congrArg Channel.norm (channel_congr (by simp) c)
  · exact funext fun g => congrArg Group.norm (group_congr (by simp) g)

end

section
variable {s : State} (h : s.view.Law)
include h

omit h in
theorem view_channel_requested {c : ChanId} {a b : EpId} {o : Offer} {dl : Time} (hc : s.channel c = .requested a b o dl) :
    s.view.channel c = .requested a b o dl := by
  show (s.channel c).norm = _
  rw [hc]
  rfl

theorem law_listen {e : EpId} {f : Filter} (ho : s.online (portOf e) = true)
    (he : s.role e = .idle ∨ ∃ f, s.role e = .listening f) : (s.setRole e (.listening f)).view.Law := by
  rw [view_setRole]
  exact h.rest he (.inr ⟨f, rfl⟩) (not_out_of_online ho _)

theorem law_placeRequestOn {c : ChanId} {a b : EpId} {f : Filter} (o : Offer) (hc : s.channel c = .free)
    (ha : s.role a = .idle) (hb : s.role b = .listening f) (hne : a ≠ b) (hoa : s.online (portOf a) = true)
    (hob : s.online (portOf b) = true) : (s.placeRequestOn c a b o).view.Law := by
  unfold State.placeRequestOn
  simp only []
  rw [view_setEndpointCond, view_modEndpoint, view_setRole, view_setChannel]
  have hrole : ((s.setChannel c (.requested a b o (afterMs s.now s.config.openTimeout))).setRole a
      (.calling c b)).endpoint b = s.endpoint b := by
    rw [endpoint_setRole, if_neg hne.symm]
    rfl
  rw [hrole, show (s.endpoint b).role = .listening f from hb]
  refine h.request o _ ?_ ha hb hne (not_out_of_online hoa) (not_out_of_online hob)
  show (s.channel c).norm = _
  rw [hc]
  rfl

theorem law_rejectAt {e : EpId} {c : ChanId} {a : EpId} {f : Filter} {o : Offer} (w : Word)
    (he : s.role e = .offered c a f o) (ho : s.online (portOf e) = true) : (s.rejectAt e w).view.Law := by
  have hface : s.view.face c = .request a e o := by
    have := h.named.backed e
    rwa [show s.view.role e = .offered c a f o from he] at this
  obtain ⟨dl, hc⟩ := Channel.face_eq_request.1 hface
  obtain ⟨-, hne, -⟩ := h.requested hc
  unfold State.rejectAt
  rw [he]
  simp only [Role.offered?]
  rw [view_failCaller, view_modEndpoint, view_setChannel, View.setRole_comm _ hne.symm]
  exact h.endRequest hc (.inr ⟨not_out_of_online ho _, rfl⟩)

theorem law_closeOffered {e : EpId} {c : ChanId} {a : EpId} {f : Filter} {o : Offer}
    (he : s.role e = .offered c a f o) : (s.closeOffered e c a).view.Law := by
  have hface : s.view.face c = .request a e o := by
    have := h.named.backed e
    rwa [show s.view.role e = .offered c a f o from he] at this
  obtain ⟨dl, hc⟩ := Channel.face_eq_request.1 hface
  obtain ⟨-, hne, -⟩ := h.requested hc
  unfold State.closeOffered
  rw [view_failCaller, view_setRole, view_setChannel, View.setRole_comm _ hne.symm]
  exact h.endRequest hc (.inl rfl)

/-- The end of a request by the caller's failure and the callee's withdrawal, whatever stands between. -/
theorem law_withdrawn {t : State} {c : ChanId} {a b : EpId} {o : Offer} {dl : Time} (x : WithdrawOutcome)
    (hc : s.channel c = .requested a b o dl) (ht : t.view = (s.view.setChannel c .free).setRole a .idle)
    (ho : t.online (portOf b) = s.online (portOf b)) : (t.withdrawCallee b x).view.Law := by
  have hc' := view_channel_requested hc
  obtain ⟨-, hne, -⟩ := h.requested hc'
  rw [view_withdrawCallee, ht, ho]
  have hrole : t.role b = s.role b := by
    have := congrFun (congrArg View.role ht) b
    rwa [View.setRole_apply, if_neg hne.symm] at this
  refine h.endRequest hc' ?_
  by_cases hb : s.online (portOf b) = true
  · rw [if_pos hb, hrole]
    exact .inr ⟨not_out_of_online hb _, rfl⟩
  · rw [if_neg hb]
    exact .inl rfl

theorem law_closeCalling {e : EpId} {c : ChanId} {b : EpId} (he : s.role e = .calling c b) :
    (s.closeCalling e c b).view.Law := by
  obtain ⟨o, hface⟩ : ∃ o, s.view.face c = .request e b o := by
    have := h.named.backed e
    rwa [show s.view.role e = .calling c b from he] at this
  rw [view_face] at hface
  obtain ⟨dl, hc⟩ := Channel.face_eq_request.1 hface
  have key : (((s.setChannel c .free).setRole e .idle).withdrawCallee b .callerClosed).view.Law :=
    law_withdrawn h _ hc (by rw [view_setRole, view_setChannel]; rfl) rfl
  unfold State.closeCalling
  simp only []
  split
  · rw [view_reevaluate]
    exact key
  · exact key

theorem law_timeOutRequest {c : ChanId} {a b : EpId} {o : Offer} {dl : Time} (hc : s.channel c = .requested a b o dl) :
    (s.timeOutRequest c a b).view.Law := by
  have key : (((s.setChannel c .free).failCaller a .timeout).withdrawCallee b .timeout).view.Law :=
    law_withdrawn h _ hc (by rw [view_failCaller, view_setChannel]; rfl)
      (online_of_cores (failCaller_cores (s.setChannel c .free) a .timeout) _)
  unfold State.timeOutRequest
  simp only []
  split
  · rw [view_reevaluate]
    exact key
  · exact key

theorem law_openAgreed {c : ChanId} {a b : EpId} {o : Offer} {dl : Time} {n k : Nat} {x : Options}
    (hc : s.channel c = .requested a b o dl) (hoa : s.online (portOf a) = true) (hob : s.online (portOf b) = true) :
    (s.openAgreed c (settledTerms a b o n k x)).view.Law := by
  unfold State.openAgreed
  simp only []
  rw [view_setEndpointCond, view_setRole, view_setRole, view_setChannel]
  exact h.open (l := (settledTerms a b o n k x).norm) (view_channel_requested hc) rfl rfl ⟨rfl, rfl, rfl, rfl, rfl⟩
    (not_out_of_online hoa _) (not_out_of_online hob _)

end

end Sys2Proof.Machine
end

section
/-! The laws of naming and holding through drains, teardowns and the ends of groups. -/

namespace Sys2Proof.Machine

/-! ## The drain completion test -/

/-- A DRAINING channel of which nothing remains becomes FREE (R109). -/
theorem View.Law.drained {v : View} (h : v.Law) {c : ChanId} {l : LiveChannel} {cl : Closers} {dl : Option Time}
    (hc : v.channel c = .draining l cl dl) (ha : (v.role l.caller).queue = []) (hb : (v.role l.callee).queue = [])
    (ht : l.transfers = 0) : (((v.setChannel c .free).setRole l.caller .idle).setRole l.callee .idle).Law := by
  have hface : v.face c = .live true l.caller l.callee l.toCallee.window l.toCaller.window := by
    show (v.channel c).face = _
    rw [hc]
    rfl
  have hends : (v.face c).ends = [l.caller, l.callee] := by rw [hface]; rfl
  have hacc := h.holding.account c
  rw [hc] at hacc
  have hzero : v.transfersOn c = 0 := hacc.2.1.symm.trans ht
  have hrole (k : EpId) : Function.update (Function.update v.role l.caller .idle) l.callee .idle k =
      if k = l.callee then .idle else if k = l.caller then .idle else v.role k := by
    rw [Function.update_apply, Function.update_apply]
  refine h.endLink (role' := Function.update (Function.update v.role l.caller .idle) l.callee .idle) (x := .free) rfl
    (fun k hk => ?_) (fun k hk => ?_) (fun k hk => .inl ?_) (h.holding.toHeld.recordsOn_zero (fun d e hd => ?_) hzero)
  · simp only [hends, List.mem_cons, List.not_mem_nil, or_false] at hk
    rcases hk with rfl | rfl
    · exact ha
    · exact hb
  · simp only [hends, List.mem_cons, List.not_mem_nil, or_false, not_or] at hk
    rw [hrole, if_neg hk.2, if_neg hk.1]
  · simp only [hends, List.mem_cons, List.not_mem_nil, or_false] at hk
    rw [hrole]
    rcases hk with rfl | rfl
    · rw [if_pos rfl, ite_self]
    · rw [if_pos rfl]
  · rw [hface] at hd
    cases d <;> cases hd
    · exact hb
    · exact ha

theorem view_drainTest_cases (s : State) (c : ChanId) :
    (s.drainTest c).view = s.view ∨
      ∃ l cl dl, s.view.channel c = .draining l cl dl ∧ (s.role l.caller).queue = [] ∧ (s.role l.callee).queue = [] ∧
        l.transfers = 0 ∧
        (s.drainTest c).view = ((s.view.setChannel c .free).setRole l.caller .idle).setRole l.callee .idle := by
  cases hc : s.channel c with
  | draining l cl dl =>
    by_cases hd : s.Drained l fun e => (s.role e).queue
    · have heq : s.drainTest c = ((((s.setChannel c .free).setRole l.caller .idle).setRole l.callee .idle).closeAt l.caller
          .complete 0).closeAt l.callee .complete 0 := by
        unfold State.drainTest
        rw [hc]
        exact if_pos hd
      obtain ⟨-, -, ha, hb, ht⟩ := hd
      have hv : s.view.channel c = .draining l.norm { caller := false, callee := false } dl := by
        show (s.channel c).norm = _
        rw [hc]
        rfl
      refine .inr ⟨l.norm, _, dl, hv, ha, hb, ht, ?_⟩
      rw [heq, view_closeAt, view_closeAt, view_setRole, view_setRole, view_setChannel]
      rfl
    · rw [drainTest_remains hc hd]
      exact .inl rfl
  | free => unfold State.drainTest; rw [hc]; exact .inl rfl
  | requested a b o dl => unfold State.drainTest; rw [hc]; exact .inl rfl
  | opened l => unfold State.drainTest; rw [hc]; exact .inl rfl
  | aborting a b cl k => unfold State.drainTest; rw [hc]; exact .inl rfl

theorem law_drainTest {s : State} (h : s.view.Law) (c : ChanId) : (s.drainTest c).view.Law := by
  rcases view_drainTest_cases s c with hv | ⟨l, cl, dl, hc, ha, hb, ht, hv⟩
  · rw [hv]
    exact h
  · rw [hv]
    exact h.drained hc ha hb ht

/-- The first graceful CLOSE (R106): both ends CLOSING, then the drain completion test. -/
theorem View.Law.startDrain {v : View} (h : v.Law) {c : ChanId} {l : LiveChannel} (cl : Closers) (dl : Option Time)
    (hc : v.channel c = .opened l) :
    (((v.setChannel c (.draining l cl dl)).setRole l.caller (v.role l.caller).startClosing).setRole l.callee
      (v.role l.callee).startClosing).Law := by
  have hface : v.face c = .live false l.caller l.callee l.toCallee.window l.toCaller.window := by
    show (v.channel c).face = _
    rw [hc]
    rfl
  have hends : (v.face c).ends = [l.caller, l.callee] := by rw [hface]; rfl
  have hacc := h.holding.account c
  rw [hc] at hacc
  have hrole (k : EpId) : Function.update (Function.update v.role l.caller (v.role l.caller).startClosing) l.callee
      (v.role l.callee).startClosing k =
      if k = l.caller ∨ k = l.callee then (v.role k).startClosing else v.role k := by
    rw [Function.update_apply, Function.update_apply]
    by_cases hb : k = l.callee
    · rw [if_pos hb, if_pos (.inr hb), hb]
    · by_cases ha : k = l.caller
      · rw [if_neg hb, if_pos ha, if_pos (.inl ha), ha]
      · rw [if_neg hb, if_neg ha, if_neg (by simp [ha, hb])]
  have hqueue (r : Role) : r.startClosing.queue = r.queue := by cases r <;> rfl
  have hx : (Channel.draining l cl dl).face = .live true l.caller l.callee l.toCallee.window l.toCaller.window := rfl
  refine h.channel_change (role' := Function.update (Function.update v.role l.caller (v.role l.caller).startClosing) l.callee
    (v.role l.callee).startClosing) (x := .draining l cl dl) (h.named.relink ?_ (fun k hk => ?_) fun k hk => ?_)
    (fun k => ?_) (fun k hk => ?_) hacc
  · rw [hx, hends]
    rfl
  · simp only [hends, List.mem_cons, List.not_mem_nil, or_false] at hk
    rw [hrole, if_neg hk]
  · simp only [hends, List.mem_cons, List.not_mem_nil, or_false] at hk
    rw [hrole, if_pos hk]
    rcases h.named.liveEnd hface hk with hg | ⟨x, q, n, hr⟩
    · exact .inl ⟨hg, by rw [hg.1]; rfl⟩
    · refine .inr ⟨by rw [hr]; simp [Role.onLive], by rw [hr]; rfl, ?_⟩
      have hback := h.named.backed k
      rw [hr] at hback ⊢
      obtain ⟨w, hw | hw⟩ := hback
      · refine ⟨w, .inl ?_⟩
        rw [Function.update_self, hx]
        rw [hface] at hw
        cases hw
        rfl
      · refine ⟨w, .inr ?_⟩
        rw [Function.update_self, hx]
        rw [hface] at hw
        cases hw
        rfl
  · rw [hrole]
    split
    · exact hqueue _
    · rfl
  · by_cases hke : k = l.caller ∨ k = l.callee
    · refine .inr ⟨by rw [hrole, if_pos hke, depth_startClosing], fun o j ht => ?_⟩
      rw [hrole, if_pos hke]
      rcases h.named.liveEnd hface hke with hg | ⟨x, q, n, hr⟩
      · rw [hg.1] at hk
        exact absurd rfl hk
      · rw [hr] at ht ⊢
        obtain ⟨d, hj, hd⟩ := ht
        refine ⟨d, hj, ?_⟩
        rw [hface] at hd
        rw [Function.update_self, hx]
        cases d <;> exact hd
    · refine .inl ⟨by rw [hrole, if_neg hke], fun hkc => hke ?_⟩
      have := (h.named.backed k).mem_ends hkc
      simpa only [hends, List.mem_cons, List.not_mem_nil, or_false] using this

/-! ## The discard of whole queues -/

/-- The entries of record r in the queues of these endpoints. -/
def View.gone (v : View) (l : List EpId) (r : RecId) : Nat :=
  ∑ e, if e ∈ l then (v.role e).queue.count r else 0

/-- The queues of these endpoints emptied, with the credits of the entries returned (R32). -/
def View.discard (v : View) (l : List EpId) : View where
  role e := if e ∈ l then (v.role e).withQueue [] else v.role e
  record r := (v.record r).lower (v.gone l r)
  channel c := (v.channel c).mapLive
    (LiveChannel.refundedBy (v.lost (v.gone l) c .callerToCallee) (v.lost (v.gone l) c .calleeToCaller))
  group := v.group
  send := v.send
  fetch := v.fetch
  out := v.out

@[simp] theorem Role.queue_withQueue_nil (r : Role) : (r.withQueue []).queue = [] :=
  Role.queue_withQueue_of_sublist (List.nil_sublist _)

theorem View.discard_queue (v : View) (l : List EpId) (e : EpId) :
    ((v.discard l).role e).queue = if e ∈ l then [] else (v.role e).queue := by
  show (if e ∈ l then (v.role e).withQueue [] else v.role e).queue = _
  split
  · exact Role.queue_withQueue_nil _
  · rfl

theorem View.discard_dropped (v : View) (l : List EpId) : v.Dropped (v.discard l) (v.gone l) := by
  refine ⟨fun e => ?_, fun r => ?_, fun r => rfl, fun c => rfl, rfl, rfl, rfl, rfl⟩
  · show ∃ q, _ ∧ (if e ∈ l then (v.role e).withQueue [] else v.role e) = _
    split
    · exact ⟨[], List.nil_sublist _, rfl⟩
    · exact ⟨(v.role e).queue, List.Sublist.refl _, (Role.withQueue_self _).symm⟩
  · unfold View.entries View.gone
    rw [← Finset.sum_add_distrib]
    refine Finset.sum_congr rfl fun e _ => ?_
    rw [View.discard_queue]
    split
    · rw [List.count_nil, Nat.zero_add]
    · rw [Nat.add_zero]

theorem Role.Takes.channel {r : Role} {e o : EpId} {face : ChanId → Face}
    {group : GroupId → Option (EpId × List EpId)} {c : ChanId} {d : Dirn} (h : r.Takes e face group o (.channel c d)) :
    r.channel? = some c := by
  cases r with
  | connected k x q n =>
    obtain ⟨d', hk, -⟩ := h
    cases hk
    rfl
  | closing k x q n =>
    obtain ⟨d', hk, -⟩ := h
    cases hk
    rfl
  | member g q n => cases h.1
  | idle => exact h.elim
  | listening f => exact h.elim
  | offered c a f o => exact h.elim
  | calling c b => exact h.elim
  | publisher g => exact h.elim

/-- The queues of endpoints that are on no end of a channel have none of its messages. -/
theorem View.Held.lost_zero {v : View} (h : v.Held) {l : List EpId} {c : ChanId}
    (hl : ∀ e ∈ l, (v.role e).channel? ≠ some c) (d : Dirn) : v.lost (v.gone l) c d = 0 := by
  refine Finset.sum_eq_zero fun r _ => ?_
  split
  · next hr =>
    refine Finset.sum_eq_zero fun e _ => ?_
    split
    · next he =>
      refine List.count_eq_zero.2 fun hq => hl e he ?_
      obtain ⟨m, dl, hm, ht⟩ := h.entry e r hq
      rw [hm] at hr
      rw [show m.link = .channel c d from Option.some.inj hr] at ht
      exact ht.channel
    · rfl
  · rfl

theorem View.Held.discard_channel {v : View} (h : v.Held) {l : List EpId} {c : ChanId}
    (hl : ∀ e ∈ l, (v.role e).channel? ≠ some c) : (v.discard l).channel c = v.channel c := by
  show (v.channel c).mapLive (LiveChannel.refundedBy _ _) = _
  rw [h.lost_zero hl, h.lost_zero hl]
  exact Channel.mapLive_id _

section
variable {s : State} (h : s.view.Law)
include h

theorem norm_bulkDiscard {l : List EpId} (hl : l.Nodup) (r : RecId) :
    ((s.bulkDiscard l).record r).norm = (s.view.record r).lower (s.view.gone l r) := by
  have hcount : (s.entriesOf l).count r = s.view.gone l r := count_entriesOf s hl r
  have notin (hr : ∀ m dl, s.view.record r ≠ .live m dl) : s.view.gone l r = 0 := by
    have := (s.view.discard_dropped l).zero_of_not_live h.holding hr
    exact this
  cases hx : s.record r with
  | filling m =>
    have hv : s.view.record r = .filling m.norm := by
      show (s.record r).norm = _
      rw [hx]
      rfl
    have hz := notin (by simp [hv])
    have hmem : r ∉ s.entriesOf l := List.count_eq_zero.1 (hcount.trans hz)
    rw [bulkDiscard_record_notin s l hmem, hx, hz, hv]
    exact (MsgRecord.lower_zero_filling (h.holding.filling r m.norm hv).1).symm
  | free =>
    have hv : s.view.record r = .free := by
      show (s.record r).norm = _
      rw [hx]
      rfl
    rw [bulkDiscard_record (by simp [hx]) l, hx, hv, hcount, notin (by simp [hv])]
    rfl
  | live m d =>
    have hv : s.view.record r = .live m.norm none := by
      show (s.record r).norm = _
      rw [hx]
      rfl
    rw [bulkDiscard_record (by simp [hx]) l, hx, hv, hcount]
    obtain ⟨-, hpos, -⟩ := h.holding.live r m.norm none hv
    have hpos' : 1 ≤ m.count := hpos
    by_cases hz : s.view.gone l r = 0
    · rw [hz, MsgRecord.lower_live_pos (show 0 < m.norm.count from hpos')]
      rfl
    · rw [MsgRecord.afterDiscard, if_neg hz]
      show (m.discardedTimes _ d).norm = _
      unfold Message.discardedTimes
      by_cases hle : m.count ≤ s.view.gone l r
      · rw [if_pos hle, MsgRecord.lower_live_free (show m.norm.count ≤ _ from hle)]
        rfl
      · rw [if_neg hle, MsgRecord.lower_live_pos (show _ < m.norm.count from Nat.lt_of_not_le hle)]
        rfl

/-! ## Teardown -/

theorem law_teardownLive {c : ChanId} {l : LiveChannel} (cl : Closers) (o o' : CloseOutcome)
    (hc : (s.channel c).live? = some l) : (s.teardownLive c l cl o o').view.Law := by
  obtain ⟨dr, hface⟩ : ∃ dr, s.view.face c = .live dr l.caller l.callee l.toCallee.window l.toCaller.window := by
    rw [view_face]
    show ∃ dr, (s.channel c).face = _
    cases hx : s.channel c with
    | opened l' => rw [hx] at hc; cases hc; exact ⟨false, rfl⟩
    | draining l' cl' dl => rw [hx] at hc; cases hc; exact ⟨true, rfl⟩
    | free => rw [hx] at hc; cases hc
    | requested a b o dl => rw [hx] at hc; cases hc
    | aborting a b cl' k => rw [hx] at hc; cases hc
  have hends : (s.view.face c).ends = [l.caller, l.callee] := by rw [hface]; rfl
  have hne : l.caller ≠ l.callee := by
    have := h.named.distinct c
    rw [hends] at this
    simpa using this
  have hmem {e : EpId} : e ∈ [l.caller, l.callee] ↔ e ∈ (s.view.face c).ends := by rw [hends]
  let v := s.view.discard [l.caller, l.callee]
  have hd : s.view.Dropped v _ := s.view.discard_dropped _
  have hv : v.Law := hd.law h
  have hfv : v.face = s.view.face := hd.face
  have hother {k : ChanId} (hk : k ≠ c) : v.channel k = s.view.channel k := by
    refine h.holding.toHeld.discard_channel fun e he hx => hk ?_
    rcases h.named.ends c e (hmem.1 he) with hg | hg
    · rw [hg.1] at hx
      cases hx
    · exact Option.some.inj (hx.symm.trans hg)
  have htrans : v.transfersOn c = l.transfers := by
    have hacc := h.holding.account c
    rw [Channel.accounts_iff_of_live (l := l.norm) (by show (s.channel c).norm.live? = _; rw [Channel.norm_live?, hc]; rfl)]
      at hacc
    rw [hd.transfersOn h.holding]
    exact hacc.2.1.symm
  have hquiet (k : EpId) (hk : k ∈ [l.caller, l.callee]) : (v.role k).queue = [] := by
    rw [View.discard_queue, if_pos hk]
  have hview : (s.teardownLive c l cl o o').view =
      { v with
        role := fun k => if k ∈ [l.caller, l.callee] then .idle else v.role k
        channel := Function.update v.channel c (Channel.tornDown l cl).norm } := by
    refine View.ext (funext fun k => ?_) (funext fun r => ?_) (funext fun k => ?_) (funext fun g => ?_)
      (view_send_of_cores (by simp)) (view_fetch_of_cores (by simp)) (out_of_cores (by simp))
    · show ((s.teardownLive c l cl o o').endpoint k).role = if k ∈ [l.caller, l.callee] then .idle else v.role k
      rw [teardownLive_endpoint s c cl o o' hne]
      by_cases ha : k = l.caller
      · rw [if_pos ha, if_pos (by simp [ha])]
        unfold State.tornEnd
        split <;> rfl
      · by_cases hb : k = l.callee
        · rw [if_neg ha, if_pos hb, if_pos (by simp [hb])]
          unfold State.tornEnd
          split <;> rfl
        · have hk : k ∉ [l.caller, l.callee] := by simp [ha, hb]
          rw [if_neg ha, if_neg hb, if_neg hk]
          exact (if_neg hk).symm
    · show ((s.teardownLive c l cl o o').record r).norm = _
      rw [record_congr (teardownLive_records ..)]
      exact norm_bulkDiscard h (by simpa using hne) r
    · show ((s.teardownLive c l cl o o').channel k).norm = Function.update v.channel c _ k
      rw [teardownLive_channel]
      by_cases hk : k = c
      · rw [if_pos hk, hk, Function.update_self]
      · rw [if_neg hk, Function.update_of_ne hk, hother hk]
        rfl
    · exact congrArg Group.norm (group_congr (by simp) g)
  rw [hview]
  refine hv.endLink (x := (Channel.tornDown l cl).norm) ?_ (fun k hk => ?_) (fun k hk => ?_) (fun k hk => ?_) ?_
  · rw [Channel.norm_face]
    unfold Channel.tornDown
    split <;> rfl
  · rw [hfv, ← hmem] at hk
    exact hquiet k hk
  · rw [hfv, ← hmem] at hk
    exact if_neg hk
  · rw [hfv, ← hmem] at hk
    exact .inl (if_pos hk)
  · unfold Channel.tornDown
    split
    · next ht =>
      refine hv.holding.toHeld.recordsOn_zero (fun d e he => ?_) (htrans.trans ht)
      rw [hfv, hface] at he
      cases d <;> cases he
      · exact hquiet _ (by simp)
      · exact hquiet _ (by simp)
    · next ht =>
      have hacc := hd.ends (c := c) (a := l.caller) (b := l.callee) (by
        have hacc := h.holding.account c
        rw [Channel.accounts_iff_of_live (l := l.norm)
          (by show (s.channel c).norm.live? = _; rw [Channel.norm_live?, hc]; rfl)] at hacc
        exact hacc.2.2)
      exact ⟨Nat.one_le_iff_ne_zero.2 ht, htrans.symm, hacc⟩

theorem law_teardown (c : ChanId) (o o' : CloseOutcome) : (s.teardown c o o').view.Law := by
  cases hc : s.channel c with
  | opened l =>
    rw [teardown_opened hc]
    exact law_teardownLive h _ _ _ (by rw [hc]; rfl)
  | draining l cl dl =>
    rw [teardown_draining hc]
    exact law_teardownLive h _ _ _ (by rw [hc]; rfl)
  | free => unfold State.teardown; rw [hc]; exact h
  | requested a b x dl => unfold State.teardown; rw [hc]; exact h
  | aborting a b cl k => unfold State.teardown; rw [hc]; exact h

end

end Sys2Proof.Machine
end

section
/-! The laws of naming and holding through CLOSE, CREATE, POLICY, JOIN and the ends of groups. -/

namespace Sys2Proof.Machine

/-! ## Rules over a view -/

section
variable {v : View} (h : v.Law)
include h

/-- Roles and one group change, and with them no queue and no channel. -/
theorem View.Law.group_change {role' : EpId → Role} {g : GroupId} {x : Group}
    (hn : Naming role' v.face (Function.update v.groupFace g x.face) v.out)
    (hq : ∀ e, (role' e).queue = (v.role e).queue)
    (hrole : ∀ e, (v.role e).queue ≠ [] → role' e = v.role e)
    (hface : ∀ a l, v.groupFace g = some (a, l) → (∃ l', x.face = some (a, l')) ∨
      ∀ e, (v.role e).queue ≠ [] → (v.role e).group? ≠ some g)
    (hx : x.Copies (v.copiesOf g) (v.Copier g)) :
    View.Law { v with role := role', group := Function.update v.group g x } := by
  have hgf : View.groupFace { v with role := role', group := Function.update v.group g x } =
      Function.update v.groupFace g x.face := groupFace_setGroup v g x
  refine ⟨by rw [hgf]; exact hn, h.holding.relink rfl rfl rfl hq (fun e he => ?_) h.holding.account (h.copies_update hx)⟩
  rw [hgf]
  show (role' e).depth = _ ∧ ∀ o k, _ → (role' e).Takes e v.face _ o k
  rw [hrole e he]
  refine ⟨rfl, fun o k ht => ?_⟩
  cases hr : v.role e with
  | member k q n =>
    rw [hr] at ht
    obtain ⟨hk, l, hl⟩ := ht
    refine ⟨hk, ?_⟩
    by_cases hkg : k = g
    · subst hkg
      rcases hface o l hl with ⟨l', hl'⟩ | hno
      · exact ⟨l', by rw [Function.update_self, hl']⟩
      · exact absurd (by rw [hr]; rfl) (hno e he)
    · exact ⟨l, by rw [Function.update_of_ne hkg]; exact hl⟩
  | connected c x q n => rw [hr] at ht; exact ht
  | closing c x q n => rw [hr] at ht; exact ht
  | idle => rw [hr] at ht; exact ht.elim
  | listening f => rw [hr] at ht; exact ht.elim
  | offered c a f o' => rw [hr] at ht; exact ht.elim
  | calling c b => rw [hr] at ht; exact ht.elim
  | publisher k => rw [hr] at ht; exact ht.elim

/-- A FREE group gets a publisher (R120). -/
theorem View.Law.create {g : GroupId} {e : EpId} {x : ActiveGroup} (hg : v.group g = .free) (he : v.role e = .idle)
    (ho : ∀ b, ¬v.out (portOf e) b) (hp : x.publisher = e) (hm : x.members = []) (hc : x.copyInFlight = false) :
    ((v.setGroup g (.active x)).setRole e (.publisher g)).Law := by
  have hface : v.groupFace g = none := by
    show (v.group g).face = none
    rw [hg]
    rfl
  have hzero : v.copiesOf g = 0 := by
    have := h.holding.copies g
    rw [hg] at this
    exact this
  have hx : (Group.active x).face = some (e, []) := by
    show some (x.publisher, x.members) = _
    rw [hp, hm]
  refine h.group_change (role' := Function.update v.role e (.publisher g)) (x := .active x) ?_ (fun k => ?_)
    (fun k hk => ?_) (fun a l hal => ?_) ⟨?_, fun r m hr hk => ?_⟩
  · rw [hx]
    exact h.named.create hface he ho
  · by_cases hk : k = e
    · rw [hk, Function.update_self, he]
      rfl
    · rw [Function.update_of_ne hk]
  · refine Function.update_of_ne ?_ _ _
    rintro rfl
    rw [he] at hk
    exact hk rfl
  · rw [hface] at hal
    cases hal
  · rw [hzero, hc]
    rfl
  · have := Finset.sum_eq_zero_iff.1 hzero r (Finset.mem_univ _)
    rw [hr] at this
    simp [MsgRecord.fills, hk] at this

/-- An endpoint joins a group (R122). -/
theorem View.Law.join {g : GroupId} {e : EpId} {x y : ActiveGroup} {n : Nat} (hg : v.group g = .active x)
    (he : v.role e = .idle) (ho : ∀ b, ¬v.out (portOf e) b) (hn : 1 ≤ n) (hp : y.publisher = x.publisher)
    (hm : y.members = x.members ++ [e]) (hc : y.copyInFlight = x.copyInFlight) :
    ((v.setGroup g (.active y)).setRole e (.member g [] n)).Law := by
  have hface : v.groupFace g = some (x.publisher, x.members) := by
    show (v.group g).face = _
    rw [hg]
    rfl
  have hx : (Group.active y).face = some (x.publisher, x.members ++ [e]) := by
    show some (y.publisher, y.members) = _
    rw [hp, hm]
  have hcopies := h.holding.copies g
  rw [hg] at hcopies
  refine h.group_change (role' := Function.update v.role e (.member g [] n)) (x := .active y) ?_ (fun k => ?_)
    (fun k hk => ?_) (fun a l hal => .inl ?_) ?_
  · rw [hx]
    exact h.named.join [] hface he ho hn
  · by_cases hk : k = e
    · rw [hk, Function.update_self, he]
      rfl
    · rw [Function.update_of_ne hk]
  · refine Function.update_of_ne ?_ _ _
    rintro rfl
    rw [he] at hk
    exact hk rfl
  · rw [hface] at hal
    cases hal
    exact ⟨_, hx⟩
  · obtain ⟨h1, h2⟩ := hcopies
    exact ⟨by rw [hc]; exact h1, by rw [hp]; exact h2⟩

/-- Endpoints of a group leave it with empty queues: all of them, when the group ends (R123, R124, R133). -/
theorem View.Law.leave {g : GroupId} {x : ActiveGroup} {y : Group} {left : EpId → Prop} [DecidablePred left]
    (hg : v.group g = .active x) (hsub : ∀ e, left e → e ∈ x.publisher :: x.members)
    (hempty : ∀ e, left e → (v.role e).queue = [])
    (hy : y.face = none ∧ (∀ e ∈ x.publisher :: x.members, left e) ∨ ∃ l', y.face = some (x.publisher, l') ∧
      l'.Sublist x.members ∧ ¬left x.publisher ∧ ∀ e ∈ x.members, e ∈ l' ↔ ¬left e)
    (hc : y.Copies (v.copiesOf g) (v.Copier g)) :
    View.Law { v with role := fun e => if left e then .idle else v.role e, group := Function.update v.group g y } := by
  have hface : v.groupFace g = some (x.publisher, x.members) := by
    show (v.group g).face = _
    rw [hg]
    rfl
  refine h.group_change (h.named.leave hface hsub (fun e => rfl) hy) (fun e => ?_) (fun e he => ?_) (fun a l hal => ?_) hc
  · split
    · next he => rw [hempty e he]; rfl
    · rfl
  · exact if_neg fun hl => he (hempty e hl)
  · rw [hface] at hal
    cases hal
    rcases hy with ⟨-, hall⟩ | ⟨l', hl', -⟩
    · refine .inr fun e he hx => he (hempty e (hall e ?_))
      obtain ⟨a, l, hal, hmem⟩ := (h.named.backed e).mem_group hx
      rw [hface] at hal
      cases hal
      exact hmem
    · exact .inl ⟨l', hl'⟩

end

/-! ## The ends of groups -/

section
variable {s : State} (h : s.view.Law)
include h

omit h in
theorem view_group_active {g : GroupId} {x : ActiveGroup} (hg : s.group g = .active x) :
    s.view.group g = .active { x with policy := .opened, nextSequence := 0#16 } := by
  show (s.group g).norm = _
  rw [hg]
  rfl

/-- Members hold no messages of a channel. -/
theorem member_no_channel {g : GroupId} {x : ActiveGroup} (hg : s.group g = .active x) {e : EpId}
    (he : e ∈ x.publisher :: x.members) (c : ChanId) : (s.view.role e).channel? ≠ some c := by
  intro hc
  rcases h.named.members g x.publisher x.members (by rw [view_groupFace]; exact Group.face_eq_some.2 ⟨x, hg, rfl, rfl⟩) e he
    with hx | hx
  · rw [hx.1] at hc
    cases hc
  · exact Role.not_channel_and_group hc hx

theorem members_nodup {g : GroupId} {x : ActiveGroup} (hg : s.group g = .active x) :
    x.members.Nodup ∧ x.publisher ∉ x.members :=
  h.named.sound g x.publisher x.members (by rw [view_groupFace]; exact Group.face_eq_some.2 ⟨x, hg, rfl, rfl⟩)

/-- The laws after endpoints of a group lost their messages and left, by what this does to each part of the state. -/
theorem law_left {t : State} {g : GroupId} {x : ActiveGroup} {y : Group} {l : List EpId} {left : EpId → Prop}
    [DecidablePred left] (hg : s.group g = .active x) (hl : l.Nodup) (hlsub : ∀ e ∈ l, e ∈ x.publisher :: x.members)
    (hk : t.cores = s.cores) (hch : t.channels = s.channels) (hrec : t.records = (s.bulkDiscard l).records)
    (hrole : ∀ e, t.role e = if left e then .idle else s.role e) (hgroup : ∀ k, t.group k = if k = g then y else s.group k)
    (hleft : ∀ e, left e ↔ e ∈ l ∨ left e ∧ e = x.publisher) (hlpub : ∀ e, e ∈ l → left e)
    (hy : y.face = none ∧ (∀ e ∈ x.publisher :: x.members, left e) ∨ ∃ l', y.face = some (x.publisher, l') ∧
      l'.Sublist x.members ∧ ¬left x.publisher ∧ ∀ e ∈ x.members, e ∈ l' ↔ ¬left e)
    (hc : y.norm.Copies (s.view.copiesOf g) (s.view.Copier g)) : t.view.Law := by
  have hd : s.view.Dropped (s.view.discard l) _ := s.view.discard_dropped l
  have hv := hd.law h
  have hpub : (s.view.role x.publisher).queue = [] := by
    rcases h.named.publisher (g := g) (a := x.publisher) (l := x.members)
      (by rw [view_groupFace]; exact Group.face_eq_some.2 ⟨x, hg, rfl, rfl⟩) with hp | hp
    · rw [hp.1]; rfl
    · rw [hp]; rfl
  have hcop : (s.view.discard l).copiesOf g = s.view.copiesOf g ∧ (s.view.discard l).Copier g = s.view.Copier g := by
    constructor
    · refine Finset.sum_congr rfl fun r _ => ?_
      have : ((s.view.discard l).record r).fills g = (s.view.record r).fills g := by
        cases hx : s.view.record r with
        | filling m => rw [(hd.filling_iff h.holding).2 hx]
        | free => rw [hd.record, hx]; rfl
        | live m dl =>
          cases hy : (s.view.discard l).record r with
          | filling m' =>
            rw [(hd.filling_iff h.holding).1 hy] at hx
            cases hx
          | free => rfl
          | live m' dl' => rfl
      rw [this]
    · funext a
      unfold View.Copier
      simp only [hd.filling_iff h.holding]
  have hview : t.view = { s.view.discard l with
      role := fun e => if left e then .idle else (s.view.discard l).role e
      group := Function.update s.view.group g y.norm } := by
    refine View.ext (funext fun e => ?_) (funext fun r => ?_) (funext fun c => ?_) (funext fun k => ?_)
      (view_send_of_cores hk) (view_fetch_of_cores hk) (out_of_cores hk)
    · show t.role e = if left e then .idle else if e ∈ l then _ else s.role e
      rw [hrole]
      by_cases he : left e
      · rw [if_pos he, if_pos he]
      · rw [if_neg he, if_neg he, if_neg fun hx => he (hlpub e hx)]
    · show (t.record r).norm = _
      rw [record_congr hrec]
      exact norm_bulkDiscard h hl r
    · show (t.channel c).norm = (s.view.discard l).channel c
      rw [channel_congr hch, h.holding.toHeld.discard_channel fun e he => member_no_channel h hg (hlsub e he) c]
      rfl
    · show (t.group k).norm = Function.update s.view.group g y.norm k
      rw [hgroup]
      by_cases hkg : k = g
      · rw [if_pos hkg, hkg, Function.update_self]
      · rw [if_neg hkg, Function.update_of_ne hkg]
        rfl
  rw [hview]
  refine hv.leave (x := { x with policy := .opened, nextSequence := 0#16 }) (left := left) (view_group_active hg)
    (fun e he => ?_) (fun e he => ?_) ?_ ?_
  · rcases (hleft e).1 he with hx | ⟨-, rfl⟩
    · exact hlsub e hx
    · exact List.mem_cons_self
  · rw [View.discard_queue]
    rcases (hleft e).1 he with hx | ⟨-, rfl⟩
    · rw [if_pos hx]
    · rw [hpub, ite_self]
  · rw [Group.norm_face]
    exact hy
  · rw [hcop.1, hcop.2]
    exact hc

theorem law_dissolve {g : GroupId} {x : ActiveGroup} (hg : s.group g = .active x) : (s.dissolve g x).view.Law := by
  obtain ⟨hnd, -⟩ := members_nodup h hg
  have hcopies := h.holding.copies g
  rw [view_group_active hg] at hcopies
  refine law_left h (left := fun e => e = x.publisher ∨ e ∈ x.members) (y := if x.copyInFlight then .dissolving else .free)
    hg hnd (fun e he => List.mem_cons_of_mem _ he) (by simp) (by simp) (dissolve_records ..) (fun e => ?_)
    (fun k => dissolve_group ..) (fun e => ?_) (fun e he => .inr he) (.inl ⟨?_, fun e he => List.mem_cons.1 he⟩) ?_
  · show ((s.dissolve g x).endpoint e).role = _
    rw [dissolve_endpoint]
    split <;> rfl
  · constructor
    · rintro (rfl | he)
      · exact .inr ⟨.inl rfl, rfl⟩
      · exact .inl he
    · rintro (he | ⟨he, -⟩)
      · exact .inr he
      · exact he
  · split <;> rfl
  · obtain ⟨h1, -⟩ := hcopies
    change s.view.copiesOf g = if x.copyInFlight = true then 1 else 0 at h1
    split
    · next hf => exact h1.trans (if_pos hf)
    · next hf => exact h1.trans (if_neg hf)

theorem law_removeMembers {g : GroupId} {x : ActiveGroup} {l : List EpId} (hg : s.group g = .active x) (hl : l.Nodup)
    (hsub : ∀ e ∈ l, e ∈ x.members) : (s.removeMembers g x l).view.Law := by
  obtain ⟨-, hpub⟩ := members_nodup h hg
  have hcopies := h.holding.copies g
  rw [view_group_active hg] at hcopies
  refine law_left h (left := fun e => e ∈ l)
    (y := .active { x with members := x.members.filter fun m => !l.contains m }) hg hl
    (fun e he => List.mem_cons_of_mem _ (hsub e he)) (by simp) (by simp) (removeMembers_records ..) (fun e => ?_)
    (fun k => removeMembers_group ..) (fun e => ?_) (fun e he => he)
    (.inr ⟨_, rfl, List.filter_sublist, fun he => hpub (hsub _ he), fun e he => ?_⟩) hcopies
  · show ((s.removeMembers g x l).endpoint e).role = _
    rw [removeMembers_endpoint]
    split <;> rfl
  · constructor
    · exact fun he => .inl he
    · rintro (he | ⟨he, -⟩) <;> exact he
  · simp [he]

/-! ## CREATE, POLICY, JOIN -/

theorem law_create {g : GroupId} {e : EpId} (n : Nat) (o : Options) (hg : s.group g = .free) (he : s.role e = .idle)
    (ho : s.online (portOf e) = true) :
    ((s.setGroup g (.active (newGroup e n o))).setRole e (.publisher g)).view.Law := by
  rw [view_setRole, view_setGroup]
  refine h.create (x := newGroup e n o) ?_ he (not_out_of_online ho) rfl rfl rfl
  show (s.group g).norm = _
  rw [hg]
  rfl

theorem law_join {g : GroupId} {e : EpId} {x : ActiveGroup} {n : Nat} (hg : s.group g = .active x)
    (he : s.role e = .idle) (ho : s.online (portOf e) = true) (hn : 1 ≤ n) :
    ((s.setGroup g (.active { x with members := x.members ++ [e] })).setRole e (.member g [] n)).view.Law := by
  rw [view_setRole, view_setGroup]
  exact h.join (y := { x with members := x.members ++ [e], policy := .opened, nextSequence := 0#16 }) (view_group_active hg)
    he (not_out_of_online ho) hn rfl rfl rfl

omit h in
theorem view_modActive (g : GroupId) (f : ActiveGroup → ActiveGroup)
    (hf : ∀ x, (Group.active (f x)).norm = (Group.active x).norm) : (s.modActive g f).view = s.view := by
  refine view_eq (by simp) (fun e => congrArg Endpoint.role (endpoint_congr (by simp) e))
    (fun r => congrArg MsgRecord.norm (record_congr (by simp) r)) (fun c => congrArg Channel.norm (channel_congr (by simp) c))
    fun k => ?_
  cases hg : s.group g with
  | active x =>
    have heq : s.modActive g f = s.setGroup g (.active (f x)) := by
      unfold State.modActive
      rw [hg]
    rw [heq]
    by_cases hk : k = g
    · rw [hk, group_setGroup_self, hg]
      exact hf x
    · rw [group_setGroup_ne _ _ hk]
  | free =>
    have heq : s.modActive g f = s := by
      unfold State.modActive
      rw [hg]
    rw [heq]
  | dissolving =>
    have heq : s.modActive g f = s := by
      unfold State.modActive
      rw [hg]
    rw [heq]

omit h in
theorem view_setPolicy (e : EpId) (x : GroupPolicy) : (s.setPolicy e x).view = s.view := by
  unfold State.setPolicy
  split
  · rfl
  · exact view_modActive _ _ fun _ => rfl

/-! ## CLOSE -/

theorem law_beginDrain {e : EpId} {c : ChanId} {l : LiveChannel} (hc : s.channel c = .opened l) :
    (s.beginDrain e c l).view.Law := by
  have hv : s.view.channel c = .opened l.norm := by
    show (s.channel c).norm = _
    rw [hc]
    rfl
  have hne : l.caller ≠ l.callee := by
    have hface : s.view.face c = .live false l.caller l.callee l.toCallee.window l.toCaller.window := by
      show (s.view.channel c).face = _
      rw [hv]
      rfl
    have := h.named.distinct c
    rw [hface] at this
    simpa [Face.ends] using this
  have key (cl : Closers) (d : Option Time) :
      (((s.setChannel c (.draining l cl d)).modEndpoint l.caller fun x => { x with role := x.role.startClosing }).modEndpoint
        l.callee fun x => { x with role := x.role.startClosing }).view.Law := by
    rw [view_modEndpoint, view_modEndpoint, view_setChannel, endpoint_modEndpoint_ne _ _ hne.symm]
    exact h.startDrain (l := l.norm) { caller := false, callee := false } d hv
  unfold State.beginDrain
  simp only []
  split
  · rw [view_setEndpointCond]
    exact law_drainTest (key _ _) c
  · exact law_drainTest (key _ _) c

omit h in
theorem view_joinDrain {e : EpId} {c : ChanId} {l : LiveChannel} {cl : Closers} {d : Option Time}
    (hc : s.channel c = .draining l cl d) : (s.joinDrain e c l cl d).view = s.view := by
  have key (cl' : Closers) : (s.setChannel c (.draining l cl' d)).view = s.view := by
    rw [view_setChannel]
    refine View.ext rfl rfl (funext fun k => ?_) rfl rfl rfl rfl
    show Function.update s.view.channel c _ k = s.view.channel k
    by_cases hk : k = c
    · rw [hk, Function.update_self]
      show _ = (s.channel c).norm
      rw [hc]
      rfl
    · rw [Function.update_of_ne hk]
  unfold State.joinDrain
  split
  · split
    · rfl
    · rw [view_setEndpointCond, key]
  · split
    · rfl
    · rw [view_setEndpointCond, key]

theorem law_abortAt {e : EpId} {c : ChanId} {l : LiveChannel} : (s.abortAt e c l).view.Law := by
  unfold State.abortAt
  split <;> exact law_teardown h ..

theorem law_closeChannelEnd (e : EpId) (c : ChanId) (abort : Bool) : (s.closeChannelEnd e c abort).view.Law := by
  unfold State.closeChannelEnd
  cases hc : s.channel c with
  | opened l =>
    simp only []
    split
    · exact law_abortAt h
    · exact law_beginDrain h hc
  | draining l cl d =>
    simp only []
    split
    · exact law_abortAt h
    · rw [view_joinDrain hc]
      exact h
  | free => exact h
  | requested a b o dl => exact h
  | aborting a b cl k => exact h

theorem law_closeAtRole {e : EpId} (ho : s.online (portOf e) = true) (abort : Bool) : (s.closeAtRole e abort).view.Law := by
  unfold State.closeAtRole
  cases hr : s.role e with
  | idle => exact h
  | listening f =>
    simp only []
    rw [view_setRole]
    exact h.rest (.inr ⟨f, hr⟩) (.inl rfl) (not_out_of_online ho _)
  | offered c a f o => exact law_closeOffered h hr
  | calling c b => exact law_closeCalling h hr
  | connected c x q n => exact law_closeChannelEnd h e c abort
  | closing c x q n => exact law_closeChannelEnd h e c abort
  | publisher g =>
    simp only []
    unfold State.closePublisher
    cases hg : s.group g with
    | active x => exact law_dissolve h hg
    | free => exact h
    | dissolving => exact h
  | member g q n =>
    simp only []
    unfold State.closeMember
    cases hg : s.group g with
    | active x =>
      refine law_removeMembers h hg (List.nodup_singleton e) fun k hk => ?_
      rw [List.mem_singleton.1 hk]
      have hb := h.named.backed e
      rw [show s.view.role e = .member g q n from hr, view_groupFace] at hb
      obtain ⟨-, a, l, hl, hm⟩ := hb
      obtain ⟨y, hy, -, rfl⟩ := Group.face_eq_some.1 hl
      rw [hg] at hy
      cases hy
      exact hm
    | free => exact h
    | dissolving => exact h

end

end Sys2Proof.Machine
end

section
/-! The laws of naming and holding through the start and the end of a copy-in. -/

namespace Sys2Proof.Machine

/-! ## Views -/

section
variable (s : State)

theorem takeIn_cores (p : Port) (r : RecId) (m : Message) : (s.takeIn p r m).cores = s.cores := by
  unfold State.takeIn
  split
  · rw [reserveReceipt_cores, allocate_cores]
  · rw [allocate_cores]

theorem view_takeIn (p : Port) (r : RecId) (m : Message) :
    (s.takeIn p r m).view = s.view.setRecord r (.filling m.norm) := by
  refine View.ext (funext fun e => ?_) (funext fun k => ?_) (funext fun c => ?_) (funext fun g => ?_)
    (view_send_of_cores (takeIn_cores ..)) (view_fetch_of_cores (takeIn_cores ..)) (out_of_cores (takeIn_cores ..))
  · exact congrArg Endpoint.role (endpoint_congr (takeIn_endpoints ..) e)
  · show ((s.takeIn p r m).record k).norm = Function.update s.view.record r _ k
    rw [takeIn_record, Function.update_apply]
    split <;> rfl
  · exact congrArg Channel.norm (channel_congr (takeIn_channels ..) c)
  · exact congrArg Group.norm (group_congr (takeIn_groups ..) g)

theorem view_modLive (c : ChanId) (f : LiveChannel → LiveChannel) :
    (s.modLive c f).view = s.view.setChannel c ((s.channel c).mapLive f).norm :=
  view_setChannel ..

theorem view_startCopyIn (p : Port) (r : RecId) (kind : MsgKind) (n life : Nat) :
    (s.startCopyIn p r kind n life).view = s.view.setSend p (some (r, n, kind)) := by
  unfold State.startCopyIn
  rw [view_grant, view_placeRequest, view_modPort_send s p _ rfl rfl]
  show s.view.setSend p (some (r, 0 + n, kind)) = _
  rw [Nat.zero_add]

theorem view_writeSendOutcome (p : Port) (m : Message) (e : SendEnd) (n : Nat) :
    (s.writeSendOutcome p m e n).view = s.view := by
  unfold State.writeSendOutcome
  rw [view_setPortCond, view_modPort s p _ rfl rfl rfl]

theorem view_sendUnitDone (p : Port) : (s.sendUnitDone p).view = s.view.setSend p none :=
  view_modPort_send s p _ rfl rfl

theorem view_append (e : EpId) (r : RecId) :
    (s.append e r).view = s.view.setRole e ((s.role e).withQueue ((s.role e).queue ++ [r])) := by
  unfold State.append
  rw [view_setEndpointCond, view_modEndpoint]
  rfl

theorem view_makeLive {r : RecId} {m : Message} (d life : Nat) (h : (s.record r).message? = some m) :
    (s.makeLive r d life).view = s.view.setRecord r (.live { m.norm with count := d } none) := by
  unfold State.makeLive
  rw [h]
  exact view_setRecord ..

theorem Channel.norm_endTransfer (x : Channel) : x.endTransfer.norm = x.norm.endTransfer := by
  cases x with
  | aborting a b cl k =>
    show (if k ≤ 1 then Channel.free else .aborting a b cl (k - 1)).norm =
      if k ≤ 1 then .free else .aborting a b { caller := false, callee := false } (k - 1)
    split <;> rfl
  | free => rfl
  | requested a b o d => rfl
  | opened l => rfl
  | draining l cl d => rfl

theorem view_endGroupCopy (g : GroupId) : (s.endGroupCopy g).view = s.view.setGroup g (s.view.group g).copyDone := by
  have hnorm : (s.group g).copyDone.norm = (s.view.group g).copyDone := by
    show _ = (s.group g).norm.copyDone
    cases s.group g <;> rfl
  have heq : (s.endGroupCopy g).view = (s.setGroup g (s.group g).copyDone).view := by
    unfold State.endGroupCopy
    cases hg : s.group g with
    | active x => rfl
    | dissolving => rfl
    | free =>
      rw [view_setGroup]
      refine View.ext rfl rfl rfl (funext fun k => ?_) rfl rfl rfl
      show (s.group k).norm = Function.update s.view.group g _ k
      by_cases hk : k = g
      · rw [hk, Function.update_self, hg]
        rfl
      · rw [Function.update_of_ne hk]
        rfl
  rw [heq, view_setGroup, hnorm]

end

/-! ## The drain completion test and the end of a unit's work -/

/-- The drain completion test may come before the end of the unit's work. -/
theorem law_drainTest_setSend {s : State} {p : Port} (h : (s.view.setSend p none).Law) (c : ChanId) :
    ((s.drainTest c).view.setSend p none).Law := by
  rcases view_drainTest_cases s c with hv | ⟨l, cl, dl, hc, ha, hb, ht, hv⟩
  · rw [hv]
    exact h
  · rw [hv]
    exact h.drained hc ha hb ht

theorem law_drainTest_setFetch {s : State} {p : Port} (h : (s.view.setFetch p none).Law) (c : ChanId) :
    ((s.drainTest c).view.setFetch p none).Law := by
  rcases view_drainTest_cases s c with hv | ⟨l, cl, dl, hc, ha, hb, ht, hv⟩
  · rw [hv]
    exact h
  · rw [hv]
    exact h.drained hc ha hb ht

end Sys2Proof.Machine
end

section
/-! The laws of naming and holding through SEND and the completions of a channel's copy-in. -/

namespace Sys2Proof.Machine

/-! ## Room at the receiver -/

/-- A message enters a direction, as far as the accounts go. -/
def Direction.take (x : Direction) : Direction :=
  { x with credits := x.credits - 1, outstanding := x.outstanding + 1 }

theorem Direction.norm_spend (x : Direction) : x.spend.norm = x.norm.take := rfl

theorem LiveChannel.norm_modDirection (l : LiveChannel) (d : Dirn) {f g : Direction → Direction}
    (h : ∀ x, (f x).norm = g x.norm) : (l.modDirection d f).norm = l.norm.modDirection d g := by
  obtain ⟨a, b, n, o, t, u, k⟩ := l
  cases d <;> simp [LiveChannel.modDirection, LiveChannel.norm, h]

theorem LiveChannel.Accounts.take {l : LiveChannel} {records : Dirn → Nat} {d : Dirn} {t : Nat} {ends : EpId → EpId → Prop}
    (h : l.Accounts records t ends) (hc : (l.direction d).credits ≠ 0) :
    (l.modDirection d Direction.take).Accounts (bump records d) t ends := by
  have hx := h.spend hc
  cases d <;> exact ⟨fun k => by have := hx.1 k; cases k <;> exact this, hx.2⟩

/-- The entries of a queue on a direction are records of it. -/
theorem View.Held.queue_le_recordsOn {v : View} (h : v.Held) {c : ChanId} {d : Dirn} {e : EpId}
    (hq : ∀ r m dl, r ∈ (v.role e).queue → v.record r = .live m dl → m.link = .channel c d) :
    (v.role e).queue.length ≤ v.recordsOn c d := by
  have hnd := (h.queue e).1
  rw [← List.toFinset_card_of_nodup hnd, View.recordsOn, ← Finset.card_filter]
  refine Finset.card_le_card fun r hr => ?_
  rw [List.mem_toFinset] at hr
  obtain ⟨m, dl, hm, -⟩ := h.entry e r hr
  rw [Finset.mem_filter]
  refine ⟨Finset.mem_univ _, ?_⟩
  rw [hm]
  exact congrArg some (hq r m dl hr hm)

/-- A direction with a credit left has a place in the receiver's queue (R36). -/
theorem View.Law.room {v : View} (h : v.Law) {c : ChanId} {l : LiveChannel} {d : Dirn} (o : EpId)
    (hc : (v.channel c).live? = some l) (hcr : (l.direction d).credits ≠ 0)
    (ho : ¬v.out (portOf (l.receiver d)) .endpointTable) :
    (v.role (l.receiver d)).queue.length < (v.role (l.receiver d)).depth ∧
      (v.role (l.receiver d)).Takes (l.receiver d) v.face v.groupFace o (.channel c d) := by
  obtain ⟨dr, hface⟩ : ∃ dr, v.face c = .live dr l.caller l.callee l.toCallee.window l.toCaller.window := by
    show ∃ dr, (v.channel c).face = _
    cases hx : v.channel c with
    | opened l' => rw [hx] at hc; cases hc; exact ⟨false, rfl⟩
    | draining l' cl' dl => rw [hx] at hc; cases hc; exact ⟨true, rfl⟩
    | free => rw [hx] at hc; cases hc
    | requested a b o dl => rw [hx] at hc; cases hc
    | aborting a b cl' k => rw [hx] at hc; cases hc
  have hacc := (Channel.accounts_iff_of_live hc).1 (h.holding.account c)
  obtain ⟨hdir, -, -⟩ := hacc
  obtain ⟨hsum, hout⟩ := hdir d
  have hne : l.caller ≠ l.callee := by
    have := h.named.distinct c
    rw [hface] at this
    simpa [Face.ends] using this
  have hrecv : (v.face c).receiver? d = some (l.receiver d) := by
    rw [hface]
    cases d <;> rfl
  have hend : l.receiver d = l.caller ∨ l.receiver d = l.callee := by
    cases d
    · exact .inr rfl
    · exact .inl rfl
  have hwin {x : EpId} {w n : Nat} {dr' : Bool}
      (hb : v.face c = .live dr' (l.receiver d) x w n ∨ v.face c = .live dr' x (l.receiver d) n w) :
      n = (l.direction d).window := by
    rw [hface] at hb
    rcases hb with hb | hb
    · cases d
      · injection hb with _ h1 h2 _ _
        exact absurd h1 hne
      · injection hb with _ _ _ _ h1
        exact h1.symm
    · cases d
      · injection hb with _ _ _ h1 _
        exact h1.symm
      · injection hb with _ _ h1 _ _
        exact absurd h1 hne.symm
  have takesLink {r : RecId} {m : Message} {dl : Option Time} (hr : r ∈ (v.role (l.receiver d)).queue)
      (hm : v.record r = .live m dl) (hch : (v.role (l.receiver d)).channel? = some c) : m.link = .channel c d := by
    obtain ⟨m', dl', hm', ht⟩ := h.holding.entry _ r hr
    rw [hm] at hm'
    cases hm'
    have hlink : ∃ d', m.link = .channel c d' ∧ (v.face c).receiver? d' = some (l.receiver d) := by
      cases hrole : v.role (l.receiver d) with
      | connected k x q n => rw [hrole] at ht hch; cases hch; exact ht
      | closing k x q n => rw [hrole] at ht hch; cases hch; exact ht
      | member g q n => rw [hrole] at hch; cases hch
      | idle => rw [hrole] at hch; cases hch
      | listening f => rw [hrole] at hch; cases hch
      | offered k a f o => rw [hrole] at ht; exact ht.elim
      | calling k b => rw [hrole] at ht; exact ht.elim
      | publisher g => rw [hrole] at hch; cases hch
    obtain ⟨d', hk, hd'⟩ := hlink
    rw [hface] at hd'
    rw [hk]
    cases d <;> cases d'
    · rfl
    · exact absurd (Option.some.inj hd') hne
    · exact absurd (Option.some.inj hd') hne.symm
    · rfl
  have hback := h.named.backed (l.receiver d)
  rcases h.named.liveEnd hface hend with hg | ⟨x, q, n, hr⟩
  · exact absurd hg.2 ho
  · have hle := h.holding.toHeld.queue_le_recordsOn (e := l.receiver d) fun r m dl hr' hm =>
      takesLink hr' hm (by rw [hr]; cases dr <;> rfl)
    rw [hr] at hback hle ⊢
    cases dr with
    | false =>
      obtain ⟨w, hw⟩ := hback
      have hn : n = (l.direction d).window := hwin hw
      exact ⟨by show q.length < n; have : q.length ≤ _ := hle; omega, d, rfl, hrecv⟩
    | true =>
      obtain ⟨w, hw⟩ := hback
      have hn : n = (l.direction d).window := hwin hw
      exact ⟨by show q.length < n; have : q.length ≤ _ := hle; omega, d, rfl, hrecv⟩

/-- A message of a channel enters the queue of its receiver, and spends a credit. -/
theorem View.Law.arrive {v : View} (h : v.Law) {c : ChanId} {l : LiveChannel} {d : Dirn} {r : RecId} {m : Message}
    (hr : v.record r = .free) (hm : m.count = 1) (hk : m.link = .channel c d) (hc : (v.channel c).live? = some l)
    (hcr : (l.direction d).credits ≠ 0) (ho : ¬v.out (portOf (l.receiver d)) .endpointTable)
    (horig : m.origin = d.sender l.caller l.callee) :
    (((v.setRole (l.receiver d) ((v.role (l.receiver d)).withQueue ((v.role (l.receiver d)).queue ++ [r]))).setRecord r
      (.live m none)).setChannel c ((v.channel c).mapLive fun y => y.modDirection d Direction.take)).Law := by
  obtain ⟨hroom, htakes⟩ := h.room m.origin hc hcr ho
  have hface : Channel.face ((v.channel c).mapLive fun y => y.modDirection d Direction.take) = v.face c :=
    Channel.face_mapLive fun _ => by cases d <;> exact ⟨rfl, rfl, rfl, rfl⟩
  refine View.Arrived.law (r := r) (m := m) (l := [l.receiver d]) h ⟨hr, hm, le_refl 1, by simp, fun _ => rfl,
    List.nodup_singleton _, fun e he => ?_, fun e => ?_, rfl, rfl, rfl, rfl, rfl, ?_, fun k => ?_⟩
  · rw [List.mem_singleton.1 he, hk]
    exact ⟨hroom, htakes⟩
  · show Function.update v.role (l.receiver d) _ e = _
    by_cases he : e = l.receiver d
    · rw [he, Function.update_self, if_pos (List.mem_singleton_self _)]
    · rw [Function.update_of_ne he, if_neg (by simpa using he)]
  · funext k
    show (Function.update v.channel c _ k).face = (v.channel k).face
    by_cases hkc : k = c
    · rw [hkc, Function.update_self, hface]
      rfl
    · rw [Function.update_of_ne hkc]
  · show (Function.update v.channel c _ k).Accounts _ _ _
    rw [hk]
    by_cases hkc : k = c
    · subst hkc
      rw [Function.update_self, Channel.accounts_iff_of_live (l := l.modDirection d Direction.take)
        (by rw [Channel.live?_mapLive, hc]; rfl)]
      have hacc := LiveChannel.Accounts.take (d := d) ((Channel.accounts_iff_of_live hc).1 (h.holding.account k)) hcr
      obtain ⟨h1, h2, h3⟩ := hacc
      refine ⟨fun x => ?_, h2, ?_⟩
      · dsimp only
        rw [RecLink.share_self]
        exact h1 x
      · obtain ⟨-, f2, f3⟩ := l.modDirection_frame d Direction.take
        refine ⟨h3, fun x hx => ?_⟩
        cases hx
        rw [f2, f3]
        exact horig
    · rw [Function.update_of_ne hkc]
      have hacc := h.holding.account k
      have hsh : (fun x => v.recordsOn k x + (RecLink.channel c d).share k x) = v.recordsOn k :=
        funext fun x => by rw [RecLink.share_ne hkc, Nat.add_zero]
      rw [hsh]
      exact hacc.mono fun a b he => ⟨he, fun x hx => absurd (by cases hx; rfl) hkc⟩

end Sys2Proof.Machine
end

section
/-! The laws of naming and holding through the completions and cancellations of a copy-in. -/

namespace Sys2Proof.Machine

/-! ## Rules over a view -/

theorem Function.update_eta {α β : Type} [DecidableEq α] (f : α → β) (a : α) (b : β) (g : α → β) (ha : g a = b)
    (hne : ∀ x, x ≠ a → g x = f x) : Function.update f a b = g := by
  funext x
  by_cases h : x = a
  · rw [h, Function.update_self, ha]
  · rw [Function.update_of_ne h, hne x h]

section
variable {v : View} (h : v.Law)
include h

theorem View.Law.unfillChannel {p : Port} {r : RecId} {m : Message} {n : Nat} {kind : MsgKind} {c : ChanId} {d : Dirn}
    (hs : v.send p = some (r, n, kind)) (hr : v.record r = .filling m) (hk : m.link = .channel c d) :
    (((v.setRecord r .free).setChannel c ((v.channel c).withoutOne d true)).setSend p none).Law := by
  refine View.Unfilled.law (p := p) (r := r) (m := m) (n := n) (kind := kind) h
    ⟨hs, hr, rfl, rfl, rfl, rfl, rfl, fun k => ?_, fun g => ?_⟩
  · show Function.update v.channel c _ k = _
    rw [hk]
    show _ = if k = c then (v.channel k).withoutOne d true else v.channel k
    by_cases hkc : k = c
    · rw [hkc, Function.update_self, if_pos rfl]
    · rw [Function.update_of_ne hkc, if_neg hkc]
  · rw [hk]
    rfl

theorem View.Law.unfillGroup {p : Port} {r : RecId} {m : Message} {n : Nat} {kind : MsgKind} {g : GroupId}
    (hs : v.send p = some (r, n, kind)) (hr : v.record r = .filling m) (hk : m.link = .group g) :
    (((v.setRecord r .free).setGroup g (v.group g).copyDone).setSend p none).Law := by
  refine View.Unfilled.law (p := p) (r := r) (m := m) (n := n) (kind := kind) h
    ⟨hs, hr, rfl, rfl, rfl, rfl, rfl, fun c => ?_, fun k => ?_⟩
  · rw [hk]
    rfl
  · show Function.update v.group g _ k = _
    rw [hk]
    show _ = if k = g then (v.group k).copyDone else v.group k
    by_cases hkg : k = g
    · rw [hkg, Function.update_self, if_pos rfl]
    · rw [Function.update_of_ne hkg, if_neg hkg]

/-- The messages of a channel with an end come from the sending one. -/
theorem View.Law.origin {r : RecId} {m : Message} {c : ChanId} {d : Dirn} {l : LiveChannel}
    (hc : (v.channel c).live? = some l) (hr : (v.record r).message? = some m) (hk : m.link = .channel c d) :
    m.origin = d.sender l.caller l.callee := by
  obtain ⟨-, -, he⟩ := (Channel.accounts_iff_of_live hc).1 (h.holding.account c)
  exact (he r m d hr hk).1

/-- A direction with a record has a message outstanding. -/
theorem View.Law.outstanding {r : RecId} {m : Message} {c : ChanId} {d : Dirn} {l : LiveChannel}
    (hc : (v.channel c).live? = some l) (hr : (v.record r).message? = some m) (hk : m.link = .channel c d) :
    1 ≤ (l.direction d).outstanding := by
  obtain ⟨hdir, -, -⟩ := (Channel.accounts_iff_of_live hc).1 (h.holding.account c)
  rw [(hdir d).2]
  have hle := le_sum (fun r => if (v.record r).link? = some (.channel c d) then 1 else 0) r
  rw [if_pos (by rw [MsgRecord.link?, hr]; exact congrArg some hk)] at hle
  exact hle

end

/-- A delivery leaves a channel's directions as they were. -/
theorem Channel.withoutOne_take {x : Channel} {l : LiveChannel} (d : Dirn) (hx : x.live? = some l)
    (ho : 1 ≤ (l.direction d).outstanding) :
    (x.withoutOne d true).mapLive (fun y => y.modDirection d Direction.take) = x.endTransfer := by
  have key : (l.ended d true).modDirection d Direction.take = { l with transfers := l.transfers - 1 } := by
    obtain ⟨a, b, n, o, ⟨w, c, u, q⟩, ⟨w', c', u', q'⟩, k⟩ := l
    cases d <;>
      simp only [LiveChannel.direction] at ho <;>
      simp only [LiveChannel.ended, LiveChannel.modDirection, Direction.take, if_true, LiveChannel.mk.injEq,
        Direction.mk.injEq, true_and, and_true] <;> omega
  cases x with
  | opened l' => cases hx; exact congrArg Channel.opened key
  | draining l' cl dl => cases hx; exact congrArg (fun y => Channel.draining y cl dl) key
  | free => cases hx
  | requested a b o dl => cases hx
  | aborting a b cl k => cases hx

theorem Channel.withoutOne_live {x : Channel} {l : LiveChannel} (d : Dirn) (hx : x.live? = some l) :
    (x.withoutOne d true).live? = some (l.ended d true) := by
  cases x <;> cases hx <;> rfl

theorem LiveChannel.ended_frame (l : LiveChannel) (d : Dirn) :
    (l.ended d true).caller = l.caller ∧ (l.ended d true).callee = l.callee ∧
      (l.ended d true).receiver d = l.receiver d ∧ ((l.ended d true).direction d).credits ≠ 0 := by
  cases d <;> exact ⟨rfl, rfl, rfl, Nat.succ_ne_zero _⟩

theorem View.Law.of_eq {v w : View} (h : v.Law) (he : w = v) : w.Law :=
  he ▸ h

/-! ## The copy-in of a channel's message -/

section
variable {s : State} {r : RecId} {m : Message} (p : Port) (c : ChanId) (e : EpId) (life : Nat)
  (hm : (s.record r).message? = some m)
include hm

theorem view_append_makeLive :
    ((s.append e r).makeLive r 1 life).view =
      (s.view.setRole e ((s.role e).withQueue ((s.role e).queue ++ [r]))).setRecord r
        (.live { m.norm with count := 1 } none) := by
  rw [view_makeLive (m := m) _ 1 life (by rw [record_congr (append_records ..), hm]), view_append]

theorem view_deliver_counted :
    (s.deliver p r m c e life true).view =
      ((s.view.setRole e ((s.role e).withQueue ((s.role e).queue ++ [r]))).setRecord r
        (.live { m.norm with count := 1 } none)).setChannel c (s.channel c).endTransfer.norm := by
  unfold State.deliver State.endTransfer
  simp only [if_true]
  rw [view_writeSendOutcome, view_setChannel, view_append_makeLive e life hm, channel_congr (makeLive_channels ..),
    channel_congr (append_channels ..)]

theorem view_deliver_uncounted :
    (s.deliver p r m c e life false).view =
      (s.view.setRole e ((s.role e).withQueue ((s.role e).queue ++ [r]))).setRecord r
        (.live { m.norm with count := 1 } none) := by
  unfold State.deliver
  simp only [Bool.false_eq_true, if_false]
  rw [view_writeSendOutcome, view_append_makeLive e life hm]

end

section
variable {s : State} (h : s.view.Law) {p : Port} {u : CopyIn} {m : Message} (hu : (s.port p).sendUnit = some u)
  (hr : s.record u.record = .filling m)

include hr in
theorem view_record_filling : s.view.record u.record = .filling m.norm := by
  show (s.record u.record).norm = _
  rw [hr]
  rfl

include hu in
theorem view_send_some : s.view.send p = some (u.record, u.next + u.remaining, u.kind) := by
  show (s.port p).sendUnit.map CopyIn.span = _
  rw [hu]
  rfl

include h hr in
theorem claim_filling_view (k : Option TallyKind) (cause : Cause) :
    (s.claim u.record 1 k cause).view = s.view.setRecord u.record .free := by
  have hrv := view_record_filling hr
  rw [view_claim, hrv]
  congr 1
  have h1 : m.norm.count = 1 := (h.holding.filling _ _ hrv).1
  exact if_pos (by rw [h1])

include h hu hr in
/-- The copy-in ends with its message given up (R67, R68, R72). -/
theorem law_dropChannelCopy {c : ChanId} {d : Dirn} (k : Option TallyKind) (cause : Cause) (hk : m.link = .channel c d) :
    (((s.claim u.record 1 k cause).endMessageTransfer c d true).view.setSend p none).Law := by
  rw [endMessageTransfer_eq]
  refine law_drainTest_setSend ?_ c
  rw [view_setChannel, claim_filling_view h hr, Channel.norm_withoutOne, channel_congr (claim_channels ..)]
  exact h.unfillChannel (view_send_some hu) (view_record_filling hr) hk

include h hu hr in
theorem law_dropGroupCopy {g : GroupId} (k : Option TallyKind) (cause : Cause) (hk : m.link = .group g) :
    (((s.claim u.record 1 k cause).endGroupCopy g).view.setSend p none).Law := by
  rw [view_endGroupCopy, claim_filling_view h hr]
  exact h.unfillGroup (view_send_some hu) (view_record_filling hr) hk

include h hu hr in
/-- The copy-in ends with its message delivered (R66). -/
theorem law_deliver {c : ChanId} {d : Dirn} {l : LiveChannel} (life : Nat) (hk : m.link = .channel c d)
    (hc : (s.channel c).live? = some l) (ho : s.online (portOf (l.receiver d)) = true) :
    ((s.deliver p u.record m c (l.receiver d) life true).view.setSend p none).Law := by
  have hrv := view_record_filling hr
  have hsv := view_send_some hu
  have hcv : (s.view.channel c).live? = some l.norm := by
    show (s.channel c).norm.live? = _
    rw [Channel.norm_live?, hc]
    rfl
  obtain ⟨hcount, -⟩ := h.holding.filling _ _ hrv
  have hmsg : (s.view.record u.record).message? = some m.norm := by rw [hrv]; rfl
  have horig := h.origin hcv hmsg hk
  have hout := h.outstanding hcv hmsg hk
  have h1 := h.unfillChannel hsv hrv hk
  obtain ⟨f1, f2, f3, f4⟩ := l.norm.ended_frame d
  have hrecv : l.norm.receiver d = l.receiver d := by cases d <;> rfl
  have hc1 : ((((s.view.setRecord u.record .free).setChannel c ((s.view.channel c).withoutOne d true)).setSend p none).channel
      c).live? = some (l.norm.ended d true) := by
    show (Function.update s.view.channel c _ c).live? = _
    rw [Function.update_self]
    exact Channel.withoutOne_live d hcv
  have h2 := h1.arrive (r := u.record) (m := m.norm) (d := d) (Function.update_self ..) hcount hk hc1 f4
    (by rw [f3, hrecv]; exact not_out_of_online ho _) (by rw [f1, f2]; exact horig)
  rw [f3, hrecv] at h2
  rw [view_deliver_counted p c (l.receiver d) life (by rw [hr]; rfl)]
  refine View.Law.of_eq h2 (View.ext rfl ?_ ?_ rfl rfl rfl rfl)
  · show Function.update s.view.record u.record (.live { m.norm with count := 1 } none) =
      Function.update (Function.update s.view.record u.record .free) u.record (.live m.norm none)
    rw [Function.update_idem]
    congr 2
    rw [← hcount]
  · show Function.update s.view.channel c (s.channel c).endTransfer.norm =
      Function.update (Function.update s.view.channel c _) c _
    rw [Function.update_idem, Channel.norm_endTransfer]
    congr 1
    show _ = (Function.update s.view.channel c _ c).mapLive _
    rw [Function.update_self]
    exact (Channel.withoutOne_take d hcv hout).symm

include h hu hr in
theorem law_completeChannelCopy {c : ChanId} {d : Dirn} (life : Nat) (hk : m.link = .channel c d) :
    ((s.completeChannelCopy p u.record m c d life true).view.setSend p none).Law := by
  have hdrop : ((s.discardCopyIn p u.record m c d true).view.setSend p none).Law := by
    unfold State.discardCopyIn
    rw [view_writeSendOutcome]
    exact law_dropChannelCopy h hu hr none .discarded hk
  unfold State.completeChannelCopy
  split
  · next l hl =>
    split
    · next ho => exact law_deliver h hu hr life hk hl ho
    · exact hdrop
  · exact hdrop

end

end Sys2Proof.Machine
end

section
/-! The laws of naming and holding through the fan-out, and through SEND and PUBLISH. -/

namespace Sys2Proof.Machine

/-! ## The fan-out -/

section
variable (s : State) (r : RecId)

theorem view_foldl_append : ∀ (l : List EpId) (s : State), l.Nodup →
    (l.foldl (fun t e => t.append e r) s).view =
      { s.view with role := fun e => if e ∈ l then (s.role e).withQueue ((s.role e).queue ++ [r]) else s.role e }
  | [], s, _ => rfl
  | a :: l, s, hn => by
    obtain ⟨ha, hl⟩ := List.nodup_cons.1 hn
    have hrole (e : EpId) : (s.append a r).role e =
        if e = a then (s.role a).withQueue ((s.role a).queue ++ [r]) else s.role e := by
      have := congrFun (congrArg View.role (view_append s a r)) e
      rwa [View.setRole_apply] at this
    rw [List.foldl_cons, view_foldl_append l _ hl, view_append]
    refine View.ext (funext fun e => ?_) rfl rfl rfl rfl rfl rfl
    show (if e ∈ l then ((s.append a r).role e).withQueue (((s.append a r).role e).queue ++ [r]) else (s.append a r).role e) =
      if e ∈ a :: l then (s.role e).withQueue ((s.role e).queue ++ [r]) else s.role e
    rw [hrole]
    by_cases hea : e = a
    · subst hea
      rw [if_neg ha, if_pos rfl, if_pos List.mem_cons_self]
    · rw [if_neg hea]
      by_cases hel : e ∈ l
      · rw [if_pos hel, if_pos (List.mem_cons_of_mem _ hel)]
      · rw [if_neg hel, if_neg (by simp [hea, hel])]

end

section
variable {s : State} {p : Port} {r : RecId} {m : Message} {g : GroupId} {x : ActiveGroup}

/-- The fan-out (R128), from a view in which the copy-in is over and its message gone. -/
theorem law_fanOut (h : (((s.view.setRecord r .free).setGroup g (s.view.group g).copyDone).setSend p none).Law)
    (hr : s.record r = .filling m) (hcount : m.count = 1) (hk : m.link = .group g) (hg : s.group g = .active x)
    (horig : m.origin = x.publisher) (hlen : x.members.length ≤ 12) (life : Nat) :
    ((s.fanOut p r m g x life).view.setSend p none).Law := by
  let l := x.members.filter s.hasRoom
  let n := x.members.length - l.length
  let s1 := l.foldl (fun t e => t.append e r) s
  let skip (m' : Message) : Message := { m' with tallies := { m'.tallies with skipped := n } }
  let s2 := s1.modMessage r skip
  have hgv : s.view.group g = .active { x with policy := .opened, nextSequence := 0#16 } := view_group_active hg
  have hface : (((s.view.setRecord r .free).setGroup g (s.view.group g).copyDone).setSend p none).groupFace g =
      some (x.publisher, x.members) := by
    show (Function.update s.view.group g _ g).face = _
    rw [Function.update_self, hgv]
    rfl
  obtain ⟨hnd, -⟩ := h.named.sound g _ _ hface
  have hl : l.Nodup := hnd.filter _
  have hrec1 : s1.record r = .filling m := by
    show (l.foldl (fun t e => t.append e r) s).record r = _
    rw [record_congr (foldl_records _ (fun _ _ => append_records ..) _ _), hr]
  have hrec2 : s2.record r = .filling { m with tallies := { m.tallies with skipped := n } } := by
    show (s1.modMessage r skip).record r = _
    unfold State.modMessage
    rw [record_setRecord_self, hrec1]
    rfl
  have hv2 : s2.view = { s.view with
      role := fun e => if e ∈ l then (s.role e).withQueue ((s.role e).queue ++ [r]) else s.role e } :=
    (view_modMessage s1 r skip fun _ => rfl).trans (view_foldl_append r l s hl)
  have heq : s.fanOut p r m g x life =
      ((if l.length = 0 then s2.claim r 1 none .undelivered else s2.makeLive r l.length life).endGroupCopy g).writeSendOutcome
        p m .delivered l.length := rfl
  rw [heq, view_writeSendOutcome, view_endGroupCopy]
  by_cases hz : l.length = 0
  · have hnil : l = [] := List.length_eq_zero_iff.1 hz
    rw [if_pos hz, view_claim]
    have hlow : (s2.view.record r).lower 1 = .free := by
      show (s2.record r).norm.lower 1 = _
      rw [hrec2]
      exact if_pos (by show m.count - 1 = 0; omega)
    rw [hlow, hv2]
    refine h.of_eq (View.ext (funext fun e => ?_) rfl rfl rfl rfl rfl rfl)
    show (if e ∈ l then _ else s.role e) = s.role e
    rw [hnil]
    exact if_neg (List.not_mem_nil)
  · rw [if_neg hz, view_makeLive (m := { m with tallies := { m.tallies with skipped := n } }) _ _ _ (by rw [hrec2]; rfl), hv2]
    refine View.Arrived.law (r := r) (m := { m.norm with count := l.length }) (l := l) h
      ⟨Function.update_self .., rfl, Nat.one_le_iff_ne_zero.2 hz, (List.length_filter_le ..).trans hlen, fun hx => ?_, hl,
        fun e he => ?_, fun e => rfl, ?_, rfl, rfl, rfl, ?_, rfl, fun c => ?_⟩
    · simp [Message.isGroup, Message.norm, hk] at hx
    · obtain ⟨hmem, hroom⟩ := List.mem_filter.1 he
      simp only [State.hasRoom, Bool.and_eq_true, decide_eq_true_eq] at hroom
      obtain ⟨ho, hroom⟩ := hroom
      refine ⟨hroom, ?_⟩
      show (s.role e).Takes e _ _ m.origin m.link
      rcases h.named.member hface hmem with hgone | ⟨q, k, hrole⟩
      · exact absurd hgone.2 (not_out_of_online ho _)
      · rw [show s.role e = .member g q k from hrole, hk, horig]
        exact ⟨rfl, x.members, hface⟩
    · show Function.update s.view.record r (MsgRecord.live _ none) =
        Function.update (Function.update s.view.record r .free) r (.live _ none)
      rw [Function.update_idem]
      rfl
    · rfl
    · have hsh : (fun d => (((s.view.setRecord r .free).setGroup g (s.view.group g).copyDone).setSend p none).recordsOn c d +
          m.link.share c d) = _ := funext fun d => by rw [hk, RecLink.share_group, Nat.add_zero]
      show (s.view.channel c).Accounts (fun d => _ + m.link.share c d) _ _
      rw [hsh]
      exact (h.holding.account c).mono fun a b he => ⟨he, fun d hd => by rw [show m.link = .channel c d from hd] at hk; cases hk⟩

theorem law_completeGroupCopy {u : CopyIn} (h : s.view.Law) (hl : s.LinkLaw) (hu : (s.port p).sendUnit = some u)
    (hr : s.record u.record = .filling m) (hk : m.link = .group g) (life : Nat) :
    ((s.completeGroupCopy p u.record m g life).view.setSend p none).Law := by
  have hrv := view_record_filling hr
  obtain ⟨hcount, -⟩ := h.holding.filling _ _ hrv
  unfold State.completeGroupCopy
  cases hg : s.group g with
  | active x =>
    have hcopies := h.holding.copies g
    rw [view_group_active hg] at hcopies
    have hin := hl.2.2 g
    rw [hg] at hin
    exact law_fanOut (h.unfillGroup (view_send_some hu) hrv hk) hr hcount hk hg (hcopies.2 u.record m.norm hrv hk) hin.1 life
  | free =>
    simp only [Group.active?]
    rw [view_writeSendOutcome]
    exact law_dropGroupCopy h hu hr none .discarded hk
  | dissolving =>
    simp only [Group.active?]
    rw [view_writeSendOutcome]
    exact law_dropGroupCopy h hu hr none .discarded hk

/-- A completion of a copy-in (R65). -/
theorem law_completeCopyIn {u : CopyIn} (h : s.view.Law) (hl : s.LinkLaw) (hu : (s.port p).sendUnit = some u) (life : Nat) :
    (s.completeCopyIn p u.record life true).view.Law := by
  obtain ⟨m, hm, -⟩ := h.holding.sender p _ _ _ (view_send_some hu)
  obtain ⟨m', hr, -⟩ := MsgRecord.norm_eq_filling.1 hm
  unfold State.completeCopyIn
  rw [hr]
  simp only [MsgRecord.message?]
  cases hk : m'.link with
  | channel c d =>
    simp only []
    rw [view_sendUnitDone]
    exact law_completeChannelCopy h hu hr life hk
  | group g =>
    simp only []
    rw [view_sendUnitDone]
    exact law_completeGroupCopy h hl hu hr hk life

theorem out_report_unit (s : State) (p : Port) {x : Report} (hx : ∀ b, x ≠ .share b) : (s.report p x).out = s.out := by
  funext q b
  unfold State.out
  have hb : decide (Report.share b = x) = false := decide_eq_false fun h => hx b h.symm
  rw [online_report, awaits_report, hb, Bool.and_false, Bool.not_false, Bool.and_true]

theorem view_report_unit (s : State) (p : Port) {x : Report} (hx : ∀ b, x ≠ .share b) : (s.report p x).view = s.view := by
  have := view_modPort_state s p (fun y => { y with state := y.state.afterReport x }) rfl rfl
  refine this.trans (View.ext rfl rfl rfl rfl rfl rfl (out_report_unit s p hx))

/-- The end of a cancelled copy-in (R72, R129). -/
theorem law_cancelCopyIn {u : CopyIn} (h : s.view.Law) (hu : (s.port p).sendUnit = some u) :
    (s.cancelCopyIn p u.record).view.Law := by
  obtain ⟨m, hm, -⟩ := h.holding.sender p _ _ _ (view_send_some hu)
  obtain ⟨m', hr, -⟩ := MsgRecord.norm_eq_filling.1 hm
  rw [cancelCopyIn_eq p (m := m') (by rw [hr]; rfl), view_report_unit _ _ (by simp), view_modPort_send _ p _ rfl rfl]
  show ((s.copyInDropped u.record m'.link).view.setSend p none).Law
  cases hk : m'.link with
  | channel c d => exact law_dropChannelCopy h hu hr none .cancelled hk
  | group g => exact law_dropGroupCopy h hu hr none .cancelled hk

end

end Sys2Proof.Machine
end

section
/-! The laws of naming and holding through SEND and PUBLISH. -/

namespace Sys2Proof.Machine

/-! ## SEND -/

theorem openChannelOf_eq_some {s : State} {e : EpId} {c : ChanId} {l : LiveChannel} (h : s.openChannelOf e = some (c, l)) :
    (∃ x q n, s.role e = .connected c x q n) ∧ s.channel c = .opened l := by
  unfold State.openChannelOf at h
  cases hr : s.role e with
  | connected k x q n =>
    rw [hr] at h
    simp only [] at h
    cases hc : s.channel k with
    | opened l' =>
      rw [hc] at h
      cases h
      exact ⟨⟨x, q, n, rfl⟩, hc⟩
    | free => rw [hc] at h; cases h
    | requested a b o dl => rw [hc] at h; cases h
    | draining l' cl dl => rw [hc] at h; cases h
    | aborting a b cl k' => rw [hc] at h; cases h
  | idle => rw [hr] at h; cases h
  | listening f => rw [hr] at h; cases h
  | offered k a f o => rw [hr] at h; cases h
  | calling k b => rw [hr] at h; cases h
  | closing k x q n => rw [hr] at h; cases h
  | publisher g => rw [hr] at h; cases h
  | member g q n => rw [hr] at h; cases h

/-- A CONNECTED endpoint is the sending end of its direction. -/
theorem sender_sendingFrom {s : State} (h : s.view.Law) {e : EpId} {c : ChanId} {l : LiveChannel}
    (ho : s.openChannelOf e = some (c, l)) : (l.sendingFrom e).sender l.caller l.callee = e := by
  obtain ⟨⟨x, q, n, hr⟩, hc⟩ := openChannelOf_eq_some ho
  have hb := h.named.backed e
  rw [show s.view.role e = .connected c x q n from hr, view_face] at hb
  have hface : s.face c = .live false l.caller l.callee l.toCallee.window l.toCaller.window := by
    show (s.channel c).face = _
    rw [hc]
    rfl
  have hend : e = l.caller ∨ e = l.callee := by
    obtain ⟨w, hw | hw⟩ := hb <;> rw [hface] at hw <;> cases hw
    · exact .inl rfl
    · exact .inr rfl
  unfold LiveChannel.sendingFrom
  by_cases hcaller : e = l.caller
  · rw [if_pos hcaller]
    exact hcaller.symm
  · rw [if_neg hcaller]
    exact (hend.resolve_left hcaller).symm

section
variable {s : State} (h : s.view.Law) {p : Port} {r : RecId} {m : Message} {c : ChanId} {d : Dirn} {l : LiveChannel}
  (hu : (s.port p).sendUnit = none) (hr : s.record r = .free) (hm : m.count = 1) (hk : m.link = .channel c d)
  (hc : s.channel c = .opened l) (hcr : (l.direction d).credits ≠ 0)

include hr in
theorem view_record_free : s.view.record r = .free := by
  show (s.record r).norm = _
  rw [hr]
  rfl

include hu in
theorem view_send_none : s.view.send p = none := by
  show (s.port p).sendUnit.map CopyIn.span = _
  rw [hu]
  rfl

include hc in
theorem view_channel_opened : s.view.channel c = .opened l.norm := by
  show (s.channel c).norm = _
  rw [hc]
  rfl

include h hu hr hm hk hc hcr in
/-- A copy-in toward a channel begins (R63, R64). -/
theorem law_copyInBegun {n : Nat} (life : Nat) (ho : portOf m.origin = p) (hn : m.blocks.length = n)
    (horig : m.origin = d.sender l.caller l.callee) :
    (((s.takeIn p r m).setChannel c
      (.opened ((l.modDirection d Direction.spend).moreTransfers 1))).startCopyIn p r .channel n life).view.Law := by
  rw [view_startCopyIn, view_setChannel, view_takeIn]
  have hcv := view_channel_opened hc
  refine View.Started.law (p := p) (r := r) (m := m.norm) (kind := .channel) h ⟨view_send_none hu, view_record_free hr, ho, hm,
    ?_, rfl, ?_, rfl, rfl, rfl, ?_, rfl, fun k => ?_, fun g => ?_⟩
  · constructor
    · intro hx; cases hx
    · intro hx
      simp [Message.isGroup, Message.norm, hk] at hx
  · show Function.update s.view.send p (some (r, n, MsgKind.channel)) =
      Function.update s.view.send p (some (r, m.blocks.length, .channel))
    rw [hn]
  · funext k
    show (Function.update s.view.channel c _ k).face = (s.view.channel k).face
    by_cases hkc : k = c
    · rw [hkc, Function.update_self, hcv]
      cases d <;> rfl
    · rw [Function.update_of_ne hkc]
  · show (Function.update s.view.channel c _ k).Accounts (fun x => _ + m.link.share k x) (_ + m.link.load k) fun a b =>
      _ ∧ ∀ x, m.link = .channel k x → m.origin = x.sender a b
    rw [hk]
    have hacc := h.holding.account k
    by_cases hkc : k = c
    · subst hkc
      rw [Function.update_self, Channel.norm_accounts, RecLink.load_self]
      rw [show s.view.channel k = (s.channel k).norm from rfl, Channel.norm_accounts, hc] at hacc
      have hend : l.Accounts (s.view.recordsOn k) (s.view.transfersOn k) (s.view.Ends k) := hacc
      obtain ⟨h1, h2, h3⟩ := (hend.spend hcr).moreTransfers (n := 1)
      refine ⟨fun x => ?_, h2, ?_⟩
      · dsimp only
        rw [RecLink.share_self]
        exact h1 x
      · refine ⟨h3, fun x hx => ?_⟩
        cases hx
        rw [horig]
        cases d <;> rfl
    · rw [Function.update_of_ne hkc, RecLink.load_ne hkc, Nat.add_zero]
      have hsh : (fun x => s.view.recordsOn k x + (RecLink.channel c d).share k x) = s.view.recordsOn k :=
        funext fun x => by rw [RecLink.share_ne hkc, Nat.add_zero]
      rw [hsh]
      exact hacc.mono fun a b he => ⟨he, fun x hx => absurd (by cases hx; rfl) hkc⟩
  · show (s.view.group g).Copies (_ + m.link.copy g) fun a => _ ∧ (m.link = .group g → _)
    rw [hk, RecLink.copy_channel, Nat.add_zero]
    exact (h.holding.copies g).mono fun a ha => ⟨ha, fun hx => by cases hx⟩

include h hu hr hm hk hc hcr in
/-- A message of length 0 is delivered or given up in the event of its SEND (R69). -/
theorem law_copyInAtOnce (life : Nat) (horig : m.origin = d.sender l.caller l.callee) :
    (((s.takeIn p r m).setChannel c (.opened (l.modDirection d Direction.spend))).completeCopyIn p r life false).view.Law := by
  have hcv := view_channel_opened hc
  have hrv := view_record_free hr
  let a := (s.takeIn p r m).setChannel c (.opened (l.modDirection d Direction.spend))
  have hav : a.view = (s.view.setRecord r (.filling m.norm)).setChannel c (.opened (l.modDirection d Direction.spend).norm) := by
    show ((s.takeIn p r m).setChannel c _).view = _
    rw [view_setChannel, view_takeIn]
    rfl
  have har : a.record r = .filling m := by
    show ((s.takeIn p r m).setChannel c _).record r = _
    rw [record_congr (setChannel_records ..), takeIn_record, if_pos rfl]
  have hac : a.channel c = .opened (l.modDirection d Direction.spend) := channel_setChannel_self ..
  have hrecv : (l.modDirection d Direction.spend).receiver d = l.receiver d := by cases d <;> rfl
  have heq : a.completeCopyIn p r life false = (a.completeChannelCopy p r m c d life false).sendUnitDone p := by
    unfold State.completeCopyIn
    rw [har]
    simp only [MsgRecord.message?, hk]
  have hch : a.completeChannelCopy p r m c d life false =
      if a.online (portOf (l.receiver d)) = true then a.deliver p r m c (l.receiver d) life false
      else a.discardCopyIn p r m c d false := by
    unfold State.completeChannelCopy
    rw [hac]
    simp only [Channel.live?, hrecv]
  have hsend : Function.update s.view.send p none = s.view.send :=
    Function.update_eta _ _ _ _ (view_send_none hu) fun _ _ => rfl
  rw [heq, view_sendUnitDone, hch]
  split
  · next ho =>
    have hos : s.online (portOf (l.receiver d)) = true := by
      rw [← ho]
      exact (online_of_cores ((setChannel_cores ..).trans (takeIn_cores ..)) _).symm
    have hrecv' : l.norm.receiver d = l.receiver d := by cases d <;> rfl
    have h2 := h.arrive (r := r) (m := m.norm) (d := d) (l := l.norm) hrv hm hk (by rw [hcv]; rfl)
      (by cases d <;> exact hcr) (by rw [hrecv']; exact not_out_of_online hos _)
      (by show m.origin = _; rw [horig]; rfl)
    rw [view_deliver_uncounted p c _ life (by rw [har]; rfl), hav]
    have harole (e : EpId) : a.role e = s.role e :=
      congrArg Endpoint.role (endpoint_congr ((setChannel_endpoints ..).trans (takeIn_endpoints ..)) e)
    refine h2.of_eq (View.ext ?_ ?_ ?_ rfl ?_ rfl rfl)
    · show Function.update s.role _ _ = Function.update s.role _ _
      rw [harole, hrecv']
      rfl
    · show Function.update (Function.update s.view.record r _) r (MsgRecord.live { m.norm with count := 1 } none) =
        Function.update s.view.record r (.live m.norm none)
      rw [Function.update_idem]
      congr 2
      rw [← show m.norm.count = 1 from hm]
    · show Function.update s.view.channel c _ = Function.update s.view.channel c _
      congr 1
      rw [hcv]
      exact congrArg Channel.opened (LiveChannel.norm_modDirection l d Direction.norm_spend)
    · exact hsend
  · unfold State.discardCopyIn
    rw [view_writeSendOutcome, endMessageTransfer_eq]
    refine law_drainTest_setSend ?_ c
    rw [view_setChannel, view_claim, hav, channel_congr (claim_channels ..), hac]
    have hl : (l.modDirection d Direction.spend).norm.ended d false = l.norm := by
      obtain ⟨a, b, n, o, ⟨w, k, u, q⟩, ⟨w', k', u', q'⟩, t⟩ := l
      cases d <;>
        simp only [LiveChannel.direction] at hcr <;>
        simp only [LiveChannel.ended, LiveChannel.modDirection, LiveChannel.norm, Direction.norm, Direction.spend,
          Bool.false_eq_true, if_false, LiveChannel.mk.injEq, Direction.mk.injEq, true_and, and_true] <;> omega
    refine h.of_eq (View.ext rfl ?_ ?_ rfl ?_ rfl rfl)
    · show Function.update (Function.update s.view.record r _) r
        ((Function.update s.view.record r (MsgRecord.filling m.norm) r).lower 1) = s.view.record
      rw [Function.update_idem, Function.update_self]
      refine Function.update_eta _ _ _ _ ?_ fun _ _ => rfl
      rw [hrv]
      exact (if_pos (by show m.count - 1 = 0; omega)).symm
    · show Function.update (Function.update s.view.channel c _) c _ = s.view.channel
      rw [Function.update_idem]
      refine Function.update_eta _ _ _ _ ?_ fun _ _ => rfl
      rw [hcv, ← hl]
      cases d <;> rfl
    · exact hsend

end

theorem law_acceptSend {s : State} (h : s.view.Law) {p : Port} {w : Word} {c : ChanId} {l : LiveChannel}
    (ha : SendAccepted s p w c l) : (acceptSend s p w).1.view.Law := by
  unfold acceptSend
  simp only []
  rw [ha.opened]
  cases hf : s.freeRecord? with
  | none => exact h
  | some r =>
    simp only []
    obtain ⟨-, hc⟩ := openChannelOf_eq_some ha.opened
    obtain ⟨hb, -⟩ := s.take_freeBlocks _ (allocationRefusal_blocks ha.allocation)
    have hr := (s.freeRecord?_eq_some r hf).1
    have hsend := (sender_sendingFrom h ha.opened).symm
    have hmsg : (s.acceptChannelMessage p r (endpointOf p w) c l) =
        (s.takeIn p r (s.newMessage p (endpointOf p w) (.channel c (l.sendingFrom (endpointOf p w)))
          (l.direction (l.sendingFrom (endpointOf p w))).nextSequence)).setChannel c
          (.opened (l.modDirection (l.sendingFrom (endpointOf p w)) Direction.spend)) := by
      rw [acceptChannelMessage_eq, State.modLive, channel_congr (takeIn_channels ..), hc]
      rfl
    rw [hmsg]
    unfold State.beginChannelCopy
    split
    · exact law_copyInAtOnce h ha.unit hr rfl rfl hc ha.credit _ hsend
    · have hbt : ∀ t : State, (t.setChannel c (.opened (l.modDirection (l.sendingFrom (endpointOf p w)) Direction.spend))).beginTransfer
          c = t.setChannel c (.opened ((l.modDirection (l.sendingFrom (endpointOf p w)) Direction.spend).moreTransfers 1)) := by
        intro t
        unfold State.beginTransfer State.modLive
        rw [channel_setChannel_self, setChannel_setChannel]
        rfl
      rw [hbt]
      refine law_copyInBegun h ha.unit hr rfl rfl hc ha.credit _ (portOf_endpointOf p w) ?_ hsend
      show (s.freeBlocks.take _).length = _
      rw [List.length_take]
      have := allocationRefusal_blocks ha.allocation
      omega

end Sys2Proof.Machine
end

section
/-! The laws of naming and holding through PUBLISH. -/

namespace Sys2Proof.Machine

theorem publishedGroup?_eq_some {s : State} {e : EpId} {g : GroupId} {x : ActiveGroup}
    (h : s.publishedGroup? e = some (g, x)) : s.role e = .publisher g ∧ s.group g = .active x := by
  unfold State.publishedGroup? at h
  cases hr : s.role e with
  | publisher k =>
    rw [hr] at h
    simp only [Role.published?] at h
    cases hg : s.group k with
    | active y =>
      rw [hg] at h
      cases h
      exact ⟨rfl, hg⟩
    | free => rw [hg] at h; cases h
    | dissolving => rw [hg] at h; cases h
  | idle => rw [hr] at h; cases h
  | listening f => rw [hr] at h; cases h
  | offered k a f o => rw [hr] at h; cases h
  | calling k b => rw [hr] at h; cases h
  | connected k x q n => rw [hr] at h; cases h
  | closing k x q n => rw [hr] at h; cases h
  | member g q n => rw [hr] at h; cases h

theorem modActive_active {s : State} {g : GroupId} {x : ActiveGroup} (h : s.group g = .active x)
    (f : ActiveGroup → ActiveGroup) : s.modActive g f = s.setGroup g (.active (f x)) := by
  unfold State.modActive
  rw [h]

theorem setGroup_setGroup (s : State) (g : GroupId) (x y : Group) : (s.setGroup g x).setGroup g y = s.setGroup g y := by
  simp [State.setGroup]

section
variable {s : State} (h : s.view.Law) {p : Port} {r : RecId} {m : Message} {g : GroupId} {x : ActiveGroup}
  (hu : (s.port p).sendUnit = none) (ho : portOf m.origin = p) (hr : s.record r = .free) (hm : m.count = 1)
  (hk : m.link = .group g) (hg : s.group g = .active x) (horig : m.origin = x.publisher)

include h hu hg in
/-- The Send Unit of the publisher's port is IDLE, so no copy-in of the group is in flight (R118). -/
theorem no_copy_in_flight (ho : portOf x.publisher = p) : x.copyInFlight = false ∧ s.view.copiesOf g = 0 := by
  have hcopies := h.holding.copies g
  rw [view_group_active hg] at hcopies
  obtain ⟨h1, h2⟩ := hcopies
  have hz : s.view.copiesOf g = 0 := by
    refine Finset.sum_eq_zero fun k _ => if_neg fun hk => ?_
    cases hx : s.view.record k with
    | filling y =>
      rw [hx] at hk
      have horig := h2 k y hx (of_decide_eq_true hk)
      obtain ⟨-, z, hz⟩ := h.holding.filling k y hx
      rw [horig, ho, view_send_none hu] at hz
      cases hz
    | free => rw [hx] at hk; cases hk
    | live y dl => rw [hx] at hk; cases hk
  refine ⟨?_, hz⟩
  rw [hz] at h1
  change 0 = if x.copyInFlight = true then 1 else 0 at h1
  by_contra hf
  rw [if_pos (by simpa using hf)] at h1
  cases h1

include h hu ho hr hm hk hg horig in
/-- A copy-in of a group begins (R127). -/
theorem law_groupCopyBegun {y : ActiveGroup} {n : Nat} (life : Nat) (hn : m.blocks.length = n) (hp : y.publisher = x.publisher)
    (hmem : y.members = x.members) (hf : y.copyInFlight = true) :
    (((s.takeIn p r m).setGroup g (.active y)).startCopyIn p r .group n life).view.Law := by
  rw [view_startCopyIn, view_setGroup, view_takeIn]
  have hgv := view_group_active hg
  obtain ⟨-, hz⟩ := no_copy_in_flight h hu hg (horig ▸ ho)
  have hcopies := h.holding.copies g
  rw [hgv] at hcopies
  refine View.Started.law (p := p) (r := r) (m := m.norm) (kind := .group) h ⟨view_send_none hu, view_record_free hr, ho, hm,
    ?_, rfl, ?_, rfl, rfl, rfl, rfl, ?_, fun c => ?_, fun k => ?_⟩
  · simp [Message.isGroup, Message.norm, hk]
  · show Function.update s.view.send p (some (r, n, MsgKind.group)) =
      Function.update s.view.send p (some (r, m.blocks.length, .group))
    rw [hn]
  · funext k
    show (Function.update s.view.group g _ k).face = (s.view.group k).face
    by_cases hkg : k = g
    · rw [hkg, Function.update_self, hgv]
      show some (y.publisher, y.members) = some (x.publisher, x.members)
      rw [hp, hmem]
    · rw [Function.update_of_ne hkg]
  · show (s.view.channel c).Accounts (fun d => _ + m.link.share c d) (_ + m.link.load c) fun a b =>
      _ ∧ ∀ d, m.link = .channel c d → _
    rw [hk, RecLink.load_group, Nat.add_zero]
    have hsh : (fun d => s.view.recordsOn c d + (RecLink.group g).share c d) = s.view.recordsOn c :=
      funext fun d => by rw [RecLink.share_group, Nat.add_zero]
    rw [hsh]
    exact (h.holding.account c).mono fun a b he => ⟨he, fun d hd => by cases hd⟩
  · show (Function.update s.view.group g _ k).Copies (_ + m.link.copy k) fun a => _ ∧ (m.link = .group k → m.origin = a)
    rw [hk]
    by_cases hkg : k = g
    · subst hkg
      rw [Function.update_self, RecLink.copy_self, hz]
      refine ⟨?_, ?_, fun _ => ?_⟩
      · show 0 + 1 = if y.copyInFlight = true then 1 else 0
        rw [if_pos hf]
      · show s.view.Copier k y.publisher
        rw [hp]
        exact hcopies.2
      · show m.origin = y.publisher
        rw [hp, horig]
    · rw [Function.update_of_ne hkg, RecLink.copy_ne hkg, Nat.add_zero]
      exact (h.holding.copies k).mono fun a hc => ⟨hc, fun hx => absurd (by cases hx; rfl) hkg⟩

include h hu ho hr hm hk hg horig in
/-- A message of length 0 reaches the members in the event of its PUBLISH (R130). -/
theorem law_groupCopyAtOnce {y : ActiveGroup} (life : Nat) (hl : s.LinkLaw)
    (hy : (Group.active y).norm = (Group.active x).norm) :
    (((s.takeIn p r m).setGroup g (.active y)).completeCopyIn p r life false).view.Law := by
  have hrv := view_record_free hr
  have hgv := view_group_active hg
  obtain ⟨hflight, -⟩ := no_copy_in_flight h hu hg (horig ▸ ho)
  have hfield : y.publisher = x.publisher ∧ y.members = x.members ∧ y.copyInFlight = x.copyInFlight := by
    injection hy with hy
    injection hy with h1 h2 _ _ _ _ h3
    exact ⟨h1, h2, h3⟩
  let a := (s.takeIn p r m).setGroup g (.active y)
  have hav : a.view = (s.view.setRecord r (.filling m.norm)).setGroup g (Group.active y).norm := by
    show ((s.takeIn p r m).setGroup g _).view = _
    rw [view_setGroup, view_takeIn]
  have har : a.record r = .filling m := by
    show ((s.takeIn p r m).setGroup g _).record r = _
    rw [record_congr (setGroup_records ..), takeIn_record, if_pos rfl]
  have hag : a.group g = .active y := group_setGroup_self ..
  have heq : a.completeCopyIn p r life false = (a.fanOut p r m g y life).sendUnitDone p := by
    unfold State.completeCopyIn State.completeGroupCopy
    rw [har]
    simp only [MsgRecord.message?, hk]
    rw [hag]
    rfl
  rw [heq, view_sendUnitDone]
  have hin := hl.2.2 g
  rw [hg] at hin
  refine law_fanOut ?_ har hm hk hag (by rw [hfield.1]; exact horig) (by rw [hfield.2.1]; exact hin.1) life
  rw [hav]
  refine h.of_eq (View.ext rfl ?_ rfl ?_ ?_ rfl rfl)
  · show Function.update (Function.update s.view.record r _) r MsgRecord.free = s.view.record
    rw [Function.update_idem]
    exact Function.update_eta _ _ _ _ hrv fun _ _ => rfl
  · show Function.update (Function.update s.view.group g _) g (Function.update s.view.group g _ g).copyDone = s.view.group
    rw [Function.update_idem, Function.update_self, hy]
    refine Function.update_eta _ _ _ _ ?_ fun _ _ => rfl
    rw [hgv]
    show _ = Group.active _
    rw [hflight]
  · exact Function.update_eta _ _ _ _ (view_send_none hu) fun _ _ => rfl

end

theorem law_acceptPublish {s : State} (h : s.view.Law) (hl : s.LinkLaw) {p : Port} {w : Word} {g : GroupId} {x : ActiveGroup}
    (ha : PublishAccepted s p w g x) : (acceptPublish s p w).1.view.Law := by
  unfold acceptPublish
  simp only []
  rw [ha.published]
  cases hf : s.freeRecord? with
  | none => exact h
  | some r =>
    simp only []
    obtain ⟨hrole, hg⟩ := publishedGroup?_eq_some ha.published
    have hr := (s.freeRecord?_eq_some r hf).1
    have hpub : endpointOf p w = x.publisher := by
      have hb := h.named.backed (endpointOf p w)
      rw [show s.view.role (endpointOf p w) = .publisher g from hrole, view_groupFace] at hb
      obtain ⟨l, hl⟩ := hb
      obtain ⟨z, hz, hzp, -⟩ := Group.face_eq_some.1 hl
      rw [hg] at hz
      cases hz
      exact hzp.symm
    have hgt (m : Message) : (s.takeIn p r m).group g = .active x := (group_congr (takeIn_groups ..) g).trans hg
    rw [acceptGroupMessage_eq, modActive_active (hgt _)]
    unfold State.beginGroupCopy
    split
    · exact law_groupCopyAtOnce h ha.unit (portOf_endpointOf p w) hr rfl rfl hg hpub _ hl rfl
    · rw [modActive_active (group_setGroup_self ..), setGroup_setGroup]
      refine law_groupCopyBegun h ha.unit (portOf_endpointOf p w) hr rfl rfl hg hpub _ ?_ rfl rfl rfl
      show (s.freeBlocks.take _).length = _
      rw [List.length_take]
      have := allocationRefusal_blocks ha.allocation
      omega

end Sys2Proof.Machine
end

section
/-! The laws of naming and holding through FETCH, the ends of block transfers and the lifetime expiry. -/

namespace Sys2Proof.Machine

/-! ## The end of a fetch -/

section
variable {s : State} (h : s.view.Law) {p : Port} {u : CopyOut} {m : Message} {dl : Option Time}
  (hu : (s.port p).fetchUnit = some u) (hr : s.record u.record = .live m dl)

theorem view_record_live {r : RecId} (hr : s.record r = .live m dl) : s.view.record r = .live m.norm none := by
  show (s.record r).norm = _
  rw [hr]
  rfl

include hu in
theorem view_fetch_some : s.view.fetch p = some (u.record, u.next + u.remaining) := by
  show (s.port p).fetchUnit.map CopyOut.span = _
  rw [hu]
  rfl

include h hu hr in
theorem law_fetchEnded (k : Option TallyKind) (cause : Cause) :
    (((s.claim u.record 1 k cause).endFetchOn m.link true).view.setFetch p none).Law := by
  have hrv := view_record_live hr
  have hfv := view_fetch_some hu
  unfold State.endFetchOn
  cases hk : m.link with
  | channel c d =>
    simp only []
    rw [endMessageTransfer_eq]
    refine law_drainTest_setFetch ?_ c
    rw [view_setChannel, view_claim, Channel.norm_withoutOne, channel_congr (claim_channels ..), hrv]
    refine View.FetchEnded.law (p := p) (r := u.record) (m := m.norm) (n := u.next + u.remaining) h
      ⟨hfv, hrv, rfl, rfl, rfl, rfl, rfl, rfl, fun j => ?_⟩
    show Function.update s.view.channel c _ j = (s.view.channel j).less m.link j
    rw [hk]
    show _ = if j = c then (s.view.channel j).withoutOne d true else s.view.channel j
    by_cases hj : j = c
    · rw [hj, Function.update_self, if_pos rfl]
      rfl
    · rw [Function.update_of_ne hj, if_neg hj]
  | group g =>
    simp only []
    rw [view_claim, hrv]
    refine View.FetchEnded.law (p := p) (r := u.record) (m := m.norm) (n := u.next + u.remaining) h
      ⟨hfv, hrv, rfl, rfl, rfl, rfl, rfl, rfl, fun j => ?_⟩
    show s.view.channel j = (s.view.channel j).less m.link j
    rw [hk]
    rfl

include h hu in
theorem fetch_record_live : ∃ m dl, s.record u.record = .live m dl := by
  obtain ⟨m, dl, hm, -⟩ := h.holding.fetcher p _ _ (view_fetch_some hu)
  obtain ⟨-, m', d, hm', -⟩ := MsgRecord.norm_eq_live.1 hm
  exact ⟨m', d, hm'⟩

theorem view_writeFetchOutcome (s : State) (p : Port) (e : EpIndex) (m : Message) :
    (s.writeFetchOutcome p e m).view = s.view := by
  unfold State.writeFetchOutcome
  rw [view_setPortCond, view_modPort s p _ rfl rfl rfl]

theorem fetchUnit_writeFetchOutcome (s : State) (p : Port) (e : EpIndex) (m : Message) (q : Port) :
    ((s.writeFetchOutcome p e m).port q).fetchUnit = (s.port q).fetchUnit := by
  unfold State.writeFetchOutcome
  rw [fetchUnit_of_cores (setPortCond_cores ..), modPort_part PortRec.fetchUnit s p _ rfl]

include h hu in
theorem law_completeFetch (e : EpIndex) : (s.completeFetch p e u.record true).view.Law := by
  obtain ⟨m, dl, hr⟩ := fetch_record_live h hu
  let s1 := s.modPort p fun x => { x with readBuffer := { x.readBuffer with state := .full } }
  have h1 : s1.view = s.view := view_modPort s p _ rfl rfl rfl
  have heq : s.completeFetch p e u.record true =
      ((((s1.writeFetchOutcome p e m).claim u.record 1 (some .fetched) .fetched).endFetchOn m.link true).modPort p
        fun x => { x with fetchUnit := none }) := by
    unfold State.completeFetch
    rw [hr]
    rfl
  rw [heq, view_modPort_fetch _ p _ rfl rfl]
  refine law_fetchEnded (s := s1.writeFetchOutcome p e m) (dl := dl) ?_ ?_ ?_ _ _
  · rw [view_writeFetchOutcome, h1]
    exact h
  · rw [fetchUnit_writeFetchOutcome]
    exact (modPort_part PortRec.fetchUnit s p _ rfl p).trans hu
  · rw [record_congr (writeFetchOutcome_records ..)]
    exact hr

include h hu in
theorem law_cancelFetch : (s.cancelFetch p u.record).view.Law := by
  obtain ⟨m, dl, hr⟩ := fetch_record_live h hu
  have heq : s.cancelFetch p u.record =
      ((((s.claim u.record 1 (some .discarded) .discarded).endFetchOn m.link true).modPort p
        fun x => { x with fetchUnit := none }).report p .fetchStopped) := by
    unfold State.cancelFetch
    rw [hr]
    rfl
  rw [heq, view_report_unit _ _ (by simp), view_modPort_fetch _ p _ rfl rfl]
  exact law_fetchEnded h hu hr _ _

end

/-! ## FETCH -/

section
variable {s : State} (h : s.view.Law) {p : Port} {e : EpId} {r : RecId} {m : Message} {dl : Option Time} {q : List RecId}
  (hu : (s.port p).fetchUnit = none) (he : portOf e = p) (hq : (s.role e).queue = r :: q) (hr : s.record r = .live m dl)

include hu in
theorem view_fetch_none : s.view.fetch p = none := by
  show (s.port p).fetchUnit.map CopyOut.span = _
  rw [hu]
  rfl

include hq in
theorem view_removeHead : (s.removeHead e).view = s.view.setRole e ((s.role e).withQueue q) := by
  unfold State.removeHead
  rw [view_modEndpoint]
  show s.view.setRole e ((s.role e).withQueue (s.role e).queue.tail) = _
  rw [hq]
  rfl

include hu he hq hr h in
theorem law_fetchBegun (n : Nat) (hn : n = m.blocks.length) :
    ((((s.removeHead e).modPort p fun x => { x with readBuffer := ReadBuffer.forMessage (localOf e) m }).beginFetchOn
      m.link).modPort p fun x =>
        { x with fetchUnit := some { record := r, endpoint := localOf e, next := 0, remaining := n, cancelled := false }
        }).view.Law := by
  rw [view_modPort_fetch _ p _ rfl rfl]
  let s1 := (s.removeHead e).modPort p fun x => { x with readBuffer := ReadBuffer.forMessage (localOf e) m }
  have h1 : s1.view = s.view.setRole e ((s.role e).withQueue q) :=
    (view_modPort _ p _ rfl rfl rfl).trans (view_removeHead hq)
  have hch (c : ChanId) : s1.channel c = s.channel c :=
    (channel_congr (modPort_channels ..) c).trans (channel_congr (removeHead_channels ..) c)
  have hmore (x : Channel) : x.mapLive (LiveChannel.moreTransfers 0) = x := Channel.mapLive_id x
  have hnorm (x : Channel) : (x.mapLive (LiveChannel.moreTransfers 1)).norm = x.norm.mapLive (LiveChannel.moreTransfers 1) := by
    cases x <;> rfl
  have hview : (s1.beginFetchOn m.link).view = { s.view.setRole e ((s.role e).withQueue q) with
      channel := fun c => (s.view.channel c).mapLive (LiveChannel.moreTransfers (m.link.load c)) } := by
    unfold State.beginFetchOn
    cases m.link with
    | channel c d =>
      simp only []
      unfold State.beginTransfer
      rw [view_modLive, h1]
      refine View.ext rfl rfl (funext fun k => ?_) rfl rfl rfl rfl
      show Function.update s.view.channel c ((s1.channel c).mapLive (LiveChannel.moreTransfers 1)).norm k =
        (s.view.channel k).mapLive (LiveChannel.moreTransfers ((RecLink.channel c d).load k))
      by_cases hk : k = c
      · rw [hk, Function.update_self, RecLink.load_self, hnorm, hch]
        rfl
      · rw [Function.update_of_ne hk, RecLink.load_ne hk, hmore]
    | group g =>
      simp only []
      rw [h1]
      refine View.ext rfl rfl (funext fun k => ?_) rfl rfl rfl rfl
      show s.view.channel k = (s.view.channel k).mapLive (LiveChannel.moreTransfers ((RecLink.group g).load k))
      rw [RecLink.load_group, hmore]
  show ((s1.beginFetchOn m.link).view.setFetch p (some (r, 0 + n))).Law
  rw [hview]
  refine View.FetchBegun.law (p := p) (e := e) (r := r) (m := m.norm) (q := q) h
    ⟨view_fetch_none hu, view_record_live hr, he, hq, rfl, rfl, rfl, ?_, rfl, rfl, fun c => rfl⟩
  show Function.update s.view.fetch p (some (r, 0 + n)) = Function.update s.view.fetch p (some (r, m.blocks.length))
  rw [Nat.zero_add, hn]

theorem View.Held.lower_zero {v : View} (h : v.Held) (k : RecId) : (v.record k).lower 0 = v.record k := by
  cases hx : v.record k with
  | free => rfl
  | filling y => exact MsgRecord.lower_zero_filling (h.filling k y hx).1
  | live y d =>
    obtain ⟨-, hpos, -⟩ := h.live k y d hx
    exact MsgRecord.lower_live_pos (n := 0) hpos

/-- The entries of one record lost. -/
theorem View.lost_single (v : View) (r : RecId) {m : Message} {x : Option Time} (hr : v.record r = .live m x) (n : Nat)
    (c : ChanId) (d : Dirn) : v.lost (fun k => if k = r then n else 0) c d = n * m.link.share c d := by
  unfold View.lost
  rw [Finset.sum_eq_single r]
  · dsimp only
    rw [if_pos rfl, hr]
    unfold RecLink.share
    by_cases hk : m.link = .channel c d
    · rw [if_pos (show (MsgRecord.live m x).link? = _ from congrArg some hk), if_pos hk, Nat.mul_one]
    · rw [if_neg (show ¬(MsgRecord.live m x).link? = _ from fun hx => hk (Option.some.inj hx)), if_neg hk, Nat.mul_zero]
  · intro k _ hk
    dsimp only
    rw [if_neg hk, ite_self]
  · exact fun hx => absurd (Finset.mem_univ r) hx

/-- The credit of one message back, written as a refund on both directions. -/
theorem Channel.refund_eq (x : Channel) (c k : ChanId) (d : Dirn) :
    x.mapLive (LiveChannel.refundedBy (1 * (RecLink.channel c d).share k .callerToCallee)
      (1 * (RecLink.channel c d).share k .calleeToCaller)) =
      if k = c then x.withoutOne d false else x := by
  by_cases hk : k = c
  · subst hk
    rw [if_pos rfl, RecLink.share_self, RecLink.share_self]
    cases x with
    | opened l => cases d <;> rfl
    | draining l cl dl => cases d <;> rfl
    | free => rfl
    | requested a b o dl => rfl
    | aborting a b cl t => rfl
  · rw [if_neg hk, RecLink.share_ne hk, RecLink.share_ne hk]
    exact Channel.mapLive_id x

theorem Channel.refund_none (x : Channel) (g : GroupId) (c : ChanId) (n : Nat) :
    x.mapLive (LiveChannel.refundedBy (n * (RecLink.group g).share c .callerToCallee)
      (n * (RecLink.group g).share c .calleeToCaller)) = x := by
  rw [RecLink.share_group, RecLink.share_group]
  exact Channel.mapLive_id x

theorem Channel.norm_withoutOne_false (x : Channel) (d : Dirn) : (x.withoutOne d false).norm = x.norm.withoutOne d false := by
  cases x with
  | opened l => cases d <;> rfl
  | draining l cl dl => cases d <;> rfl
  | free => rfl
  | requested a b o dl => rfl
  | aborting a b cl t => rfl

include hu hq hr h in
/-- A message of length 0 is fetched in the event of its FETCH (R85). -/
theorem law_fetchAtOnce (i : EpIndex) :
    ((((s.removeHead e).modPort p fun x => { x with readBuffer := ReadBuffer.forMessage (localOf e) m }).completeFetch p i r
      false)).view.Law := by
  let s1 := (s.removeHead e).modPort p fun x => { x with readBuffer := ReadBuffer.forMessage (localOf e) m }
  let s2 := (s1.modPort p fun x => { x with readBuffer := { x.readBuffer with state := .full } }).writeFetchOutcome p i m
  have hrv := view_record_live hr
  have h1 : s1.view = s.view.setRole e ((s.role e).withQueue q) :=
    (view_modPort _ p _ rfl rfl rfl).trans (view_removeHead hq)
  have h2 : s2.view = s.view.setRole e ((s.role e).withQueue q) :=
    (view_writeFetchOutcome ..).trans ((view_modPort _ p _ rfl rfl rfl).trans h1)
  have hr1 : s1.record r = .live m dl :=
    (record_congr (modPort_records ..) r).trans ((record_congr (removeHead_records ..) r).trans hr)
  have hch (c : ChanId) : (s2.claim r 1 (some .fetched) .fetched).channel c = s.channel c := by
    rw [channel_congr (claim_channels ..)]
    exact (channel_congr (writeFetchOutcome_channels ..) c).trans ((channel_congr (modPort_channels ..) c).trans
      ((channel_congr (modPort_channels ..) c).trans (channel_congr (removeHead_channels ..) c)))
  have heq : s1.completeFetch p i r false =
      ((s2.claim r 1 (some .fetched) .fetched).endFetchOn m.link false).modPort p fun x => { x with fetchUnit := none } := by
    unfold State.completeFetch
    rw [hr1]
    rfl
  have hdrop (v' : View) (hrole : v'.role = Function.update s.view.role e ((s.role e).withQueue q))
      (hrec : v'.record = Function.update s.view.record r ((MsgRecord.live m.norm none).lower 1))
      (hchan : ∀ c, v'.channel c = (s.view.channel c).mapLive
        (LiveChannel.refundedBy (1 * m.link.share c .callerToCallee) (1 * m.link.share c .calleeToCaller)))
      (hg : v'.group = s.view.group) (hs : v'.send = s.view.send) (hf : v'.fetch = s.view.fetch) (ho : v'.out = s.view.out) :
      v'.Law := by
    refine View.Dropped.law (n := fun k => if k = r then 1 else 0) h ⟨fun x => ?_, fun k => ?_, fun k => ?_, fun c => ?_, hg, hs,
      hf, ho⟩
    · rw [hrole]
      by_cases hx : x = e
      · subst hx
        refine ⟨q, ?_, Function.update_self ..⟩
        show q.Sublist (s.role x).queue
        rw [hq]
        exact List.sublist_cons_self r q
      · exact ⟨_, List.Sublist.refl _, by rw [Function.update_of_ne hx, Role.withQueue_self]⟩
    · have := View.entries_change (v := s.view) (v' := v') (e := e) (fun x hx => by rw [hrole, Function.update_of_ne hx]) k
      have hqe : (v'.role e).queue = q := by
        rw [hrole, Function.update_self]
        refine Role.queue_withQueue_of_sublist ?_
        rw [hq]
        exact List.sublist_cons_self r q
      rw [hqe, show (s.view.role e).queue = r :: q from hq, List.count_cons] at this
      simp only [beq_iff_eq, eq_comm (a := r)] at this
      omega
    · rw [hrec]
      by_cases hk : k = r
      · rw [hk, Function.update_self, if_pos rfl, hrv]
      · rw [Function.update_of_ne hk, if_neg hk]
        exact (h.holding.lower_zero k).symm
    · rw [hchan, View.lost_single s.view r hrv, View.lost_single s.view r hrv]
      rfl
  rw [heq, view_modPort_fetch _ p _ rfl rfl]
  show (((s2.claim r 1 (some .fetched) .fetched).endFetchOn m.link false).view.setFetch p none).Law
  have hfetch : Function.update s.view.fetch p none = s.view.fetch :=
    Function.update_eta _ _ _ _ (view_fetch_none hu) fun _ _ => rfl
  unfold State.endFetchOn
  cases hk : m.link with
  | channel c d =>
    simp only []
    rw [endMessageTransfer_eq]
    refine law_drainTest_setFetch ?_ c
    rw [view_setChannel, view_claim, h2, hch]
    refine hdrop _ rfl ?_ (fun k => ?_) rfl rfl hfetch rfl
    · show Function.update s.view.record r ((s.view.record r).lower 1) = _
      rw [hrv]
    · rw [hk, Channel.refund_eq]
      show Function.update s.view.channel c _ k = _
      by_cases hkc : k = c
      · rw [hkc, Function.update_self, if_pos rfl, Channel.norm_withoutOne_false]
        rfl
      · rw [Function.update_of_ne hkc, if_neg hkc]
  | group g =>
    simp only []
    rw [view_claim, h2]
    refine hdrop _ rfl ?_ (fun k => ?_) rfl rfl hfetch rfl
    · show Function.update s.view.record r ((s.view.record r).lower 1) = _
      rw [hrv]
    · rw [hk, Channel.refund_none]
      rfl

end

theorem law_acceptFetch {s : State} (h : s.view.Law) (hlen : s.LengthLaw) {p : Port} {w : Word}
    (hu : (s.port p).fetchUnit = none) : (acceptFetch s p w).1.view.Law := by
  unfold acceptFetch
  simp only []
  cases hq : (s.role (endpointOf p w)).queue with
  | nil => exact h
  | cons r q =>
    simp only []
    obtain ⟨m, dl, hm, -⟩ := h.holding.entry (endpointOf p w) r (by
      show r ∈ (s.role (endpointOf p w)).queue
      rw [hq]
      exact List.mem_cons_self)
    obtain ⟨-, m', d, hr, -⟩ := MsgRecord.norm_eq_live.1 hm
    have hmsg : (s.record r).message? = some m' := by rw [hr]; rfl
    rw [hmsg]
    unfold State.fetchHead
    simp only []
    split
    · exact law_fetchAtOnce h hu hq hr _
    · exact law_fetchBegun h hu (portOf_endpointOf p w) hq hr _ (hlen r m' hmsg).2.symm

end Sys2Proof.Machine
end

section
/-! The laws that every small move keeps: the lengths of the records, and what a port out of service shows. -/

namespace Sys2Proof.Machine

/-! ## The lengths of the records -/

theorem lengthLaw_iff (s : State) : s.LengthLaw ↔
    ∀ r k, s.held r = some k → k.2.2.1 ≤ 256 ∧ k.2.1.length = (k.2.2.1 + 31) / 32 := by
  constructor
  · intro h r k hk
    obtain ⟨m, hm, rfl⟩ := Option.map_eq_some_iff.1 hk
    exact h r m hm
  · intro h r m hm
    exact h r m.fixed (by rw [State.held, hm]; rfl)

theorem lengthLaw_move {s t : State} (h : Move s t) (hs : s.LengthLaw) : t.LengthLaw := by
  rw [lengthLaw_iff] at hs ⊢
  cases h with
  | record r x h =>
    intro i k hk
    rw [held_setRecord] at hk
    split at hk
    · exact hs r k (h.symm.trans hk)
    · exact hs i k hk
  | release r m c h =>
    intro i k hk
    rw [held_release] at hk
    split at hk
    · cases hk
    · exact hs i k hk
  | takeIn p r m h =>
    intro i k hk
    rw [held_takeIn] at hk
    split at hk
    · cases hk
      exact ⟨h.length, h.blocks⟩
    · exact hs i k hk
  | memoryManager p h =>
    intro i k hk
    have hmap : (s.memoryManagerShare p).held i = some k := hk
    rw [held_memoryManagerShare] at hmap
    obtain ⟨k', hk', rfl⟩ := Option.map_eq_some_iff.1 hmap
    exact hs i k' hk'
  | _ => exact hs

theorem lengthLaw_afterChipReset (pins : Vector Bool 4) (l : List Instr) : (State.afterChipReset pins l).LengthLaw := by
  intro r m hm
  rw [record_afterChipReset] at hm
  cases hm

theorem lengthLaw_step {s t : State} (hs : s.LengthLaw) (h : step s = .next t) : t.LengthLaw :=
  step_keeps (fun _ _ => lengthLaw_move) (fun _ _ _ h => h) lengthLaw_afterChipReset hs h

theorem linkLaw_step {s t : State} (hs : s.LinkLaw) (h : step s = .next t) : t.LinkLaw :=
  step_keeps (fun _ _ => linkLaw_move) (fun _ _ _ h => h) linkLaw_afterChipReset hs h

/-! ## Ports out of service -/

/-- A port out of service has blank endpoints, no receipt and no condition, once its share is taken (R147, R154). -/
structure State.Quiet (s : State) : Prop where
  blank : ∀ e, s.out (portOf e) .endpointTable → (s.endpoint e).Blank
  receipts : ∀ p, s.out p .receiptUnit → (s.port p).receipts = { queue := [], reserved := 0 }
  attention : ∀ p, s.out p .attention → (s.port p).Unattended

/-- A change that makes no share of a port taken, and keeps what a port out of service shows. -/
theorem State.Quiet.keep {s t : State} (h : s.Quiet) (ho : ∀ p b, t.out p b → s.out p b)
    (hb : ∀ e, s.online (portOf e) = false → (s.endpoint e).Blank → (t.endpoint e).Blank)
    (hr : ∀ p, s.online p = false → (s.port p).receipts = { queue := [], reserved := 0 } →
      (t.port p).receipts = { queue := [], reserved := 0 })
    (ha : ∀ p, s.online p = false → (s.port p).Unattended → (t.port p).Unattended) : t.Quiet := by
  refine ⟨fun e he => ?_, fun p hp => ?_, fun p hp => ?_⟩
  · have hs := ho _ _ he
    exact hb e hs.1 (h.blank e hs)
  · have hs := ho _ _ hp
    exact hr p hs.1 (h.receipts p hs)
  · have hs := ho _ _ hp
    exact ha p hs.1 (h.attention p hs)

/-- A change of one port. -/
theorem State.Quiet.modPort {s : State} (h : s.Quiet) (p : Port) {f : PortRec → PortRec}
    (ho : ∀ b, (s.modPort p f).out p b → s.out p b)
    (hr : s.online p = false → (s.port p).receipts = { queue := [], reserved := 0 } →
      (f (s.port p)).receipts = { queue := [], reserved := 0 })
    (ha : s.online p = false → (s.port p).Unattended → (f (s.port p)).Unattended) : (s.modPort p f).Quiet := by
  refine h.keep (fun q b hx => ?_) (fun e _ hx => hx) (fun q hq hx => ?_) (fun q hq hx => ?_) <;> by_cases e : q = p
  · subst e
    exact ho b hx
  · rw [out_of_state (s := s) (by rw [port_modPort_ne _ _ e])] at hx
    exact hx
  · subst e
    rw [port_modPort_self]
    exact hr hq hx
  · rw [port_modPort_ne _ _ e]
    exact hx
  · subst e
    rw [port_modPort_self]
    exact ha hq hx
  · rw [port_modPort_ne _ _ e]
    exact hx

/-- A change of one port that leaves its state. -/
theorem State.Quiet.modPort_same {s : State} (h : s.Quiet) (p : Port) {f : PortRec → PortRec}
    (hs : (f (s.port p)).state = (s.port p).state)
    (hr : s.online p = false → (s.port p).receipts = { queue := [], reserved := 0 } →
      (f (s.port p)).receipts = { queue := [], reserved := 0 })
    (ha : s.online p = false → (s.port p).Unattended → (f (s.port p)).Unattended) : (s.modPort p f).Quiet := by
  refine h.modPort p (fun b hx => ?_) hr ha
  rwa [out_of_state (s := s) (by rw [port_modPort_self, hs])] at hx

theorem PortRec.Unattended.congr {x y : PortRec} (h : x.Unattended) (ha : y.attention = x.attention)
    (hn : y.notification = x.notification) : y.Unattended := by
  unfold PortRec.Unattended
  rw [ha, hn]
  exact h

/-- A report adds to what a port has none of, and it says so rightly. -/
theorem State.Quiet.report {s : State} (h : s.Quiet) {p : Port} {r : Report} (hrest : s.Rested p r)
    (hr : r = .share .receiptUnit → (s.port p).receipts = { queue := [], reserved := 0 }) : (s.report p r).Quiet := by
  have hout {q : Port} {b : ShareBlock} (hx : (s.report p r).out q b) : s.out q b ∨ q = p ∧ r = .share b := by
    obtain ⟨h1, h2⟩ := hx
    rw [online_report] at h1
    rw [awaits_report] at h2
    by_cases e : q = p ∧ r = .share b
    · exact .inr e
    · refine .inl ⟨h1, ?_⟩
      by_cases hq : q = p
      · have hb : ¬Report.share b = r := fun x => e ⟨hq, x.symm⟩
        simpa [hq, hb] using h2
      · simpa [hq] using h2
  have hrec (q : Port) : ((s.report p r).port q).receipts = (s.port q).receipts := modPort_part PortRec.receipts s p _ rfl q
  have hun (q : Port) (hx : (s.port q).Unattended) : ((s.report p r).port q).Unattended :=
    hx.congr (modPort_part PortRec.attention s p _ rfl q) (modPort_part PortRec.notification s p _ rfl q)
  refine ⟨fun e he => ?_, fun q hq => ?_, fun q hq => ?_⟩
  · rcases hout he with hx | ⟨hp, rfl⟩
    · exact h.blank e hx
    · exact hrest.1 rfl e hp
  · rw [hrec]
    rcases hout hq with hx | ⟨rfl, rfl⟩
    · exact h.receipts q hx
    · exact hr rfl
  · rcases hout hq with hx | ⟨rfl, rfl⟩
    · exact hun q (h.attention q hx)
    · exact hun q (hrest.2 rfl)

theorem setCond_port_offline {s : State} {q : Port} (h : s.online q = false) (p : Port) (it : Item) (c : Cond) :
    (s.setCond p it c).port q = s.port q := by
  unfold State.setCond
  split
  · next ho =>
    refine port_modPort_ne _ _ fun e => ?_
    rw [e] at h
    exact absurd (ho.symm.trans h) (by decide)
  · rfl

theorem handOff_unattended {s : State} {q : Port} (h : s.online q = false) (p : Port) (rc : Receipt)
    (hu : (s.port q).Unattended) : ((s.handOff p rc).port q).Unattended := by
  have kept (f : ReceiptUnit → ReceiptUnit) : ((s.modPort p fun x => { x with receipts := f x.receipts }).port q).Unattended :=
    hu.congr (modPort_part PortRec.attention s p _ rfl q) (modPort_part PortRec.notification s p _ rfl q)
  unfold State.handOff
  split
  · show (State.port (State.setCond _ _ _ _) q).Unattended
    rw [setCond_port_offline (by rw [online_modPort _ _ _ _ rfl, h])]
    exact kept fun x => { queue := x.queue ++ [rc], reserved := x.reserved - 1 }
  · exact kept fun x => { x with reserved := x.reserved - 1 }

theorem release_unattended {s : State} {q : Port} (h : s.online q = false) (r : RecId) (m : Message) (c : Cause)
    (hu : (s.port q).Unattended) : ((s.release r m c).port q).Unattended := by
  let s1 := (m.blocks.foldl (fun t b => t.placeBlock b (releasedTo m b)) s).modAccount (portOf m.origin) fun a =>
    { a with chargedBlocks := a.chargedBlocks - m.blocks.length, chargedRecords := a.chargedRecords - 1 }
  have hports : (m.blocks.foldl (fun t b => t.placeBlock b (releasedTo m b)) s).ports = s.ports := ports_foldl_placeBlock ..
  have h1 : (s1.port q).Unattended := by
    refine hu.congr ?_ ?_
    · exact (modPort_part PortRec.attention _ _ _ rfl q).trans (congrArg PortRec.attention (port_congr hports q))
    · exact (modPort_part PortRec.notification _ _ _ rfl q).trans (congrArg PortRec.notification (port_congr hports q))
  have ho : s1.online q = false := by
    rw [show s1.online q = _ from online_modPort _ _ _ _ rfl, online_congr (s := s) (by rw [port_congr hports]), h]
  show (State.port (State.setRecord (if m.receiptRequested then _ else _) r .free) q).Unattended
  rw [port_congr (setRecord_ports ..)]
  split
  · exact handOff_unattended ho _ _ h1
  · exact h1

theorem quiet_move {s t : State} (h : Move s t) (hs : s.Quiet) : t.Quiet := by
  cases h with
  | port p f h hd =>
    obtain ⟨hst, hrec, -, -, -, hatt⟩ := h
    refine hs.modPort_same p hst (fun _ hx => hrec.trans hx) fun ho hx => hatt (fun e => ?_) hx
    unfold State.online at ho
    rw [e] at ho
    cases ho
  | endpoint e f h hb =>
    refine hs.keep (fun _ _ hx => hx) (fun k ho hx => ?_) (fun _ _ hx => hx) fun _ _ hx => hx
    rw [endpoint_modEndpoint]
    split
    · next hk =>
      subst hk
      exact hb ho hx
    · exact hx
  | release r m c h =>
    refine hs.keep (fun p b hx => ?_) (fun e _ hx => ?_) (fun p ho hx => ?_) fun p ho hx => release_unattended ho r m c hx
    · rwa [out_of_cores (release_cores ..)] at hx
    · rwa [endpoint_congr (release_endpoints ..)]
    · rw [(release_handedOff s r m c p).1, hx, ho]
      simp [ReceiptUnit.after]
  | takeIn p r m h =>
    have hport (q : Port) (ho : s.online q = false) : (s.takeIn p r m).port q = s.port q := by
      rw [takeIn_port h.origin, if_neg]
      rintro rfl
      exact absurd (h.online.symm.trans ho) (by decide)
    refine hs.keep (fun q b hx => ?_) (fun e _ hx => ?_) (fun q ho hx => ?_) fun q ho hx => ?_
    · rwa [out_of_cores (takeIn_cores ..)] at hx
    · rwa [endpoint_congr (takeIn_endpoints ..)]
    · rwa [hport q ho]
    · rwa [hport q ho]
  | popReceipt p h =>
    exact hs.modPort_same p rfl (fun ho => absurd (h.symm.trans ho) (by decide)) fun _ hx => hx
  | quota p b r hb hr => exact hs.modPort_same p rfl (fun _ hx => hx) fun _ hx => hx
  | report p r h h' hr => exact hs.report hr fun e => absurd e h'
  | memoryManager p h =>
    have hq : (s.memoryManagerShare p).Quiet :=
      hs.keep (fun _ _ hx => hx) (fun _ _ hx => hx) (fun _ _ hx => hx) fun _ _ hx => hx
    exact hq.report (rested_of_ne _ _ (by decide) (by decide)) fun e => by cases e
  | receiptUnit p h =>
    have hq : (s.receiptUnitShare p).Quiet := hs.modPort_same p rfl (fun _ _ => rfl) fun _ hx => hx
    refine hq.report (rested_of_ne _ _ (by decide) (by decide)) fun _ => ?_
    rw [State.receiptUnitShare, port_modPort_self]
    rfl
  | enter p d =>
    refine hs.modPort p (fun b hx => ?_) (fun _ hx => hx) fun _ hx => hx
    have ha := hx.2
    unfold State.awaits at ha
    rw [port_modPort_self] at ha
    cases b <;> cases ha
  | pendDisable p =>
    refine hs.modPort p (fun b hx => ?_) (fun _ hx => hx) fun _ hx => hx
    obtain ⟨h1, h2⟩ := hx
    unfold State.online at h1
    unfold State.awaits at h2
    rw [port_modPort_self] at h1 h2
    unfold State.out State.online State.awaits
    cases hst : (s.port p).state <;> rw [hst] at h1 h2 <;> exact ⟨h1, h2⟩
  | online p h =>
    refine hs.modPort p (fun b hx => ?_) (fun _ hx => hx) fun _ hx => hx
    have ho := hx.1
    unfold State.online at ho
    rw [port_modPort_self] at ho
    cases ho
  | enable p h =>
    refine hs.modPort p (fun b _ => ?_) (fun _ hx => hx) fun _ hx => hx
    unfold State.out State.online State.awaits
    rw [h]
    exact ⟨rfl, rfl⟩
  | channel c x h => exact hs.keep (fun _ _ hx => hx) (fun _ _ hx => hx) (fun _ _ hx => hx) fun _ _ hx => hx
  | group g x h => exact hs.keep (fun _ _ hx => hx) (fun _ _ hx => hx) (fun _ _ hx => hx) fun _ _ hx => hx
  | arbiter a => exact hs.keep (fun _ _ hx => hx) (fun _ _ hx => hx) (fun _ _ hx => hx) fun _ _ hx => hx
  | store m b h => exact hs.keep (fun _ _ hx => hx) (fun _ _ hx => hx) (fun _ _ hx => hx) fun _ _ hx => hx
  | clock now n reset l h => exact hs.keep (fun _ _ hx => hx) (fun _ _ hx => hx) (fun _ _ hx => hx) fun _ _ hx => hx
  | config c h => exact hs.keep (fun _ _ hx => hx) (fun _ _ hx => hx) (fun _ _ hx => hx) fun _ _ hx => hx
  | record r x h => exact hs.keep (fun _ _ hx => hx) (fun _ _ hx => hx) (fun _ _ hx => hx) fun _ _ hx => hx

theorem quiet_of_hushed {s : State} (h : s.Hushed) : s.Quiet :=
  ⟨h.blank, h.receipts, h.attention⟩

theorem quiet_afterChipReset (pins : Vector Bool 4) (l : List Instr) : (State.afterChipReset pins l).Quiet :=
  quiet_of_hushed (hushed_of_coherent (coherent_afterChipReset pins l))

theorem quiet_step {s t : State} (hs : s.Quiet) (h : step s = .next t) : t.Quiet :=
  step_keeps (fun _ _ => quiet_move)
    (fun _ p _ h => h.modPort_same p rfl (fun _ hx => hx) fun _ hx => hx) quiet_afterChipReset hs h

end Sys2Proof.Machine
end

section
/-! The transfer units and the arbiter, apart from the rest of the state. -/

namespace Sys2Proof.Machine

/-! ## What goes with the transfer units of a port -/

/-- The parts of a port that go with its transfer units. -/
@[ext] structure Gear where
  state : PortState
  locked : Bool
  sendUnit : Option CopyIn
  sendOutcome : SendOutcome
  readBuffer : ReadBuffer
  fetchUnit : Option CopyOut
  fetchOutcome : FetchOutcome

def PortRec.gear (x : PortRec) : Gear where
  state := x.state
  locked := x.staging.locked
  sendUnit := x.sendUnit
  sendOutcome := x.sendOutcome
  readBuffer := x.readBuffer
  fetchUnit := x.fetchUnit
  fetchOutcome := x.fetchOutcome

def State.gears (s : State) (p : Port) : Gear :=
  (s.port p).gear

/-- Is this report still due in the state? -/
def PortState.due (x : PortState) (r : Report) : Bool :=
  match x with
  | .resetting _ awaited => awaited.contains r
  | .disabled => false
  | .offline => false
  | .online => false

theorem awaits_eq_due (s : State) (p : Port) (r : Report) : s.awaits p r = (s.port p).state.due r := by
  unfold State.awaits PortState.due
  cases (s.port p).state <;> rfl

theorem online_iff_state (s : State) (p : Port) : s.online p = true ↔ (s.port p).state = .online :=
  decide_eq_true_iff

/-- The Send Unit and what goes with it. -/
structure Gear.Send (x : Gear) : Prop where
  unit : ∀ u, x.sendUnit = some u → 1 ≤ u.remaining ∧ u.remaining ≤ 8 ∧ (u.cancelled = false → x.state = .online)
  locked : x.locked = true ↔ ∃ u, x.sendUnit = some u ∧ u.cancelled = false
  stopped : x.state.due .sendStopped = true ↔ ∃ u, x.sendUnit = some u ∧ u.cancelled = true

/-- The Fetch Unit and what goes with it. -/
structure Gear.Fetch (x : Gear) : Prop where
  unit : ∀ u, x.fetchUnit = some u → 1 ≤ u.remaining ∧ u.remaining ≤ 8 ∧ (u.cancelled = false → x.state = .online)
  reading : x.readBuffer.state = .filling ↔ ∃ u, x.fetchUnit = some u ∧ u.cancelled = false
  stopped : x.state.due .fetchStopped = true ↔ ∃ u, x.fetchUnit = some u ∧ u.cancelled = true

/-- In RESETTING a report is due, and a port that is not ONLINE has its buffers and outcomes reset. -/
structure Gear.Rest (x : Gear) : Prop where
  due : x.state ≠ .resetting false [] ∧ x.state ≠ .resetting true []
  buffers : x.state ≠ .online →
    x.readBuffer = ReadBuffer.reset ∧ x.sendOutcome = SendOutcome.reset ∧ x.fetchOutcome = FetchOutcome.reset

structure Gear.Good (x : Gear) : Prop where
  rest : x.Rest
  send : x.Send
  fetch : x.Fetch

/-! ## The arbiter -/

/-- A requester waits or has its block transfer in progress. -/
def Arbiter.Wants (a : Arbiter) (q : Requester) : Prop :=
  a.waiting[q] = true ∨ a.inProgress = some q

/-- No requester waits while its own transfer is in progress. -/
def Arbiter.Single (a : Arbiter) : Prop :=
  ∀ q : Requester, a.inProgress = some q → a.waiting[q] = false

/-- The requesters that want the memory are those whose units are at work. -/
structure Asks (a : Arbiter) (g : Port → Gear) : Prop where
  single : a.Single
  send : ∀ p, a.Wants (sendRequester p) ↔ (g p).sendUnit.isSome
  fetch : ∀ p, a.Wants (fetchRequester p) ↔ (g p).fetchUnit.isSome
  sendLast : ∀ p u, (g p).sendUnit = some u → u.cancelled = true → a.inProgress = some (sendRequester p)
  fetchLast : ∀ p u, (g p).fetchUnit = some u → u.cancelled = true → a.inProgress = some (fetchRequester p)

/-- The units do what goes with them, and ask the arbiter. -/
structure Works (a : Arbiter) (g : Port → Gear) : Prop extends Asks a g where
  good : ∀ p, (g p).Good

/-- The transfer units work with the arbiter, which keeps nobody waiting at a free port. -/
def State.Working (s : State) : Prop :=
  Works s.arbiter s.gears ∧ s.arbiter.Law

theorem working_of_sound {s : State} (h : s.Sound) : s.Working := by
  refine ⟨⟨⟨h.asked.law.2, h.asked.send, h.asked.fetch, h.asked.sendLast, h.asked.fetchLast⟩,
    fun p => ⟨⟨(h.geared p).due, fun ho => h.hushed.buffers p ?_⟩, ?_, ?_⟩⟩, h.asked.law⟩
  · exact decide_eq_false ho
  · obtain ⟨-, h1, h2, h3, -, -, -⟩ := h.geared p
    refine ⟨fun u hu => ?_, h2, ?_⟩
    · obtain ⟨g1, g2, g3⟩ := h1 u hu
      exact ⟨g1, g2, fun hc => (online_iff_state s p).1 (g3 hc)⟩
    · rwa [awaits_eq_due] at h3
  · obtain ⟨-, -, -, -, h1, h2, h3⟩ := h.geared p
    refine ⟨fun u hu => ?_, h2, ?_⟩
    · obtain ⟨g1, g2, g3⟩ := h1 u hu
      exact ⟨g1, g2, fun hc => (online_iff_state s p).1 (g3 hc)⟩
    · rwa [awaits_eq_due] at h3

theorem geared_of_working {s : State} (h : s.Working) (p : Port) : s.Geared p := by
  obtain ⟨⟨hdue, -⟩, ⟨h1, h2, h3⟩, h4, h5, h6⟩ := h.1.good p
  refine ⟨hdue, fun u hu => ?_, h2, ?_, fun u hu => ?_, h5, ?_⟩
  · obtain ⟨g1, g2, g3⟩ := h1 u hu
    exact ⟨g1, g2, fun hc => (online_iff_state s p).2 (g3 hc)⟩
  · rw [awaits_eq_due]
    exact h3
  · obtain ⟨g1, g2, g3⟩ := h4 u hu
    exact ⟨g1, g2, fun hc => (online_iff_state s p).2 (g3 hc)⟩
  · rw [awaits_eq_due]
    exact h6

theorem asked_of_working {s : State} (h : s.Working) : s.Asked :=
  ⟨h.2, h.1.send, h.1.fetch, h.1.sendLast, h.1.fetchLast⟩

theorem hushed_of_working {s : State} (h : s.Working) (hq : s.Quiet) : s.Hushed :=
  ⟨fun p hp => (h.1.good p).rest.buffers (of_decide_eq_false hp), hq.blank, hq.receipts, hq.attention⟩

/-- The coherence law from the laws that a step keeps one by one. -/
theorem coherent_of_parts {s : State} (hv : s.view.Law) (hw : s.Working) (hq : s.Quiet) (hl : s.LinkLaw)
    (hlen : s.LengthLaw) : s.Coherent :=
  coherent_of_sound hl hlen (sound_of_view hv (hushed_of_working hw hq) (geared_of_working hw) (asked_of_working hw))

/-! ## The requests of the units -/

theorem requester_cases (q : Requester) : ∃ p, q = sendRequester p ∨ q = fetchRequester p := by
  revert q
  decide

theorem sendRequester_inj {p q : Port} (h : sendRequester p = sendRequester q) : p = q := by
  revert p q
  decide

theorem fetchRequester_inj {p q : Port} (h : fetchRequester p = fetchRequester q) : p = q := by
  revert p q
  decide

theorem sendRequester_ne_fetchRequester (p q : Port) : sendRequester p ≠ fetchRequester q := by
  revert p q
  decide

/-- A grant takes nobody's request away. -/
theorem Arbiter.wants_grant (a : Arbiter) (q : Requester) : a.grant.Wants q ↔ a.Wants q := by
  cases hp : a.inProgress with
  | some k => rw [Arbiter.grant_of_busy hp]
  | none =>
    cases hf : a.first? with
    | none => rw [Arbiter.grant_of_none hp hf]
    | some k =>
      obtain ⟨hk, -⟩ := Arbiter.first?_eq_some.1 hf
      rw [Arbiter.grant_of_some hp hf]
      unfold Arbiter.Wants
      rw [hp]
      show (a.waiting.set k false)[q] = true ∨ some k = some q ↔ _
      by_cases hq : k = q
      · subst hq
        simp [hk]
      · have hv : k.val ≠ q.val := fun e => hq (Fin.ext e)
        simp [hq, hv]

theorem Arbiter.first?_ne_none {a : Arbiter} {q : Requester} (h : a.waiting[q] = true) : a.first? ≠ none := by
  unfold Arbiter.first?
  rw [Ne, List.find?_eq_none]
  intro hx
  refine hx q (List.mem_map.2 ⟨q - a.pointer, List.mem_finRange _, ?_⟩) h
  exact add_sub_cancel a.pointer q

/-- After a grant nobody waits at a free port. -/
theorem Arbiter.law_grant {a : Arbiter} (h : a.Single) : a.grant.Law := by
  cases hp : a.inProgress with
  | some k =>
    rw [Arbiter.grant_of_busy hp]
    exact ⟨fun hx => absurd (hp.symm.trans hx) (by simp), h⟩
  | none =>
    cases hf : a.first? with
    | none =>
      rw [Arbiter.grant_of_none hp hf]
      refine ⟨fun _ q => ?_, h⟩
      by_contra hq
      exact Arbiter.first?_ne_none (q := q) (by simpa using hq) hf
    | some k =>
      rw [Arbiter.grant_of_some hp hf]
      refine ⟨fun hx => (by cases hx), fun q hq => ?_⟩
      cases hq
      show (a.waiting.set k false)[k] = false
      simp

theorem Works.grant {a : Arbiter} {g : Port → Gear} (h : Works a g) : Works a.grant g := by
  have busy {q : Requester} (hq : a.inProgress = some q) : a.grant.inProgress = some q := by
    rw [Arbiter.grant_of_busy hq]
    exact hq
  exact ⟨⟨(Arbiter.law_grant h.single).2, fun p => (a.wants_grant _).trans (h.send p),
    fun p => (a.wants_grant _).trans (h.fetch p), fun p u hu hc => busy (h.sendLast p u hu hc),
    fun p u hu hc => busy (h.fetchLast p u hu hc)⟩, h.good⟩

/-- A requester joins the waiting set. -/
def Arbiter.ask (a : Arbiter) (q : Requester) : Arbiter :=
  { a with waiting := a.waiting.set q true }

/-- A requester leaves the waiting set. -/
def Arbiter.drop (a : Arbiter) (q : Requester) : Arbiter :=
  { a with waiting := a.waiting.set q false }

/-- The memory port becomes free. -/
def Arbiter.freed (a : Arbiter) : Arbiter :=
  { a with inProgress := none }

theorem Arbiter.wants_ask (a : Arbiter) (q k : Requester) : (a.ask q).Wants k ↔ k = q ∨ a.Wants k := by
  unfold Arbiter.Wants Arbiter.ask
  show (a.waiting.set q true)[k] = true ∨ a.inProgress = some k ↔ _
  by_cases hq : q = k
  · subst hq
    simp
  · have hv : q.val ≠ k.val := fun e => hq (Fin.ext e)
    simp [Ne.symm hq, hv]

theorem Arbiter.wants_drop (a : Arbiter) (q k : Requester) (h : a.inProgress ≠ some q) :
    (a.drop q).Wants k ↔ k ≠ q ∧ a.Wants k := by
  unfold Arbiter.Wants Arbiter.drop
  show (a.waiting.set q false)[k] = true ∨ a.inProgress = some k ↔ _
  by_cases hq : q = k
  · subst hq
    simp [h]
  · have hv : q.val ≠ k.val := fun e => hq (Fin.ext e)
    simp [Ne.symm hq, hv]

/-- When the transfer in progress ends, its requester has no request left. -/
theorem Arbiter.wants_freed {a : Arbiter} (h : a.Single) {q : Requester} (hq : a.inProgress = some q) (k : Requester) :
    a.freed.Wants k ↔ k ≠ q ∧ a.Wants k := by
  unfold Arbiter.Wants
  show a.waiting[k] = true ∨ none = some k ↔ _
  rw [hq]
  by_cases hk : k = q
  · subst hk
    simp [h k hq]
  · simp [hk, Ne.symm hk]

theorem Arbiter.single_freed (a : Arbiter) : a.freed.Single :=
  fun _ h => by cases h

theorem Arbiter.single_drop {a : Arbiter} (h : a.Single) (q : Requester) : (a.drop q).Single := by
  intro k hk
  have hk' := h k hk
  show (a.waiting.set q false)[k] = false
  by_cases hq : q = k
  · subst hq
    simp
  · have hv : q.val ≠ k.val := fun e => hq (Fin.ext e)
    simpa [hv] using hk'

theorem Arbiter.single_ask {a : Arbiter} (h : a.Single) {q : Requester} (hq : a.inProgress ≠ some q) : (a.ask q).Single := by
  intro k hk
  have hk' := h k hk
  have hne : q ≠ k := fun e => hq (by rw [e]; exact hk)
  have hv : q.val ≠ k.val := fun e => hne (Fin.ext e)
  show (a.waiting.set q true)[k] = false
  simpa [hv] using hk'

/-! ## A change at one port -/

section
variable {a a' : Arbiter} {g : Port → Gear} (h : Asks a g) {p : Port} {x : Gear}
include h

/-- A change at one port that leaves its units. -/
theorem Asks.tune (hs : x.sendUnit = (g p).sendUnit) (hf : x.fetchUnit = (g p).fetchUnit) :
    Asks a (Function.update g p x) := by
  have hsend (q : Port) : (Function.update g p x q).sendUnit = (g q).sendUnit := by
    by_cases e : q = p
    · rw [e, Function.update_self, hs]
    · rw [Function.update_of_ne e]
  have hfetch (q : Port) : (Function.update g p x q).fetchUnit = (g q).fetchUnit := by
    by_cases e : q = p
    · rw [e, Function.update_self, hf]
    · rw [Function.update_of_ne e]
  refine ⟨h.single, fun q => ?_, fun q => ?_, fun q u hu => ?_, fun q u hu => ?_⟩
  · rw [hsend]
    exact h.send q
  · rw [hfetch]
    exact h.fetch q
  · exact h.sendLast q u (by rw [← hsend]; exact hu)
  · exact h.fetchLast q u (by rw [← hfetch]; exact hu)

/-- A change of the Send Unit of one port with its request. -/
theorem Asks.changeSend (hf : x.fetchUnit = (g p).fetchUnit) (hsingle : a'.Single)
    (hw : ∀ q, q ≠ sendRequester p → (a'.Wants q ↔ a.Wants q)) (hp : a'.Wants (sendRequester p) ↔ x.sendUnit.isSome)
    (hlast : ∀ u, x.sendUnit = some u → u.cancelled = true → a'.inProgress = some (sendRequester p))
    (hkeep : ∀ q, q ≠ sendRequester p → a.inProgress = some q → a'.inProgress = some q) :
    Asks a' (Function.update g p x) := by
  have hfetch (q : Port) : (Function.update g p x q).fetchUnit = (g q).fetchUnit := by
    by_cases e : q = p
    · rw [e, Function.update_self, hf]
    · rw [Function.update_of_ne e]
  refine ⟨hsingle, fun q => ?_, fun q => ?_, fun q u hu hc => ?_, fun q u hu hc => ?_⟩
  · by_cases e : q = p
    · rw [e, Function.update_self]
      exact hp
    · rw [Function.update_of_ne e]
      exact (hw _ fun hx => e (sendRequester_inj hx)).trans (h.send q)
  · rw [hfetch]
    exact (hw _ (sendRequester_ne_fetchRequester p q).symm).trans (h.fetch q)
  · by_cases e : q = p
    · rw [e] at hu ⊢
      rw [Function.update_self] at hu
      exact hlast u hu hc
    · rw [Function.update_of_ne e] at hu
      exact hkeep _ (fun hx => e (sendRequester_inj hx)) (h.sendLast q u hu hc)
  · rw [hfetch] at hu
    exact hkeep _ (sendRequester_ne_fetchRequester p q).symm (h.fetchLast q u hu hc)

/-- A change of the Fetch Unit of one port with its request. -/
theorem Asks.changeFetch (hs : x.sendUnit = (g p).sendUnit) (hsingle : a'.Single)
    (hw : ∀ q, q ≠ fetchRequester p → (a'.Wants q ↔ a.Wants q)) (hp : a'.Wants (fetchRequester p) ↔ x.fetchUnit.isSome)
    (hlast : ∀ u, x.fetchUnit = some u → u.cancelled = true → a'.inProgress = some (fetchRequester p))
    (hkeep : ∀ q, q ≠ fetchRequester p → a.inProgress = some q → a'.inProgress = some q) :
    Asks a' (Function.update g p x) := by
  have hsend (q : Port) : (Function.update g p x q).sendUnit = (g q).sendUnit := by
    by_cases e : q = p
    · rw [e, Function.update_self, hs]
    · rw [Function.update_of_ne e]
  refine ⟨hsingle, fun q => ?_, fun q => ?_, fun q u hu hc => ?_, fun q u hu hc => ?_⟩
  · rw [hsend]
    exact (hw _ (sendRequester_ne_fetchRequester q p)).trans (h.send q)
  · by_cases e : q = p
    · rw [e, Function.update_self]
      exact hp
    · rw [Function.update_of_ne e]
      exact (hw _ fun hx => e (fetchRequester_inj hx)).trans (h.fetch q)
  · rw [hsend] at hu
    exact hkeep _ (sendRequester_ne_fetchRequester q p) (h.sendLast q u hu hc)
  · by_cases e : q = p
    · rw [e] at hu ⊢
      rw [Function.update_self] at hu
      exact hlast u hu hc
    · rw [Function.update_of_ne e] at hu
      exact hkeep _ (fun hx => e (fetchRequester_inj hx)) (h.fetchLast q u hu hc)

end

/-- With one gear replaced by a good one, all are good. -/
theorem good_update {g : Port → Gear} (h : ∀ q, (g q).Good) {p : Port} {x : Gear} (hx : x.Good) (q : Port) :
    (Function.update g p x q).Good := by
  by_cases e : q = p
  · rw [e, Function.update_self]
    exact hx
  · rw [Function.update_of_ne e]
    exact h q

section
variable {a a' : Arbiter} {g : Port → Gear} (h : Works a g) {p : Port} {x : Gear} (hx : x.Good)
include h hx

theorem Works.tune (hs : x.sendUnit = (g p).sendUnit) (hf : x.fetchUnit = (g p).fetchUnit) :
    Works a (Function.update g p x) :=
  ⟨h.toAsks.tune hs hf, good_update h.good hx⟩

theorem Works.changeSend (hf : x.fetchUnit = (g p).fetchUnit) (hsingle : a'.Single)
    (hw : ∀ q, q ≠ sendRequester p → (a'.Wants q ↔ a.Wants q)) (hp : a'.Wants (sendRequester p) ↔ x.sendUnit.isSome)
    (hlast : ∀ u, x.sendUnit = some u → u.cancelled = true → a'.inProgress = some (sendRequester p))
    (hkeep : ∀ q, q ≠ sendRequester p → a.inProgress = some q → a'.inProgress = some q) :
    Works a' (Function.update g p x) :=
  ⟨h.toAsks.changeSend hf hsingle hw hp hlast hkeep, good_update h.good hx⟩

theorem Works.changeFetch (hs : x.sendUnit = (g p).sendUnit) (hsingle : a'.Single)
    (hw : ∀ q, q ≠ fetchRequester p → (a'.Wants q ↔ a.Wants q)) (hp : a'.Wants (fetchRequester p) ↔ x.fetchUnit.isSome)
    (hlast : ∀ u, x.fetchUnit = some u → u.cancelled = true → a'.inProgress = some (fetchRequester p))
    (hkeep : ∀ q, q ≠ fetchRequester p → a.inProgress = some q → a'.inProgress = some q) :
    Works a' (Function.update g p x) :=
  ⟨h.toAsks.changeFetch hs hsingle hw hp hlast hkeep, good_update h.good hx⟩

end

end Sys2Proof.Machine
end

section
/-! What the operations of the transfer units do to the units and the arbiter. -/

namespace Sys2Proof.Machine

/-! ## The gears of a state -/

theorem gears_of_cores {s t : State} (h : t.cores = s.cores) : t.gears = s.gears :=
  funext fun p => by
    have hc := core_of_cores h p
    have hst : (t.port p).staging = (s.port p).staging := staging_of_cores h p
    refine Gear.ext (state_of_cores h p) (congrArg Staging.locked hst) (sendUnit_of_cores h p) ?_ ?_ (fetchUnit_of_cores h p) ?_
    · exact congrArg (fun x => x.2.2.2.2.2.2.1) hc
    · exact congrArg (fun x => x.2.2.2.2.2.2.2.1) hc
    · exact congrArg (fun x => x.2.2.2.2.2.2.2.2.2) hc

theorem gears_of_ports {s t : State} (h : t.ports = s.ports) : t.gears = s.gears :=
  funext fun p => congrArg PortRec.gear (port_congr h p)

theorem gears_modPort (s : State) (p : Port) (f : PortRec → PortRec) :
    (s.modPort p f).gears = Function.update s.gears p (f (s.port p)).gear := by
  funext q
  unfold State.gears
  by_cases e : q = p
  · rw [e, Function.update_self, port_modPort_self]
  · rw [Function.update_of_ne e, port_modPort_ne _ _ e]

theorem gears_modPort_same (s : State) (p : Port) (f : PortRec → PortRec) (h : (f (s.port p)).gear = (s.port p).gear) :
    (s.modPort p f).gears = s.gears := by
  rw [gears_modPort, h]
  exact Function.update_eq_self p s.gears

/-- The units and the arbiter as they were. -/
theorem State.Working.congr {s t : State} (h : s.Working) (hg : t.gears = s.gears) (ha : t.arbiter = s.arbiter) :
    t.Working := by
  unfold State.Working
  rw [hg, ha]
  exact h

/-- The gear with a report made. -/
def Gear.report (x : Gear) (r : Report) : Gear :=
  { x with state := x.state.afterReport r }

theorem gears_report (s : State) (p : Port) (r : Report) :
    (s.report p r).gears = Function.update s.gears p ((s.gears p).report r) :=
  gears_modPort ..

/-- The outcome of a completion, after what leaves the units. -/
theorem gears_writeSendOutcome {s t : State} (ht : t.gears = s.gears) (p : Port) (m : Message) (e : SendEnd) (n : Nat) :
    ∃ o, (t.writeSendOutcome p m e n).gears = Function.update s.gears p { s.gears p with sendOutcome := o } := by
  refine ⟨m.sendOutcome e n, ?_⟩
  unfold State.writeSendOutcome
  rw [gears_of_cores (setPortCond_cores ..), gears_modPort, ← ht]
  rfl

/-! ## The copy-in -/

theorem completeChannelCopy_gears (s : State) (p : Port) (r : RecId) (m : Message) (c : ChanId) (d : Dirn) (life : Nat)
    (counted : Bool) :
    ∃ o, (s.completeChannelCopy p r m c d life counted).gears = Function.update s.gears p { s.gears p with sendOutcome := o } := by
  have discard : ∃ o, (s.discardCopyIn p r m c d counted).gears =
      Function.update s.gears p { s.gears p with sendOutcome := o } := by
    refine gears_writeSendOutcome ?_ ..
    rw [gears_of_cores (endMessageTransfer_cores ..), gears_of_cores (claim_cores ..)]
  unfold State.completeChannelCopy
  split
  · split
    · refine gears_writeSendOutcome ?_ ..
      cases counted
      · simp only [Bool.false_eq_true, if_false]
        rw [gears_of_cores (makeLive_cores ..), gears_of_cores (append_cores ..)]
      · simp only [if_true]
        rw [gears_of_cores (endTransfer_cores ..), gears_of_cores (makeLive_cores ..), gears_of_cores (append_cores ..)]
    · exact discard
  · exact discard

theorem completeGroupCopy_gears (s : State) (p : Port) (r : RecId) (m : Message) (g : GroupId) (life : Nat) :
    ∃ o, (s.completeGroupCopy p r m g life).gears = Function.update s.gears p { s.gears p with sendOutcome := o } := by
  unfold State.completeGroupCopy
  split
  · refine gears_writeSendOutcome ?_ ..
    rw [gears_of_cores (endGroupCopy_cores ..)]
    split
    · rw [gears_of_cores (claim_cores ..), gears_of_cores (modMessage_cores ..), gears_of_cores (foldl_cores _ (fun _ _ => append_cores ..) _ _)]
    · rw [gears_of_cores (makeLive_cores ..), gears_of_cores (modMessage_cores ..), gears_of_cores (foldl_cores _ (fun _ _ => append_cores ..) _ _)]
  · refine gears_writeSendOutcome ?_ ..
    rw [gears_of_cores (endGroupCopy_cores ..), gears_of_cores (claim_cores ..)]

theorem sendUnitDone_gears (s : State) (p : Port) :
    (s.sendUnitDone p).gears = Function.update s.gears p { s.gears p with sendUnit := none, locked := false } :=
  gears_modPort ..

/-- A completion leaves the Send Unit IDLE, the staging buffer unlocked and a send outcome. -/
theorem completeCopyIn_gears (s : State) (p : Port) (r : RecId) (life : Nat) (counted : Bool) :
    ∃ o, (s.completeCopyIn p r life counted).gears =
      Function.update s.gears p { s.gears p with sendUnit := none, locked := false, sendOutcome := o } := by
  have done {t : State} (ht : ∃ o, t.gears = Function.update s.gears p { s.gears p with sendOutcome := o }) :
      ∃ o, (t.sendUnitDone p).gears =
        Function.update s.gears p { s.gears p with sendUnit := none, locked := false, sendOutcome := o } := by
    obtain ⟨o, ht⟩ := ht
    refine ⟨o, ?_⟩
    rw [sendUnitDone_gears, ht, Function.update_self, Function.update_idem]
  unfold State.completeCopyIn
  split
  · exact ⟨(s.gears p).sendOutcome, sendUnitDone_gears ..⟩
  · split
    · exact done (completeChannelCopy_gears ..)
    · exact done (completeGroupCopy_gears ..)

theorem startCopyIn_gears (s : State) (p : Port) (r : RecId) (kind : MsgKind) (n life : Nat) :
    (s.startCopyIn p r kind n life).gears = Function.update s.gears p
      { s.gears p with
        locked := true
        sendUnit := some { record := r, kind := kind, next := 0, remaining := n, lifetime := life, cancelled := false } } := by
  let s1 := s.modPort p fun x =>
    { x with
      staging := { x.staging with locked := true }
      sendUnit := some { record := r, kind := kind, next := 0, remaining := n, lifetime := life, cancelled := false } }
  exact (gears_of_ports (s := s1) rfl).trans (gears_modPort ..)

theorem cancelCopyIn_gears (s : State) (p : Port) (r : RecId) :
    (s.cancelCopyIn p r).gears = Function.update s.gears p (({ s.gears p with sendUnit := none } : Gear).report .sendStopped) := by
  have idle {t : State} (ht : t.gears = s.gears) :
      ((t.modPort p fun x => { x with sendUnit := none }).report p .sendStopped).gears =
        Function.update s.gears p (({ s.gears p with sendUnit := none } : Gear).report .sendStopped) := by
    rw [gears_report, gears_modPort, Function.update_self, Function.update_idem, ← ht]
    rfl
  unfold State.cancelCopyIn
  refine idle ?_
  split
  · rfl
  · split
    · rw [gears_of_cores (endMessageTransfer_cores ..), gears_of_cores (claim_cores ..)]
    · rw [gears_of_cores (endGroupCopy_cores ..), gears_of_cores (claim_cores ..)]

/-! ## The fetch -/

theorem writeFetchOutcome_gears (s : State) (p : Port) (e : EpIndex) (m : Message) :
    ∃ o, (s.writeFetchOutcome p e m).gears = Function.update s.gears p { s.gears p with fetchOutcome := o } := by
  unfold State.writeFetchOutcome
  rw [gears_of_cores (setPortCond_cores ..), gears_modPort]
  exact ⟨_, rfl⟩

/-- A completion leaves the Fetch Unit IDLE, the read buffer FULL and a fetch outcome. -/
theorem completeFetch_gears {s : State} {r : RecId} {m : Message} (p : Port) (e : EpIndex) (counted : Bool)
    (hr : (s.record r).message? = some m) :
    ∃ o, (s.completeFetch p e r counted).gears = Function.update s.gears p
      { s.gears p with
        fetchUnit := none, fetchOutcome := o, readBuffer := { (s.gears p).readBuffer with state := .full } } := by
  let s1 := s.modPort p fun x => { x with readBuffer := { x.readBuffer with state := .full } }
  obtain ⟨o, ho⟩ := writeFetchOutcome_gears s1 p e m
  have h1 : s1.gears = Function.update s.gears p
      { s.gears p with readBuffer := { (s.gears p).readBuffer with state := .full } } := gears_modPort ..
  have heq : s.completeFetch p e r counted =
      ((((s1.writeFetchOutcome p e m).claim r 1 (some .fetched) .fetched).endFetchOn m.link counted).modPort p
        fun x => { x with fetchUnit := none }) := by
    unfold State.completeFetch
    rw [hr]
  refine ⟨o, ?_⟩
  have h4 : (((s1.writeFetchOutcome p e m).claim r 1 (some .fetched) .fetched).endFetchOn m.link counted).gears =
      (s1.writeFetchOutcome p e m).gears := by
    rw [gears_of_cores (endFetchOn_cores ..), gears_of_cores (claim_cores ..)]
  have h5 (t : State) : (t.modPort p fun x => { x with fetchUnit := none }).gears =
      Function.update t.gears p { t.gears p with fetchUnit := none } := gears_modPort ..
  rw [heq, h5, h4, ho, h1, Function.update_self, Function.update_idem, Function.update_self, Function.update_idem]

theorem cancelFetch_gears (s : State) (p : Port) (r : RecId) :
    (s.cancelFetch p r).gears = Function.update s.gears p (({ s.gears p with fetchUnit := none } : Gear).report .fetchStopped) := by
  have idle {t : State} (ht : t.gears = s.gears) :
      ((t.modPort p fun x => { x with fetchUnit := none }).report p .fetchStopped).gears =
        Function.update s.gears p (({ s.gears p with fetchUnit := none } : Gear).report .fetchStopped) := by
    rw [gears_report, gears_modPort, Function.update_self, Function.update_idem, ← ht]
    rfl
  unfold State.cancelFetch
  refine idle ?_
  split
  · rfl
  · rw [gears_of_cores (endFetchOn_cores ..), gears_of_cores (claim_cores ..)]

theorem failActions_gears (s : State) (p : Port) (r : RecId) (b : BlockId) :
    (s.failActions p r b).gears = Function.update s.gears p
      { s.gears p with readBuffer := { (s.gears p).readBuffer with damaged := true } } := by
  have hb : (s.badMark r b).gears = s.gears := gears_of_cores (badMark_cores ..)
  unfold State.failActions
  rw [gears_of_cores (setPortCond_cores ..), gears_modPort, ← hb]
  rfl

/-- A block read changes no more than the words and the damage mark of the read buffer. -/
theorem takeRead_gears (s : State) (p : Port) (u : CopyOut) :
    ∃ b, b.state = (s.gears p).readBuffer.state ∧
      (s.takeRead p u).gears = Function.update s.gears p { s.gears p with readBuffer := b } := by
  have store_gears (k : Nat) (b : BlockId) : ∃ w, (s.storeRead p k b).gears = Function.update s.gears p
      { s.gears p with readBuffer := { (s.gears p).readBuffer with words := w } } := by
    unfold State.storeRead
    generalize s.blockWords b = words
    exact ⟨_, gears_modPort ..⟩
  unfold State.takeRead
  split
  · exact ⟨_, rfl, (Function.update_eq_self p s.gears).symm⟩
  · next b _ =>
    obtain ⟨w, hw⟩ := store_gears u.next b
    split
    · refine ⟨{ (s.gears p).readBuffer with words := w, damaged := true }, rfl, ?_⟩
      rw [failActions_gears, hw, Function.update_self, Function.update_idem]
    · exact ⟨{ (s.gears p).readBuffer with words := w }, rfl, hw⟩

end Sys2Proof.Machine
end

section
/-! The transfer units and the arbiter through SEND, PUBLISH, FETCH and the ends of block transfers. -/

namespace Sys2Proof.Machine

/-! ## The units of an ONLINE port -/

/-- The units of an ONLINE port: none is cancelled, and the buffers are held exactly while a unit is COPYING. -/
structure Gear.On (x : Gear) : Prop where
  state : x.state = .online
  send : ∀ u, x.sendUnit = some u → 1 ≤ u.remaining ∧ u.remaining ≤ 8 ∧ u.cancelled = false
  locked : x.locked = true ↔ x.sendUnit.isSome
  fetch : ∀ u, x.fetchUnit = some u → 1 ≤ u.remaining ∧ u.remaining ≤ 8 ∧ u.cancelled = false
  reading : x.readBuffer.state = .filling ↔ x.fetchUnit.isSome

theorem Gear.Good.on {x : Gear} (h : x.Good) (ho : x.state = .online) : x.On := by
  obtain ⟨-, ⟨h1, h2, h3⟩, h4, h5, h6⟩ := h
  have hdue (r : Report) : x.state.due r = false := by rw [ho]; rfl
  have send_kept {u : CopyIn} (hu : x.sendUnit = some u) : u.cancelled = false := by
    by_contra hc
    exact absurd ((hdue _).symm.trans (h3.2 ⟨u, hu, by simpa using hc⟩)) (by decide)
  have fetch_kept {u : CopyOut} (hu : x.fetchUnit = some u) : u.cancelled = false := by
    by_contra hc
    exact absurd ((hdue _).symm.trans (h6.2 ⟨u, hu, by simpa using hc⟩)) (by decide)
  refine ⟨ho, fun u hu => ?_, ?_, fun u hu => ?_, ?_⟩
  · exact ⟨(h1 u hu).1, (h1 u hu).2.1, send_kept hu⟩
  · rw [h2, Option.isSome_iff_exists]
    exact ⟨fun ⟨u, hu, _⟩ => ⟨u, hu⟩, fun ⟨u, hu⟩ => ⟨u, hu, send_kept hu⟩⟩
  · exact ⟨(h4 u hu).1, (h4 u hu).2.1, fetch_kept hu⟩
  · rw [h5, Option.isSome_iff_exists]
    exact ⟨fun ⟨u, hu, _⟩ => ⟨u, hu⟩, fun ⟨u, hu⟩ => ⟨u, hu, fetch_kept hu⟩⟩

theorem Gear.On.good {x : Gear} (h : x.On) : x.Good := by
  obtain ⟨ho, h1, h2, h3, h4⟩ := h
  have hdue (r : Report) : x.state.due r = false := by rw [ho]; rfl
  refine ⟨⟨⟨by rw [ho]; simp, by rw [ho]; simp⟩, fun hx => absurd ho hx⟩, ⟨fun u hu => ?_, ?_, ?_⟩, fun u hu => ?_, ?_, ?_⟩
  · exact ⟨(h1 u hu).1, (h1 u hu).2.1, fun _ => ho⟩
  · rw [h2, Option.isSome_iff_exists]
    exact ⟨fun ⟨u, hu⟩ => ⟨u, hu, (h1 u hu).2.2⟩, fun ⟨u, hu, _⟩ => ⟨u, hu⟩⟩
  · rw [hdue]
    refine ⟨fun hx => (by cases hx), fun ⟨u, hu, hc⟩ => ?_⟩
    exact absurd ((h1 u hu).2.2.symm.trans hc) (by decide)
  · exact ⟨(h3 u hu).1, (h3 u hu).2.1, fun _ => ho⟩
  · rw [h4, Option.isSome_iff_exists]
    exact ⟨fun ⟨u, hu⟩ => ⟨u, hu, (h3 u hu).2.2⟩, fun ⟨u, hu, _⟩ => ⟨u, hu⟩⟩
  · rw [hdue]
    refine ⟨fun hx => (by cases hx), fun ⟨u, hu, hc⟩ => ?_⟩
    exact absurd ((h3 u hu).2.2.symm.trans hc) (by decide)

theorem Works.on {a : Arbiter} {g : Port → Gear} (h : Works a g) {p : Port} (ho : (g p).state = .online) : (g p).On :=
  (h.good p).on ho

/-! ## The requests of a unit -/

section
variable {a : Arbiter} {g : Port → Gear} (h : Works a g) {p : Port}
include h

theorem Works.not_wants_send (hu : (g p).sendUnit = none) : ¬a.Wants (sendRequester p) := by
  rw [h.send p, hu]
  simp

theorem Works.not_wants_fetch (hu : (g p).fetchUnit = none) : ¬a.Wants (fetchRequester p) := by
  rw [h.fetch p, hu]
  simp

/-- The Send Unit begins: its requester asks for the memory. -/
theorem Works.beginSend {x : Gear} {u : CopyIn} (hu : (g p).sendUnit = none) (hx : x.On) (hs : x.sendUnit = some u)
    (hf : x.fetchUnit = (g p).fetchUnit) : Works (a.ask (sendRequester p)) (Function.update g p x) := by
  have hn := h.not_wants_send hu
  refine h.changeSend hx.good hf (Arbiter.single_ask h.single fun e => hn (.inr e)) (fun q hq => ?_) ?_ (fun v hv hc => ?_)
    fun _ _ e => e
  · rw [Arbiter.wants_ask]
    simp [hq]
  · rw [Arbiter.wants_ask, hs]
    simp
  · exact absurd ((hx.send v hv).2.2.symm.trans hc) (by decide)

theorem Works.beginFetch {x : Gear} {u : CopyOut} (hu : (g p).fetchUnit = none) (hx : x.On) (hf : x.fetchUnit = some u)
    (hs : x.sendUnit = (g p).sendUnit) : Works (a.ask (fetchRequester p)) (Function.update g p x) := by
  have hn := h.not_wants_fetch hu
  refine h.changeFetch hx.good hs (Arbiter.single_ask h.single fun e => hn (.inr e)) (fun q hq => ?_) ?_ (fun v hv hc => ?_)
    fun _ _ e => e
  · rw [Arbiter.wants_ask]
    simp [hq]
  · rw [Arbiter.wants_ask, hf]
    simp
  · exact absurd ((hx.fetch v hv).2.2.symm.trans hc) (by decide)

/-- The block transfer of the Send Unit ends, and the unit asks for the next one. -/
theorem Works.nextSend {x : Gear} {u : CopyIn} (hp : a.inProgress = some (sendRequester p)) (hx : x.On)
    (hs : x.sendUnit = some u) (hf : x.fetchUnit = (g p).fetchUnit) :
    Works (a.freed.ask (sendRequester p)) (Function.update g p x) := by
  refine h.changeSend hx.good hf (Arbiter.single_ask a.single_freed (by simp [Arbiter.freed])) (fun q hq => ?_) ?_
    (fun v hv hc => ?_) fun q hq e => ?_
  · rw [Arbiter.wants_ask, Arbiter.wants_freed h.single hp]
    simp [hq]
  · rw [Arbiter.wants_ask, hs]
    simp
  · exact absurd ((hx.send v hv).2.2.symm.trans hc) (by decide)
  · exact absurd (Option.some.inj (hp.symm.trans e)).symm hq

theorem Works.nextFetch {x : Gear} {u : CopyOut} (hp : a.inProgress = some (fetchRequester p)) (hx : x.On)
    (hf : x.fetchUnit = some u) (hs : x.sendUnit = (g p).sendUnit) :
    Works (a.freed.ask (fetchRequester p)) (Function.update g p x) := by
  refine h.changeFetch hx.good hs (Arbiter.single_ask a.single_freed (by simp [Arbiter.freed])) (fun q hq => ?_) ?_
    (fun v hv hc => ?_) fun q hq e => ?_
  · rw [Arbiter.wants_ask, Arbiter.wants_freed h.single hp]
    simp [hq]
  · rw [Arbiter.wants_ask, hf]
    simp
  · exact absurd ((hx.fetch v hv).2.2.symm.trans hc) (by decide)
  · exact absurd (Option.some.inj (hp.symm.trans e)).symm hq

/-- The block transfer of the Send Unit ends, and so does its copy-in. -/
theorem Works.endSend {x : Gear} (hp : a.inProgress = some (sendRequester p)) (hx : x.Good) (hs : x.sendUnit = none)
    (hf : x.fetchUnit = (g p).fetchUnit) : Works a.freed (Function.update g p x) := by
  refine h.changeSend hx hf a.single_freed (fun q hq => ?_) ?_ (fun v hv => ?_) fun q hq e => ?_
  · rw [Arbiter.wants_freed h.single hp]
    simp [hq]
  · rw [Arbiter.wants_freed h.single hp, hs]
    simp
  · cases hs.symm.trans hv
  · exact absurd (Option.some.inj (hp.symm.trans e)).symm hq

theorem Works.endFetch {x : Gear} (hp : a.inProgress = some (fetchRequester p)) (hx : x.Good) (hf : x.fetchUnit = none)
    (hs : x.sendUnit = (g p).sendUnit) : Works a.freed (Function.update g p x) := by
  refine h.changeFetch hx hs a.single_freed (fun q hq => ?_) ?_ (fun v hv => ?_) fun q hq e => ?_
  · rw [Arbiter.wants_freed h.single hp]
    simp [hq]
  · rw [Arbiter.wants_freed h.single hp, hf]
    simp
  · cases hf.symm.trans hv
  · exact absurd (Option.some.inj (hp.symm.trans e)).symm hq

end

/-- A grant ends every event of the memory. -/
theorem working_grant {s : State} (h : Works s.arbiter s.gears) : s.grant.Working :=
  ⟨h.grant, Arbiter.law_grant h.single⟩

/-! ## SEND and PUBLISH -/

section
variable {s : State} (h : s.Working) {p : Port} (ho : s.online p = true) (hu : (s.port p).sendUnit = none)
include h ho hu

theorem working_startCopyIn (r : RecId) (kind : MsgKind) {n : Nat} (life : Nat) (h1 : 1 ≤ n) (h8 : n ≤ 8) :
    (s.startCopyIn p r kind n life).Working := by
  obtain ⟨hst, -, -, hf, hr⟩ := h.1.on (p := p) ((online_iff_state s p).1 ho)
  refine working_grant (s := ((s.modPort p _).placeRequest (sendRequester p))) ?_
  have hx : Gear.On
      { s.gears p with
        locked := true
        sendUnit := some { record := r, kind := kind, next := 0, remaining := n, lifetime := life, cancelled := false } } := by
    refine ⟨hst, fun u hv => ?_, by simp, hf, hr⟩
    cases hv
    exact ⟨h1, h8, rfl⟩
  have hw := h.1.beginSend hu hx rfl rfl
  rw [← startCopyIn_gears s p r kind n life] at hw
  exact hw

/-- A message of length 0 is copied in at once, without the Send Unit (R69). -/
theorem working_completeCopyIn (r : RecId) (life : Nat) (counted : Bool) : (s.completeCopyIn p r life counted).Working := by
  obtain ⟨hst, -, -, hf, hr⟩ := h.1.on (p := p) ((online_iff_state s p).1 ho)
  obtain ⟨o, hg⟩ := completeCopyIn_gears s p r life counted
  unfold State.Working
  rw [hg, completeCopyIn_arbiter]
  refine ⟨h.1.tune (Gear.On.good ⟨hst, fun u hv => (by cases hv), by simp, hf, hr⟩) hu.symm rfl, h.2⟩

end

/-- A message of 1 to 256 bytes has 1 to 8 blocks. -/
theorem blocksFor_bounds {n : Nat} (h : n ≤ 256) (h0 : blocksFor n ≠ 0) : 1 ≤ blocksFor n ∧ blocksFor n ≤ 8 := by
  unfold blocksFor at *
  omega

theorem working_acceptSend {s : State} (h : s.Working) {p : Port} {w : Word} {c : ChanId} {l : LiveChannel}
    (ha : SendAccepted s p w c l) : (acceptSend s p w).1.Working := by
  unfold acceptSend
  simp only []
  rw [ha.opened]
  cases hr : s.freeRecord? with
  | none => exact h
  | some r =>
    simp only []
    let s1 := s.acceptChannelMessage p r (endpointOf p w) c l
    have hk : s1.cores = s.cores := acceptChannelMessage_cores ..
    have h1 : s1.Working := h.congr (gears_of_cores hk) (acceptChannelMessage_arbiter ..)
    have ho : s1.online p = true := (online_of_cores hk p).trans ha.online
    have hu : (s1.port p).sendUnit = none := (sendUnit_of_cores hk p).trans ha.unit
    show (s1.beginChannelCopy p r c (s.arg p 0).toNat _).Working
    unfold State.beginChannelCopy
    split
    · exact working_completeCopyIn h1 ho hu ..
    · next h0 =>
      obtain ⟨g1, g8⟩ := blocksFor_bounds ha.length h0
      exact working_startCopyIn (s := s1.beginTransfer c) (h1.congr (gears_of_cores (beginTransfer_cores ..)) rfl) ho hu r _ _ g1 g8

theorem working_acceptPublish {s : State} (h : s.Working) {p : Port} {w : Word} {g : GroupId} {x : ActiveGroup}
    (ha : PublishAccepted s p w g x) : (acceptPublish s p w).1.Working := by
  unfold acceptPublish
  simp only []
  rw [ha.published]
  cases hr : s.freeRecord? with
  | none => exact h
  | some r =>
    simp only []
    let s1 := s.acceptGroupMessage p r (endpointOf p w) g x
    have hk : s1.cores = s.cores := acceptGroupMessage_cores ..
    have h1 : s1.Working := h.congr (gears_of_cores hk) (acceptGroupMessage_arbiter ..)
    have ho : s1.online p = true := (online_of_cores hk p).trans ha.online
    have hu : (s1.port p).sendUnit = none := (sendUnit_of_cores hk p).trans ha.unit
    show (s1.beginGroupCopy p r g (s.arg p 0).toNat _).Working
    unfold State.beginGroupCopy
    split
    · exact working_completeCopyIn h1 ho hu ..
    · next h0 =>
      obtain ⟨g1, g8⟩ := blocksFor_bounds ha.length h0
      have hk2 : (s1.modActive g fun y => { y with copyInFlight := true }).cores = s1.cores := modActive_cores ..
      exact working_startCopyIn (h1.congr (gears_of_cores hk2) (modActive_arbiter ..))
        ((online_of_cores hk2 p).trans ho) ((sendUnit_of_cores hk2 p).trans hu) r _ _ g1 g8

/-! ## FETCH -/

theorem working_fetchHead {s : State} (h : s.Working) {p : Port} (ho : s.online p = true)
    (hu : (s.port p).fetchUnit = none) (e : EpId) {r : RecId} {m : Message} (hr : (s.record r).message? = some m)
    (hlen : m.length ≤ 256) : (s.fetchHead p e r m).Working := by
  obtain ⟨hst, hs, hl, -, -⟩ := h.1.on (p := p) ((online_iff_state s p).1 ho)
  let s1 := (s.removeHead e).modPort p fun x => { x with readBuffer := ReadBuffer.forMessage (localOf e) m }
  have hg1 : s1.gears = Function.update s.gears p { s.gears p with readBuffer := ReadBuffer.forMessage (localOf e) m } := by
    refine (gears_modPort ..).trans ?_
    rw [gears_of_cores (removeHead_cores ..)]
    have hp : (s.removeHead e).gears p = s.gears p := congrFun (gears_of_cores (removeHead_cores ..)) p
    exact congrArg (fun x : Gear => Function.update s.gears p { x with readBuffer := ReadBuffer.forMessage (localOf e) m }) hp
  have hr1 : (s1.record r).message? = some m := by
    rw [record_congr (modPort_records ..), record_congr (removeHead_records ..), hr]
  unfold State.fetchHead
  simp only []
  split
  · obtain ⟨o, hg⟩ := completeFetch_gears p (localOf e) false hr1
    rw [hg1, Function.update_self, Function.update_idem] at hg
    unfold State.Working
    rw [hg, completeFetch_arbiter]
    refine ⟨h.1.tune (Gear.On.good ⟨hst, hs, hl, fun u hv => (by cases hv), ?_⟩) rfl hu.symm, h.2⟩
    exact ⟨fun hx => (by cases hx), fun hx => (by cases hx)⟩
  · next h0 =>
    obtain ⟨g1, g8⟩ := blocksFor_bounds hlen h0
    let u : CopyOut := { record := r, endpoint := localOf e, next := 0, remaining := blocksFor m.length, cancelled := false }
    have hg2 : ((s1.beginFetchOn m.link).modPort p fun x => { x with fetchUnit := some u }).gears =
        Function.update s.gears p
          { s.gears p with readBuffer := ReadBuffer.forMessage (localOf e) m, fetchUnit := some u } := by
      have hb : (s1.beginFetchOn m.link).gears = s1.gears := gears_of_cores (beginFetchOn_cores ..)
      have h3 (t : State) : (t.modPort p fun x => { x with fetchUnit := some u }).gears =
          Function.update t.gears p { t.gears p with fetchUnit := some u } := gears_modPort ..
      rw [h3, hb, hg1, Function.update_self, Function.update_idem]
    have hx : Gear.On { s.gears p with readBuffer := ReadBuffer.forMessage (localOf e) m, fetchUnit := some u } := by
      refine ⟨hst, hs, hl, fun v hv => ?_, ⟨fun _ => rfl, fun _ => rfl⟩⟩
      cases hv
      exact ⟨g1, g8, rfl⟩
    have hw := h.1.beginFetch hu hx rfl rfl
    have ha : ((s1.beginFetchOn m.link).modPort p fun x => { x with fetchUnit := some u }).arbiter = s.arbiter :=
      beginFetchOn_arbiter s1 m.link
    rw [← hg2, ← ha] at hw
    exact working_grant (s := (((s1.beginFetchOn m.link).modPort p fun x => { x with fetchUnit := some u }).placeRequest
      (fetchRequester p))) hw

theorem working_acceptFetch {s : State} (h : s.Working) (hlen : s.LengthLaw) {p : Port} (w : Word) (ho : s.online p = true)
    (hu : (s.port p).fetchUnit = none) : (acceptFetch s p w).1.Working := by
  unfold acceptFetch
  simp only []
  split
  · exact h
  · next r q hq =>
    cases hr : (s.record r).message? with
    | none => exact h.congr (gears_of_cores (removeHead_cores ..)) (removeHead_arbiter ..)
    | some m => exact working_fetchHead h ho hu _ hr (hlen r m hr).1

end Sys2Proof.Machine
end

section
/-! The transfer units, the arbiter and the view at the end of a block transfer. -/

namespace Sys2Proof.Machine

/-! ## Reports -/

theorem due_afterReport (x : PortState) (r k : Report) : (x.afterReport r).due k = (x.due k && !decide (k = r)) := by
  cases x with
  | resetting d l =>
    unfold PortState.afterReport
    have hleft : (l.filter (· ≠ r)).contains k = (l.contains k && !decide (k = r)) := by
      rw [Bool.eq_iff_iff]
      simp
    simp only []
    split
    · next hnil =>
      rw [hnil] at hleft
      refine Eq.trans ?_ hleft
      cases d <;> rfl
    · exact hleft
  | disabled => rfl
  | offline => rfl
  | online => rfl

theorem afterReport_ne (x : PortState) (r : Report) (d : Bool) : x.afterReport r ≠ .resetting d [] := by
  cases x with
  | resetting e l =>
    unfold PortState.afterReport
    simp only []
    split
    · cases e <;> simp
    · next h =>
      intro hx
      injection hx with _ hx
      exact h hx
  | disabled => exact fun h => by cases h
  | offline => exact fun h => by cases h
  | online => exact fun h => by cases h

theorem afterReport_online (x : PortState) (r : Report) : x.afterReport r = .online ↔ x = .online := by
  cases x with
  | resetting e l =>
    unfold PortState.afterReport
    simp only []
    split
    · cases e <;> simp
    · simp
  | disabled => exact Iff.rfl
  | offline => exact Iff.rfl
  | online => exact Iff.rfl

theorem Gear.Rest.report {x : Gear} (h : x.Rest) (r : Report) : (x.report r).Rest :=
  ⟨⟨afterReport_ne _ _ _, afterReport_ne _ _ _⟩, fun hx => h.buffers fun e => hx ((afterReport_online ..).2 e)⟩

theorem Gear.Send.report {x : Gear} (h : x.Send) {r : Report} (hr : r ≠ .sendStopped) : (x.report r).Send := by
  refine ⟨fun u hu => ?_, h.locked, ?_⟩
  · obtain ⟨h1, h2, h3⟩ := h.unit u hu
    exact ⟨h1, h2, fun hc => (afterReport_online ..).2 (h3 hc)⟩
  · show (x.state.afterReport r).due .sendStopped = true ↔ ∃ u, x.sendUnit = some u ∧ u.cancelled = true
    rw [due_afterReport]
    simpa [hr.symm] using h.stopped

theorem Gear.Fetch.report {x : Gear} (h : x.Fetch) {r : Report} (hr : r ≠ .fetchStopped) : (x.report r).Fetch := by
  refine ⟨fun u hu => ?_, h.reading, ?_⟩
  · obtain ⟨h1, h2, h3⟩ := h.unit u hu
    exact ⟨h1, h2, fun hc => (afterReport_online ..).2 (h3 hc)⟩
  · show (x.state.afterReport r).due .fetchStopped = true ↔ ∃ u, x.fetchUnit = some u ∧ u.cancelled = true
    rw [due_afterReport]
    simpa [hr.symm] using h.stopped

/-- A unit that stops reports it. -/
theorem Gear.send_stopped {x : Gear} (hl : x.locked = false) :
    (({ x with sendUnit := none } : Gear).report .sendStopped).Send := by
  refine ⟨fun u hu => (by cases hu), ?_, ?_⟩
  · show x.locked = true ↔ _
    rw [hl]
    exact ⟨fun h => (by cases h), fun ⟨u, hu, _⟩ => by cases hu⟩
  · show (x.state.afterReport .sendStopped).due .sendStopped = true ↔ _
    rw [due_afterReport]
    refine ⟨fun h => ?_, fun ⟨u, hu, _⟩ => by cases hu⟩
    simp at h

theorem Gear.fetch_stopped {x : Gear} (hl : x.readBuffer.state ≠ .filling) :
    (({ x with fetchUnit := none } : Gear).report .fetchStopped).Fetch := by
  refine ⟨fun u hu => (by cases hu), ?_, ?_⟩
  · exact ⟨fun h => absurd h hl, fun ⟨u, hu, _⟩ => by cases hu⟩
  · show (x.state.afterReport .fetchStopped).due .fetchStopped = true ↔ _
    rw [due_afterReport]
    refine ⟨fun h => ?_, fun ⟨u, hu, _⟩ => by cases hu⟩
    simp at h

theorem Gear.Fetch.congr {x y : Gear} (h : x.Fetch) (hs : y.state = x.state) (hb : y.readBuffer = x.readBuffer)
    (hu : y.fetchUnit = x.fetchUnit) : y.Fetch := by
  obtain ⟨h1, h2, h3⟩ := h
  exact ⟨by rw [hs, hu]; exact h1, by rw [hb, hu]; exact h2, by rw [hs, hu]; exact h3⟩

theorem Gear.Send.congr {x y : Gear} (h : x.Send) (hs : y.state = x.state) (hb : y.locked = x.locked)
    (hu : y.sendUnit = x.sendUnit) : y.Send := by
  obtain ⟨h1, h2, h3⟩ := h
  exact ⟨by rw [hs, hu]; exact h1, by rw [hb, hu]; exact h2, by rw [hs, hu]; exact h3⟩

/-- A cancelled copy-in ends. -/
theorem Gear.Good.stopSend {x : Gear} (h : x.Good) {u : CopyIn} (hu : x.sendUnit = some u) (hc : u.cancelled = true) :
    (({ x with sendUnit := none } : Gear).report .sendStopped).Good := by
  obtain ⟨h1, h2, h3⟩ := h
  refine ⟨Gear.Rest.report (x := { x with sendUnit := none }) ⟨h1.due, h1.buffers⟩ _, Gear.send_stopped ?_,
    Gear.Fetch.report (x := { x with sendUnit := none }) (h3.congr rfl rfl rfl) (by decide)⟩
  by_contra hl
  obtain ⟨v, hv, hf⟩ := h2.locked.1 (by simpa using hl)
  cases hu.symm.trans hv
  exact absurd (hc.symm.trans hf) (by decide)

theorem Gear.Good.stopFetch {x : Gear} (h : x.Good) {u : CopyOut} (hu : x.fetchUnit = some u) (hc : u.cancelled = true) :
    (({ x with fetchUnit := none } : Gear).report .fetchStopped).Good := by
  obtain ⟨h1, h2, h3⟩ := h
  refine ⟨Gear.Rest.report (x := { x with fetchUnit := none }) ⟨h1.due, h1.buffers⟩ _,
    Gear.Send.report (x := { x with fetchUnit := none }) (h2.congr rfl rfl rfl) (by decide), Gear.fetch_stopped fun hl => ?_⟩
  obtain ⟨v, hv, hf⟩ := h3.reading.1 hl
  cases hu.symm.trans hv
  exact absurd (hc.symm.trans hf) (by decide)

/-! ## Block reads, on the view -/

theorem view_storeRead (s : State) (p : Port) (k : Nat) (b : BlockId) : (s.storeRead p k b).view = s.view := by
  unfold State.storeRead
  generalize s.blockWords b = words
  exact view_modPort s p _ rfl rfl rfl

theorem view_failActions (s : State) (p : Port) (r : RecId) (b : BlockId) : (s.failActions p r b).view = s.view := by
  unfold State.failActions
  rw [view_setPortCond, view_modPort _ p _ rfl rfl rfl, view_badMark]

theorem view_takeRead (s : State) (p : Port) (u : CopyOut) : (s.takeRead p u).view = s.view := by
  unfold State.takeRead
  split
  · rfl
  · split
    · rw [view_failActions, view_storeRead]
    · exact view_storeRead ..

theorem view_takeCancelledRead (s : State) (u : CopyOut) : (s.takeCancelledRead u).view = s.view := by
  unfold State.takeCancelledRead
  split
  · rfl
  · split
    · exact view_badMark ..
    · rfl

/-- A record that the view knows not to be FREE. -/
theorem message_of_view {s t : State} (h : t.view = s.view) {r : RecId} {m : Message} (hm : (s.record r).message? = some m) :
    ∃ m', (t.record r).message? = some m' := by
  have hn : (t.record r).norm = (s.record r).norm := congrFun (congrArg View.record h) r
  have ht := congrArg MsgRecord.message? hn
  rw [MsgRecord.norm_message?, MsgRecord.norm_message?, hm] at ht
  obtain ⟨m', hm', -⟩ := Option.map_eq_some_iff.1 ht
  exact ⟨m', hm'⟩

/-! ## The end of a block transfer: the units -/

section
variable {s : State} (h : s.Working) {p : Port}
include h

theorem working_sendTransferEnd {u : CopyIn} (hp : s.arbiter.inProgress = some (sendRequester p))
    (hu : (s.port p).sendUnit = some u) : ((s.freed.sendTransferEnd p u).grant).Working := by
  have hs1 : (s.freed.writePosition p u.record u.next).gears = s.gears := gears_of_cores (writePosition_cores ..)
  have ha1 : (s.freed.writePosition p u.record u.next).arbiter = s.arbiter.freed := writePosition_arbiter ..
  have hgu : (s.gears p).sendUnit = some u := hu
  refine working_grant ?_
  unfold State.sendTransferEnd
  simp only []
  split
  · next hc =>
    rw [cancelCopyIn_gears, cancelCopyIn_arbiter, hs1, ha1]
    exact h.1.endSend hp ((h.1.good p).stopSend hgu hc) rfl rfl
  · next hc =>
    have hc : u.cancelled = false := by simpa using hc
    obtain ⟨-, h8, hon⟩ := (h.1.good p).send.unit u hgu
    obtain ⟨hst, -, hl, hf, hr⟩ := h.1.on (hon hc)
    split
    · obtain ⟨o, hg⟩ := completeCopyIn_gears (s.freed.writePosition p u.record u.next) p u.record u.lifetime true
      rw [hg, completeCopyIn_arbiter, hs1, ha1]
      exact h.1.endSend hp (Gear.On.good ⟨hst, fun v hv => (by cases hv), by simp, hf, hr⟩) rfl rfl
    · next hrem =>
      have hx : Gear.On { s.gears p with sendUnit := some { u with next := u.next + 1, remaining := u.remaining - 1 } } := by
        refine ⟨hst, fun v hv => ?_, ?_, hf, hr⟩
        · cases hv
          refine ⟨?_, ?_, hc⟩ <;> simp only <;> omega
        · rw [hgu] at hl
          exact hl
      have hw := h.1.nextSend hp hx rfl rfl
      rw [← hs1, ← ha1] at hw
      have hg : ((s.freed.writePosition p u.record u.next).modPort p fun x =>
          { x with sendUnit := some { u with next := u.next + 1, remaining := u.remaining - 1 } }).gears =
          Function.update (s.freed.writePosition p u.record u.next).gears p
            { (s.freed.writePosition p u.record u.next).gears p with
              sendUnit := some { u with next := u.next + 1, remaining := u.remaining - 1 } } := gears_modPort ..
      rw [← hg] at hw
      exact hw

theorem working_fetchTransferEnd {u : CopyOut} (hp : s.arbiter.inProgress = some (fetchRequester p))
    (hu : (s.port p).fetchUnit = some u) (hr : ∃ m, (s.record u.record).message? = some m) :
    ((s.freed.fetchTransferEnd p u).grant).Working := by
  have hgu : (s.gears p).fetchUnit = some u := hu
  refine working_grant ?_
  unfold State.fetchTransferEnd
  simp only []
  split
  · next hc =>
    have hs1 : (s.freed.takeCancelledRead u).gears = s.gears := gears_of_cores (takeCancelledRead_cores ..)
    have ha1 : (s.freed.takeCancelledRead u).arbiter = s.arbiter.freed := takeCancelledRead_arbiter ..
    rw [cancelFetch_gears, cancelFetch_arbiter, hs1, ha1]
    exact h.1.endFetch hp ((h.1.good p).stopFetch hgu hc) rfl rfl
  · next hc =>
    have hc : u.cancelled = false := by simpa using hc
    obtain ⟨-, h8, hon⟩ := (h.1.good p).fetch.unit u hgu
    obtain ⟨hst, hsend, hl, -, hread⟩ := h.1.on (hon hc)
    obtain ⟨b, hb, hs1⟩ := takeRead_gears s.freed p u
    have ha1 : (s.freed.takeRead p u).arbiter = s.arbiter.freed := takeRead_arbiter ..
    have hb : b.state = (s.gears p).readBuffer.state := hb
    have hs1 : (s.freed.takeRead p u).gears = Function.update s.gears p { s.gears p with readBuffer := b } := hs1
    have hrec : ∃ m, ((s.freed.takeRead p u).record u.record).message? = some m := by
      obtain ⟨m, hm⟩ := hr
      exact message_of_view (view_takeRead s.freed p u) hm
    split
    · obtain ⟨m, hm⟩ := hrec
      obtain ⟨o, hg⟩ := completeFetch_gears p u.endpoint true hm
      rw [hg, completeFetch_arbiter, hs1, ha1, Function.update_self, Function.update_idem]
      refine h.1.endFetch hp (Gear.On.good ⟨hst, hsend, hl, fun v hv => (by cases hv), ?_⟩) rfl rfl
      exact ⟨fun hx => (by cases hx), fun hx => (by cases hx)⟩
    · next hrem =>
      have hx : Gear.On
          { s.gears p with
            readBuffer := b, fetchUnit := some { u with next := u.next + 1, remaining := u.remaining - 1 } } := by
        refine ⟨hst, hsend, hl, fun v hv => ?_, ?_⟩
        · cases hv
          refine ⟨?_, ?_, hc⟩ <;> simp only <;> omega
        · rw [hgu] at hread
          show b.state = .filling ↔ _
          rw [hb]
          exact hread
      have hw := h.1.nextFetch hp hx rfl rfl
      rw [← ha1] at hw
      have hg : ((s.freed.takeRead p u).modPort p fun x =>
          { x with fetchUnit := some { u with next := u.next + 1, remaining := u.remaining - 1 } }).gears =
          Function.update (s.freed.takeRead p u).gears p
            { (s.freed.takeRead p u).gears p with
              fetchUnit := some { u with next := u.next + 1, remaining := u.remaining - 1 } } := gears_modPort ..
      rw [hs1, Function.update_self, Function.update_idem] at hg
      rw [← hg] at hw
      exact hw

end

/-- The units and the arbiter through the end of the block transfer in progress. -/
theorem working_blockTransferEnd {s : State} (h : s.Working) (hv : s.view.Law) : s.blockTransferEnd.Working := by
  cases hp : s.arbiter.inProgress with
  | none =>
    rw [blockTransferEnd_idle hp]
    exact h
  | some q =>
    obtain ⟨p, rfl | rfl⟩ := requester_cases q
    · obtain ⟨u, hu⟩ := Option.isSome_iff_exists.1 ((h.1.send p).1 (.inr hp))
      rw [blockTransferEnd_send hp hu]
      exact working_sendTransferEnd h hp hu
    · obtain ⟨u, hu⟩ := Option.isSome_iff_exists.1 ((h.1.fetch p).1 (.inr hp))
      rw [blockTransferEnd_fetch hp hu]
      obtain ⟨m, dl, hr⟩ := fetch_record_live hv hu
      exact working_fetchTransferEnd h hp hu ⟨m, by rw [hr]; rfl⟩

/-! ## The end of a block transfer: the view -/

theorem law_sendTransferEnd {s : State} (h : s.view.Law) (hl : s.LinkLaw) {p : Port} {u : CopyIn}
    (hu : (s.port p).sendUnit = some u) : (s.sendTransferEnd p u).view.Law := by
  let s1 := s.writePosition p u.record u.next
  have hv1 : s1.view.Law := h.of_eq (view_writePosition ..)
  have hu1 : (s1.port p).sendUnit = some u := (sendUnit_of_cores (writePosition_cores ..) p).trans hu
  have hl1 : s1.LinkLaw := Moves.keep (fun _ _ => linkLaw_move) (writePosition_moves ..) hl
  unfold State.sendTransferEnd
  simp only []
  split
  · exact law_cancelCopyIn hv1 hu1
  · split
    · exact law_completeCopyIn hv1 hl1 hu1 _
    · next hrem =>
      rw [view_placeRequest]
      refine hv1.of_eq (view_modPort s1 p _ rfl ?_ rfl)
      rw [hu1]
      show some (u.record, (u.next + 1) + (u.remaining - 1), u.kind) = some (u.record, u.next + u.remaining, u.kind)
      rw [show u.next + 1 + (u.remaining - 1) = u.next + u.remaining by omega]

theorem law_fetchTransferEnd {s : State} (h : s.view.Law) {p : Port} {u : CopyOut} (hu : (s.port p).fetchUnit = some u) :
    (s.fetchTransferEnd p u).view.Law := by
  unfold State.fetchTransferEnd
  simp only []
  split
  · refine law_cancelFetch (h.of_eq (view_takeCancelledRead ..)) ?_
    exact (fetchUnit_of_cores (takeCancelledRead_cores ..) p).trans hu
  · have hv1 : (s.takeRead p u).view.Law := h.of_eq (view_takeRead ..)
    have hu1 : ((s.takeRead p u).port p).fetchUnit = some u := by
      obtain ⟨b, -, hg⟩ := takeRead_gears s p u
      have hx := congrArg Gear.fetchUnit (congrFun hg p)
      rw [Function.update_self] at hx
      exact hx.trans hu
    split
    · exact law_completeFetch hv1 hu1 _
    · next hrem =>
      rw [view_placeRequest]
      refine hv1.of_eq (view_modPort _ p _ rfl rfl ?_)
      rw [hu1]
      show some (u.record, (u.next + 1) + (u.remaining - 1)) = some (u.record, u.next + u.remaining)
      rw [show u.next + 1 + (u.remaining - 1) = u.next + u.remaining by omega]

theorem law_blockTransferEnd {s : State} (h : s.view.Law) (hl : s.LinkLaw) (hw : s.Working) :
    s.blockTransferEnd.view.Law := by
  cases hp : s.arbiter.inProgress with
  | none =>
    rw [blockTransferEnd_idle hp]
    exact h
  | some q =>
    obtain ⟨p, rfl | rfl⟩ := requester_cases q
    · obtain ⟨u, hu⟩ := Option.isSome_iff_exists.1 ((hw.1.send p).1 (.inr hp))
      rw [blockTransferEnd_send hp hu, view_grant]
      exact law_sendTransferEnd (s := s.freed) h hl hu
    · obtain ⟨u, hu⟩ := Option.isSome_iff_exists.1 ((hw.1.fetch p).1 (.inr hp))
      rw [blockTransferEnd_fetch hp hu, view_grant]
      exact law_fetchTransferEnd (s := s.freed) h hu

end Sys2Proof.Machine
end

section
/-! The laws of naming and holding through a lifetime expiry. -/

namespace Sys2Proof.Machine

/-! ## The entries of one record dropped -/

/-- The view without any entry of record r, and with n holders of it fewer. -/
def View.dropAll (v : View) (r : RecId) (n : Nat) : View where
  role e := (v.role e).withQueue ((v.role e).queue.filter (· ≠ r))
  record := Function.update v.record r ((v.record r).lower n)
  channel c := (v.channel c).mapLive (LiveChannel.refundedBy
    (v.lost (fun k => if k = r then n else 0) c .callerToCallee) (v.lost (fun k => if k = r then n else 0) c .calleeToCaller))
  group := v.group
  send := v.send
  fetch := v.fetch
  out := v.out

theorem count_filter_ne (q : List RecId) (r k : RecId) : (q.filter (· ≠ r)).count k = if k = r then 0 else q.count k := by
  by_cases hk : k = r
  · rw [if_pos hk, hk]
    exact List.count_eq_zero.2 fun h => by simp at h
  · rw [if_neg hk]
    exact List.count_filter (by simpa using hk)

theorem View.dropAll_entries (v : View) (r k : RecId) (n : Nat) : (v.dropAll r n).entries k = if k = r then 0 else v.entries k := by
  have hq (e : EpId) : (((v.dropAll r n).role e).queue).count k = if k = r then 0 else (v.role e).queue.count k := by
    rw [← count_filter_ne]
    exact congrArg (List.count k) (Role.queue_withQueue_of_sublist List.filter_sublist)
  unfold View.entries
  simp only [hq]
  split
  · simp
  · rfl

theorem View.dropAll_law {v : View} (h : v.Law) (r : RecId) : (v.dropAll r (v.entries r)).Law := by
  refine View.Dropped.law (n := fun k => if k = r then v.entries r else 0) h
    ⟨fun e => ⟨_, List.filter_sublist, rfl⟩, fun k => ?_, fun k => ?_, fun c => rfl, rfl, rfl, rfl, rfl⟩
  · rw [View.dropAll_entries]
    by_cases hk : k = r
    · rw [if_pos hk, if_pos hk, hk, Nat.zero_add]
    · rw [if_neg hk, if_neg hk, Nat.add_zero]
  · show Function.update v.record r _ k = _
    by_cases hk : k = r
    · rw [hk, Function.update_self, if_pos rfl]
    · rw [Function.update_of_ne hk, if_neg hk, h.holding.lower_zero]

/-! ## The expiry -/

theorem view_foldl_dropEntry (r : RecId) : ∀ (l : List EpId) (s : State), l.Nodup →
    (l.foldl (fun t e => t.modEndpoint e (Endpoint.dropEntry r)) s).view =
      { s.view with role := fun e => if e ∈ l then (s.role e).withQueue ((s.role e).queue.filter (· ≠ r)) else s.role e }
  | [], s, _ => rfl
  | a :: l, s, hn => by
    obtain ⟨ha, hl⟩ := List.nodup_cons.1 hn
    have hrole (e : EpId) : (s.modEndpoint a (Endpoint.dropEntry r)).role e =
        if e = a then (s.role a).withQueue ((s.role a).queue.filter (· ≠ r)) else s.role e := by
      have := congrFun (congrArg View.role (view_modEndpoint s a (Endpoint.dropEntry r))) e
      rwa [View.setRole_apply] at this
    rw [List.foldl_cons, view_foldl_dropEntry r l _ hl, view_modEndpoint]
    refine View.ext (funext fun e => ?_) rfl rfl rfl rfl rfl rfl
    show (if e ∈ l then ((s.modEndpoint a (Endpoint.dropEntry r)).role e).withQueue
        (((s.modEndpoint a (Endpoint.dropEntry r)).role e).queue.filter (· ≠ r))
      else (s.modEndpoint a (Endpoint.dropEntry r)).role e) =
      if e ∈ a :: l then (s.role e).withQueue ((s.role e).queue.filter (· ≠ r)) else s.role e
    rw [hrole]
    by_cases hea : e = a
    · subst hea
      rw [if_neg ha, if_pos rfl, if_pos List.mem_cons_self]
    · rw [if_neg hea]
      by_cases hel : e ∈ l
      · rw [if_pos hel, if_pos (List.mem_cons_of_mem _ hel)]
      · rw [if_neg hel, if_neg (by simp [hea, hel])]

theorem mem_holdersOf {s : State} {r : RecId} {e : EpId} : e ∈ s.holdersOf r ↔ r ∈ (s.role e).queue := by
  unfold State.holdersOf
  simp

theorem holdersOf_nodup (s : State) (r : RecId) : (s.holdersOf r).Nodup :=
  (List.nodup_finRange 32).filter _

/-- Every holder has the record once. -/
theorem holdersOf_length {s : State} (h : s.view.Law) (r : RecId) : (s.holdersOf r).length = s.view.entries r := by
  unfold State.holdersOf View.entries
  rw [finRange_filter_length]
  refine Finset.sum_congr rfl fun e _ => ?_
  show _ = (s.role e).queue.count r
  have hn : (s.role e).queue.Nodup := (h.holding.queue e).1
  rw [hn.count]
  simp

section
variable {s : State} (h : s.view.Law) {r : RecId} {m : Message} {d : Option Time} (hr : s.record r = .live m d)
include hr

/-- The entries gone, before the claim. -/
theorem view_entriesDropped :
    ((s.holdersOf r).foldl (fun t e => t.modEndpoint e (Endpoint.dropEntry r)) (s.setRecord r (.live m none))).view =
      { s.view with role := (s.view.dropAll r 0).role } := by
  have h1 : (s.setRecord r (.live m none)).view = s.view := by
    rw [view_setRecord]
    refine View.ext rfl (Function.update_eta _ _ _ _ ?_ fun _ _ => rfl) rfl rfl rfl rfl rfl
    exact view_record_live hr
  rw [view_foldl_dropEntry r _ _ (holdersOf_nodup s r), h1]
  refine View.ext (funext fun e => ?_) rfl rfl rfl rfl rfl rfl
  show (if e ∈ s.holdersOf r then _ else s.role e) = (s.role e).withQueue ((s.role e).queue.filter (· ≠ r))
  split
  · rfl
  · next he =>
    rw [List.filter_eq_self.2, Role.withQueue_self]
    intro k hk
    have hne : k ≠ r := fun x => he (mem_holdersOf.2 (x ▸ hk))
    simpa using hne

include h in
theorem law_expire : (s.expire r m).view.Law := by
  let s2 := (s.holdersOf r).foldl (fun t e => t.modEndpoint e (Endpoint.dropEntry r)) (s.setRecord r (.live m none))
  have h2 : s2.view = { s.view with role := (s.view.dropAll r 0).role } := view_entriesDropped hr
  have hlen := holdersOf_length h r
  have hrv := view_record_live hr
  have hchan (c : ChanId) : s2.channel c = s.channel c := by
    refine channel_congr ?_ c
    exact (foldl_channels _ (fun _ _ => modEndpoint_channels ..) _ _).trans (setRecord_channels ..)
  let s3 := s2.claim r (s.holdersOf r).length (some .expired) .expired
  have h3 : s3.view =
      { s.view with
        role := (s.view.dropAll r 0).role
        record := Function.update s.view.record r ((s.view.record r).lower (s.view.entries r)) } := by
    rw [show s3.view = _ from view_claim .., h2, hlen]
    rfl
  unfold State.expire
  simp only []
  split
  · next hnil =>
    refine h.of_eq (h2.trans ?_)
    refine View.ext (funext fun e => ?_) rfl rfl rfl rfl rfl rfl
    show (s.role e).withQueue ((s.role e).queue.filter (· ≠ r)) = s.role e
    rw [List.filter_eq_self.2, Role.withQueue_self]
    intro k hk
    have hne : k ≠ r := by
      rintro rfl
      have := mem_holdersOf.2 hk
      rw [hnil] at this
      cases this
    simpa using hne
  · next hsome =>
    have hpos : 1 ≤ s.view.entries r := by
      rw [← hlen]
      exact List.length_pos_of_ne_nil hsome
    obtain ⟨hcount, -, -, hone⟩ := h.holding.live r m.norm none hrv
    have hlaw := View.dropAll_law h r
    cases hk : m.link with
    | channel c e =>
      simp only []
      have h1 : s.view.entries r = 1 := by
        have := hone (by show Message.isGroup _ = false; unfold Message.isGroup; rw [show m.norm.link = _ from hk])
        omega
      show (s3.endMessageTransfer c e false).view.Law
      rw [endMessageTransfer_eq]
      refine law_drainTest (hlaw.of_eq ?_) c
      rw [view_setChannel, h3]
      refine View.ext rfl rfl (funext fun k => ?_) rfl rfl rfl rfl
      show Function.update s.view.channel c _ k = (s.view.channel k).mapLive (LiveChannel.refundedBy _ _)
      rw [View.lost_single s.view r hrv, View.lost_single s.view r hrv, h1, show m.norm.link = _ from hk, Channel.refund_eq]
      by_cases hkc : k = c
      · rw [hkc, Function.update_self, if_pos rfl, channel_congr (claim_channels ..), hchan, Channel.norm_withoutOne_false]
        rfl
      · rw [Function.update_of_ne hkc, if_neg hkc]
    | group g =>
      simp only []
      refine hlaw.of_eq (h3.trans ?_)
      refine View.ext rfl rfl (funext fun k => ?_) rfl rfl rfl rfl
      show s.view.channel k = (s.view.channel k).mapLive (LiveChannel.refundedBy _ _)
      rw [View.lost_single s.view r hrv, View.lost_single s.view r hrv, show m.norm.link = _ from hk, Channel.refund_none]

end

end Sys2Proof.Machine
end

section
/-! The laws of naming and holding through the shares of a port reset. -/

namespace Sys2Proof.Machine

/-! ## A share settles what it removes -/

section
variable {role' : EpId → Role} {out' : Port → ShareBlock → Prop} {v : View} (h : v.Law)
include h

/-- A block has taken its share: endpoints with no message left are IDLE, and nothing names what the share removes. -/
theorem View.Law.settle (hmono : ∀ p b, v.out p b → out' p b)
    (hrole : ∀ e, role' e = v.role e ∨ (v.role e).queue = [] ∧ role' e = .idle ∧ out' (portOf e) .endpointTable)
    (hidle : ∀ e, out' (portOf e) .endpointTable → role' e = .idle)
    (hchan : ∀ c, ∀ e ∈ (v.face c).ends, ¬out' (portOf e) .channelController)
    (hgroup : ∀ g a l, v.groupFace g = some (a, l) → ∀ e ∈ a :: l, ¬out' (portOf e) .groupController) :
    View.Law { v with role := role', out := out' } := by
  refine ⟨h.named.settle hmono (fun e => (hrole e).imp_right fun x => x.2) hidle hchan hgroup,
    h.holding.relink rfl rfl rfl (fun e => ?_) (fun e he => ?_) h.holding.account h.holding.copies⟩
  · show (role' e).queue = _
    rcases hrole e with hr | ⟨hq, hr, -⟩ <;> rw [hr]
    exact hq.symm
  · rcases hrole e with hr | ⟨hq, -, -⟩
    · show (role' e).depth = _ ∧ ∀ o k, _ → (role' e).Takes _ _ _ _ _
      rw [hr]
      exact ⟨rfl, fun _ _ hx => hx⟩
    · exact absurd hq he

/-- The same when no endpoint changes. -/
theorem View.Law.settle_same (hmono : ∀ p b, v.out p b → out' p b)
    (hidle : ∀ e, out' (portOf e) .endpointTable → v.role e = .idle)
    (hchan : ∀ c, ∀ e ∈ (v.face c).ends, ¬out' (portOf e) .channelController)
    (hgroup : ∀ g a l, v.groupFace g = some (a, l) → ∀ e ∈ a :: l, ¬out' (portOf e) .groupController) :
    View.Law { v with out := out' } :=
  h.settle (role' := v.role) hmono (fun _ => .inl rfl) hidle hchan hgroup

end

/-! ## Reports -/

/-- What a port has reported, before and after one report. -/
theorem out_report (s : State) (p q : Port) (r : Report) (b : ShareBlock) :
    (s.report p r).out q b ↔ s.out q b ∨ s.online q = false ∧ q = p ∧ r = .share b := by
  unfold State.out
  rw [online_report, awaits_report]
  by_cases hq : q = p <;> by_cases hr : r = .share b
  · subst hr
    simpa [hq] using fun h _ => h
  · have hb : ¬Report.share b = r := fun x => hr x.symm
    simp [hq, hr, hb]
  · simp [hq]
  · simp [hq]

theorem view_report (s : State) (p : Port) (r : Report) : (s.report p r).view = { s.view with out := (s.report p r).out } :=
  view_modPort_state _ _ _ rfl rfl

section
variable {s : State} (h : s.view.Law) {p : Port}
include h

/-- A report of a share after which nothing names what the share removes. -/
theorem law_report_share {b : ShareBlock}
    (hidle : b = .endpointTable → ∀ e, portOf e = p → s.role e = .idle)
    (hchan : b = .channelController → ∀ c, ∀ e ∈ (s.view.face c).ends, portOf e ≠ p)
    (hgroup : b = .groupController → ∀ g a l, s.view.groupFace g = some (a, l) → ∀ e ∈ a :: l, portOf e ≠ p) :
    (s.report p (.share b)).view.Law := by
  rw [view_report]
  refine h.settle_same (fun q k hq => (out_report ..).2 (.inl hq)) (fun e he => ?_) (fun c e he hx => ?_)
    fun g a l hg e he hx => ?_
  · rcases (out_report ..).1 he with hq | ⟨-, hp, hb⟩
    · exact h.named.idle e hq
    · cases hb
      exact hidle rfl e hp
  · rcases (out_report ..).1 hx with hq | ⟨-, hp, hb⟩
    · exact h.named.noEnd c e he hq
    · cases hb
      exact hchan rfl c e he hp
  · rcases (out_report ..).1 hx with hq | ⟨-, hp, hb⟩
    · exact h.named.noMember g a l hg e he hq
    · cases hb
      exact hgroup rfl g a l hg e he hp

end

/-! ## The shares without links -/

theorem norm_withoutReceiptAt (p : Port) (m : Message) : (m.withoutReceiptAt p).norm = m.norm := by
  unfold Message.withoutReceiptAt
  split <;> rfl

theorem view_memoryManagerShare (s : State) (p : Port) : (s.memoryManagerShare p).view = s.view :=
  view_eq rfl (fun _ => rfl)
    (fun r => by rw [memoryManagerShare_record, norm_modMessage_of_norm (norm_withoutReceiptAt p)])
    (fun _ => rfl) fun _ => rfl

theorem view_receiptUnitShare (s : State) (p : Port) : (s.receiptUnitShare p).view = s.view :=
  view_modPort _ _ _ rfl rfl rfl

theorem view_attentionShare (s : State) (p : Port) : (s.attentionShare p).view = s.view :=
  view_modPort _ _ _ rfl rfl rfl

/-! ## The Endpoint Table's share -/

theorem length_filter_eq_sum {α : Type} [Fintype α] [DecidableEq α] (P : α → Prop) [DecidablePred P] :
    ∀ l : List α, (l.filter fun a => P a).length = ∑ a, if P a then l.count a else 0
  | [] => by simp
  | b :: l => by
    have hsum : ∑ a, (if P a then (b :: l).count a else 0) =
        ∑ a, (if P a then l.count a else 0) + ∑ a, if a = b then (if P b then 1 else 0) else 0 := by
      rw [← Finset.sum_add_distrib]
      refine Finset.sum_congr rfl fun a _ => ?_
      rw [List.count_cons]
      by_cases hb : a = b
      · subst hb
        by_cases hP : P a <;> simp [hP]
      · have hb' : ¬b = a := fun x => hb x.symm
        simp [hb, hb']
    rw [hsum, ← length_filter_eq_sum P l, Finset.sum_ite_eq' Finset.univ b, if_pos (Finset.mem_univ b)]
    by_cases hP : P b <;> simp [hP]

theorem lost_gone_eq_entriesOn (s : State) {l : List EpId} (hl : l.Nodup) (c : ChanId) (d : Dirn) :
    s.view.lost (s.view.gone l) c d = s.entriesOn (s.entriesOf l) c d := by
  unfold State.entriesOn
  rw [length_filter_eq_sum fun r => (s.record r).message?.map Message.link = some (.channel c d)]
  refine Finset.sum_congr rfl fun r _ => ?_
  rw [view_link, count_entriesOf s hl]
  rfl

theorem Channel.norm_refundedBy (x : Channel) (n n' : Nat) :
    (x.mapLive (LiveChannel.refundedBy n n')).norm = x.norm.mapLive (LiveChannel.refundedBy n n') := by
  cases x <;> rfl

/-- A view given part by part. -/
theorem view_of_parts {t : State} {v : View} (hrole : ∀ e, (t.endpoint e).role = v.role e)
    (hrecord : ∀ r, (t.record r).norm = v.record r) (hchannel : ∀ c, (t.channel c).norm = v.channel c)
    (hgroup : ∀ g, (t.group g).norm = v.group g) (hsend : ∀ p, (t.port p).sendUnit.map CopyIn.span = v.send p)
    (hfetch : ∀ p, (t.port p).fetchUnit.map CopyOut.span = v.fetch p) (hout : t.out = v.out) : t.view = v :=
  View.ext (funext hrole) (funext hrecord) (funext hchannel) (funext hgroup) (funext hsend) (funext hfetch) hout

theorem endpointsOf_nodup (p : Port) : (endpointsOf p).Nodup := by
  revert p
  decide

section
variable {s : State} (h : s.view.Law) {p : Port}
include h

theorem not_filling_of_entry {l : List EpId} {r : RecId} (hr : r ∈ s.entriesOf l) (m : Message) : s.record r ≠ .filling m := by
  obtain ⟨e, -, he⟩ := mem_entriesOf.1 hr
  obtain ⟨m', dl, hm, -⟩ := h.holding.entry e r he
  intro hx
  change (s.record r).norm = _ at hm
  rw [hx] at hm
  cases hm

/-- The credits go first; they are no part of what the discard does to the records. -/
theorem tableDiscarded_record_eq (r : RecId) : (s.tableDiscarded p).record r = (s.bulkDiscard (endpointsOf p)).record r := by
  obtain ⟨he, hrec, -⟩ := refunded_frame s p
  have hent : (s.refunded p).entriesOf (endpointsOf p) = s.entriesOf (endpointsOf p) :=
    (refunded_entries s p).trans (entriesOf_endpointsOf s p).symm
  by_cases hr : r ∈ s.entriesOf (endpointsOf p)
  · have hx := not_filling_of_entry h hr
    rw [State.tableDiscarded, bulkDiscard_record (by rw [record_congr hrec]; exact hx), bulkDiscard_record hx,
      record_congr hrec, hent]
  · rw [tableDiscarded_record_notin hr, bulkDiscard_record_notin s _ hr]

theorem view_endpointTableShare : (s.endpointTableShare p).view =
    { s.view.discard (endpointsOf p) with role := fun e => if portOf e = p then .idle else s.role e } := by
  refine view_of_parts (fun e => ?_) (fun r => ?_) (fun c => ?_) (fun g => ?_) (fun q => ?_) (fun q => ?_) ?_
  · rw [endpointTableShare_endpoint]
    split
    · next hp => exact (if_pos hp).symm
    · next hp => exact (if_neg hp).symm
  · rw [endpointTableShare_record, tableDiscarded_record_eq h]
    exact norm_bulkDiscard h (endpointsOf_nodup p) r
  · rw [endpointTableShare_channel, Channel.norm_refundedBy, ← lost_gone_eq_entriesOn s (endpointsOf_nodup p),
      ← lost_gone_eq_entriesOn s (endpointsOf_nodup p)]
    rfl
  · exact congrArg Group.norm (group_congr (endpointTableShare_groups ..) g)
  · exact congrArg (Option.map CopyIn.span) (endpointTableShare_part PortRec.sendUnit
      (fun _ _ hx => congrArg (·.2.2.2.2.2.1) hx) (fun _ _ => rfl) s p q)
  · exact congrArg (Option.map CopyOut.span) (endpointTableShare_part PortRec.fetchUnit
      (fun _ _ hx => congrArg (·.2.2.2.2.2.2.2.2.1) hx) (fun _ _ => rfl) s p q)
  · funext q
    exact out_of_state (endpointTableShare_part PortRec.state (fun _ _ hx => congrArg (·.1) hx) (fun _ _ => rfl) s p q)

/-- The endpoints of the port are IDLE and their entries discarded; the report follows. -/
theorem law_report_table {t : State} (ho : t.online p = false)
    (hv : t.view = { s.view.discard (endpointsOf p) with role := fun e => if portOf e = p then .idle else s.role e }) :
    (t.report p (.share .endpointTable)).view.Law := by
  have hto : t.out = s.out := congrArg View.out hv
  have hd := (s.view.discard_dropped (endpointsOf p)).law h
  have hout {q : Port} {b : ShareBlock} : (t.report p (.share .endpointTable)).out q b ↔
      s.out q b ∨ q = p ∧ b = .endpointTable := by
    rw [out_report, hto]
    refine or_congr Iff.rfl ⟨fun ⟨_, h1, h2⟩ => ⟨h1, by cases h2; rfl⟩, fun ⟨h1, h2⟩ => ⟨h1 ▸ ho, h1, by rw [h2]⟩⟩
  rw [view_report, hv]
  refine hd.settle (fun q b hq => hout.2 (.inl hq)) (fun e => ?_) (fun e he => ?_) (fun c e he hx => ?_)
    fun g a l hg e he hx => ?_
  · by_cases he : portOf e = p
    · refine .inr ⟨?_, if_pos he, hout.2 (.inr ⟨he, rfl⟩)⟩
      rw [View.discard_queue, if_pos (mem_endpointsOf.2 he)]
    · refine .inl ((if_neg he).trans (if_neg fun hm => he (mem_endpointsOf.1 hm)).symm)
  · by_cases hp' : portOf e = p
    · exact if_pos hp'
    · refine (if_neg hp').trans ?_
      exact h.named.idle e ((hout.1 he).resolve_right fun hx => hp' hx.1)
  · exact hd.named.noEnd c e he ((hout.1 hx).resolve_right fun hx => by cases hx.2)
  · exact hd.named.noMember g a l hg e he ((hout.1 hx).resolve_right fun hx => by cases hx.2)

theorem law_endpointTableShare (hp : s.online p = false) :
    ((s.endpointTableShare p).report p (.share .endpointTable)).view.Law :=
  law_report_table h
    ((online_congr (endpointTableShare_part PortRec.state (fun _ _ hx => congrArg (·.1) hx) (fun _ _ => rfl) s p p)).trans hp)
    (view_endpointTableShare h)

/-! ## The Channel Controller's share -/

theorem law_resetChannel (hp : s.online p = false) (c : ChanId) : (State.resetChannel p s c).view.Law := by
  by_cases hc : (s.channel c).EndsAt p
  · rcases resetChannel_of_endsAt hp hc with ⟨a, b, o, d, hx, -, heq⟩ | ⟨l, cl, hl, -, -, -, -, heq⟩
    · rw [heq]
      refine law_withdrawn h _ hx ?_ ?_
      · rw [view_failCaller, view_setChannel]
        rfl
      · exact (failCaller_onlyTells _ a .peerReset).online _
    · rw [heq]
      exact law_teardownLive h cl _ _ hl
  · rw [resetChannel_of_not_endsAt hc]
    exact h

end

theorem law_resetChannels {p : Port} : ∀ (l : List ChanId) {s : State}, s.view.Law → s.online p = false →
    (l.foldl (State.resetChannel p) s).view.Law
  | [], _, h, _ => h
  | c :: l, _, h, hp => law_resetChannels l (law_resetChannel h hp c) (resetChannel_offline hp c)

theorem Channel.endsAt_of_mem {x : Channel} {p : Port} {e : EpId} (he : e ∈ x.ends) (hp : portOf e = p) : x.EndsAt p := by
  have ends {a b : EpId} (he : e ∈ [a, b]) : portOf a = p ∨ portOf b = p := by
    rcases List.mem_pair.1 he with rfl | rfl
    · exact .inl hp
    · exact .inr hp
  cases x with
  | requested a b o d => exact ends he
  | opened l => exact ends he
  | draining l cl d => exact ends he
  | free => cases he
  | aborting a b cl k => cases he

/-- No channel has an end at the port; the report follows. -/
theorem law_report_channels {t : State} (h : t.view.Law) {p : Port} (hc : ∀ c, ¬(t.channel c).EndsAt p) :
    (t.report p (.share .channelController)).view.Law := by
  refine law_report_share h (fun e => by cases e) (fun _ c e he hx => ?_) fun e => by cases e
  have he' : e ∈ (t.channel c).ends := by
    rw [← Channel.ends_eq]
    rwa [view_face] at he
  exact hc c (Channel.endsAt_of_mem he' hx)

theorem law_channelControllerShare {s : State} (h : s.view.Law) {p : Port} (hp : s.online p = false) :
    ((s.channelControllerShare p).report p (.share .channelController)).view.Law := by
  refine law_report_channels (t := s.channelControllerShare p) (law_resetChannels _ h hp) fun c => ?_
  have hc : (s.channelControllerShare p).channel c = (s.channel c).afterReset p :=
    (resetChannels_channel c _ hp).trans (if_pos (List.mem_finRange c))
  rw [hc]
  exact Channel.afterReset_not_endsAt p _

/-! ## The Group Controller's share -/

theorem law_resetGroup {s : State} (h : s.view.Law) (p : Port) (g : GroupId) : (State.resetGroup p s g).view.Law := by
  rcases resetGroup_cases s p g with ⟨-, -, -, heq⟩ | ⟨x, hg, ⟨-, heq⟩ | ⟨-, -, heq⟩⟩ <;> rw [heq]
  · exact h
  · exact law_dissolve h hg
  · exact law_removeMembers h hg ((members_nodup h hg).1.filter _) fun e he => List.mem_of_mem_filter he

theorem law_resetGroups (p : Port) : ∀ (l : List GroupId) {s : State}, s.view.Law → (l.foldl (State.resetGroup p) s).view.Law
  | [], _, h => h
  | g :: l, _, h => law_resetGroups p l (law_resetGroup h p g)

/-- No group has an endpoint at the port; the report follows. -/
theorem law_report_groups {t : State} (h : t.view.Law) {p : Port} (hg : ∀ g, (t.group g).leaving p = []) :
    (t.report p (.share .groupController)).view.Law := by
  refine law_report_share h (fun e => by cases e) (fun e => by cases e) fun _ g a l hface e he hx => ?_
  obtain ⟨y, hy, rfl, rfl⟩ := Group.face_eq_some.1 (show (t.group g).face = _ by rw [view_groupFace] at hface; exact hface)
  have hnil := hg g
  rw [hy, leaving_active] at hnil
  split at hnil
  · cases hnil
  · next hpub =>
    rcases List.mem_cons.1 he with rfl | hm
    · exact hpub hx
    · exact absurd hx (by simpa using List.filter_eq_nil_iff.1 hnil e hm)

theorem law_groupControllerShare {s : State} (h : s.view.Law) (p : Port) :
    ((s.groupControllerShare p).report p (.share .groupController)).view.Law := by
  refine law_report_groups (t := s.groupControllerShare p) (law_resetGroups p _ h) fun g => ?_
  have hgr : (s.groupControllerShare p).group g = (s.group g).afterReset p :=
    (resetGroups_group p g _ s).trans (if_pos (List.mem_finRange g))
  rw [hgr]
  exact leaving_afterReset p _

/-! ## All shares -/

theorem law_takeShare {s : State} (h : s.view.Law) (p : Port) (b : ShareBlock) : (s.takeShare p b).view.Law := by
  cases ha : s.awaits p (.share b) with
  | false => rwa [takeShare_not_due ha]
  | true =>
    rw [takeShare_due ha]
    have hp := offline_of_awaits ha
    cases b with
    | memoryManager =>
      exact law_report_share (h.of_eq (view_memoryManagerShare s p)) (fun e => by cases e) (fun e => by cases e)
        fun e => by cases e
    | endpointTable => exact law_endpointTableShare h hp
    | channelController => exact law_channelControllerShare h hp
    | groupController => exact law_groupControllerShare h p
    | receiptUnit =>
      exact law_report_share (h.of_eq (view_receiptUnitShare s p)) (fun e => by cases e) (fun e => by cases e)
        fun e => by cases e
    | attention =>
      exact law_report_share (h.of_eq (view_attentionShare s p)) (fun e => by cases e) (fun e => by cases e)
        fun e => by cases e

theorem law_takeShares (p : Port) : ∀ (l : List ShareBlock) {s : State}, s.view.Law → (l.foldl (State.takeShare p) s).view.Law
  | [], _, h => h
  | b :: l, _, h => law_takeShares p l (law_takeShare h p b)

end Sys2Proof.Machine
end

section
/-! The laws of naming and holding through the entry into RESETTING and the changes of a port's state. -/

namespace Sys2Proof.Machine

/-- Ports come into use, or owe their shares again. -/
theorem View.Law.reopen {v : View} (h : v.Law) {out' : Port → ShareBlock → Prop} (hle : ∀ p b, out' p b → v.out p b)
    (hnew : ∀ p, v.out p .endpointTable → ¬out' p .endpointTable → v.out p .channelController ∧ v.out p .groupController) :
    View.Law { v with out := out' } :=
  ⟨h.named.reopen hle hnew, h.holding.relink rfl rfl rfl (fun _ => rfl) (fun _ _ => ⟨rfl, fun _ _ hx => hx⟩)
    h.holding.account h.holding.copies⟩

section
variable {s : State} (h : s.view.Law) {p : Port}
include h

/-- The state of a port changes from one in which all shares are taken, or none can be. -/
theorem law_modPort_state {f : PortRec → PortRec} (h1 : (f (s.port p)).sendUnit = (s.port p).sendUnit)
    (h2 : (f (s.port p)).fetchUnit = (s.port p).fetchUnit) (hst : (s.port p).state.isResetting = false)
    (hout : ∀ b, (s.modPort p f).out p b → s.out p b) : (s.modPort p f).view.Law := by
  rw [view_modPort_state s p f h1 h2]
  have hne {q : Port} (hq : q ≠ p) : (s.modPort p f).out q = s.out q := out_of_state (by rw [port_modPort_ne _ _ hq])
  refine h.reopen (fun q b hx => ?_) fun q hx hx' => ?_
  · by_cases hq : q = p
    · subst hq
      exact hout b hx
    · rwa [hne hq] at hx
  · by_cases hq : q = p
    · subst hq
      have all (b : ShareBlock) : s.out q b := by
        refine ⟨hx.1, ?_⟩
        cases ha : s.awaits q (.share b) with
        | false => rfl
        | true => exact absurd ((isResetting_of_awaits ha).symm.trans hst) (by decide)
      exact ⟨all _, all _⟩
    · rw [hne hq] at hx'
      exact absurd hx hx'

/-- ONLINE (R150). -/
theorem law_goOnline (hst : (s.port p).state.isResetting = false) :
    (s.modPort p fun x => { x with state := .online }).view.Law := by
  refine law_modPort_state h rfl rfl hst fun b hx => ?_
  have ho := hx.1
  unfold State.online at ho
  rw [port_modPort_self] at ho
  cases ho

/-- The entry into RESETTING: every report is due (R153). -/
theorem law_allDue (d : Bool) (hst : (s.port p).state.isResetting = false) :
    (s.modPort p fun x => { x with state := .resetting d allReports }).view.Law := by
  refine law_modPort_state h rfl rfl hst fun b hx => ?_
  have ha := hx.2
  unfold State.awaits at ha
  rw [port_modPort_self] at ha
  cases b <;> cases ha

theorem law_stopSendUnit : (s.stopSendUnit p).view.Law := by
  unfold State.stopSendUnit
  cases hu : (s.port p).sendUnit with
  | none => exact h.of_eq (view_report_unit s p (by simp))
  | some u =>
    simp only []
    split
    · refine h.of_eq (view_modPort s p _ rfl ?_ rfl)
      rw [hu]
      rfl
    · exact law_cancelCopyIn (s := s.dropRequest (sendRequester p)) (h.of_eq (view_dropRequest ..)) hu

theorem law_stopFetchUnit : (s.stopFetchUnit p).view.Law := by
  unfold State.stopFetchUnit
  cases hu : (s.port p).fetchUnit with
  | none => exact h.of_eq (view_report_unit s p (by simp))
  | some u =>
    simp only []
    split
    · refine h.of_eq (view_modPort s p _ rfl rfl ?_)
      rw [hu]
      rfl
    · exact law_cancelFetch (s := s.dropRequest (fetchRequester p)) (h.of_eq (view_dropRequest ..)) hu

end

/-- The state of the entry event when the shares begin (R153). -/
def State.entered (s : State) (p : Port) (d : Bool) : State :=
  let s1 := s.modPort p fun x => { x with state := .resetting d allReports }
  let s2 := if s.online p then s1.tellPeers p else s1
  ((s2.modPort p PortRec.clearBuffers).stopSendUnit p).stopFetchUnit p

theorem enterReset_eq (s : State) (p : Port) (d : Bool) (l : List ShareBlock) :
    s.enterReset p d l = (l.foldl (State.takeShare p) (s.entered p d)).reevaluateAll := rfl

theorem law_enterReset {s : State} (h : s.view.Law) {p : Port} (d : Bool) (l : List ShareBlock)
    (hst : (s.port p).state.isResetting = false) : (s.enterReset p d l).view.Law := by
  rw [enterReset_eq, view_reevaluateAll]
  refine law_takeShares p l (law_stopFetchUnit (law_stopSendUnit ?_))
  rw [view_modPort _ p PortRec.clearBuffers rfl rfl rfl]
  split
  · exact (law_allDue h d hst).of_eq (view_tellPeers ..)
  · exact law_allDue h d hst

/-- DISABLE_PORT of a port in RESETTING leaves what it has reported (R157). -/
theorem view_pendDisable (s : State) (p : Port) :
    (s.modPort p fun x => { x with state := x.state.pendDisable }).view = s.view := by
  rw [view_modPort_state _ p _ rfl rfl]
  have ho : (s.modPort p fun x => { x with state := x.state.pendDisable }).out = s.out := by
    funext q
    by_cases hq : q = p
    · subst hq
      unfold State.out State.online State.awaits
      rw [port_modPort_self]
      cases (s.port q).state <;> rfl
    · exact out_of_state (by rw [port_modPort_ne _ _ hq])
  rw [ho]
  rfl

/-- ENABLE_PORT takes a port from DISABLED to OFFLINE, where it has nothing to report either (R156). -/
theorem view_enable {s : State} {p : Port} (hst : (s.port p).state = .disabled) :
    (s.modPort p fun x => { x with state := .offline }).view = s.view := by
  rw [view_modPort_state _ p _ rfl rfl]
  have ho : (s.modPort p fun x => { x with state := .offline }).out = s.out := by
    funext q
    by_cases hq : q = p
    · subst hq
      unfold State.out State.online State.awaits
      rw [port_modPort_self, hst]
      rfl
    · exact out_of_state (by rw [port_modPort_ne _ _ hq])
  rw [ho]
  rfl

end Sys2Proof.Machine
end

section
/-! The transfer units and the arbiter through a port reset. -/

namespace Sys2Proof.Machine

/-! ## A unit that the reset has not reached yet -/

/-- The Send Unit owes its stop: it is IDLE, or at work and not cancelled, and its buffer is unlocked. -/
structure Gear.SendDue (x : Gear) : Prop where
  unit : ∀ u, x.sendUnit = some u → 1 ≤ u.remaining ∧ u.remaining ≤ 8
  unlocked : x.locked = false
  due : x.state.due .sendStopped = true

/-- The Fetch Unit owes its stop. -/
structure Gear.FetchDue (x : Gear) : Prop where
  unit : ∀ u, x.fetchUnit = some u → 1 ≤ u.remaining ∧ u.remaining ≤ 8
  unread : x.readBuffer.state ≠ .filling
  due : x.state.due .fetchStopped = true

theorem Gear.FetchDue.report {x : Gear} (h : x.FetchDue) {r : Report} (hr : r ≠ .fetchStopped) : (x.report r).FetchDue := by
  refine ⟨h.unit, h.unread, ?_⟩
  show (x.state.afterReport r).due _ = true
  rw [due_afterReport, h.due, decide_eq_false hr.symm]
  rfl

theorem Gear.FetchDue.congr {x y : Gear} (h : x.FetchDue) (hs : y.state = x.state) (hb : y.readBuffer = x.readBuffer)
    (hu : y.fetchUnit = x.fetchUnit) : y.FetchDue := by
  refine ⟨?_, ?_, ?_⟩
  · rw [hu]
    exact h.unit
  · rw [hb]
    exact h.unread
  · rw [hs]
    exact h.due

/-- A Send Unit cancelled while its block transfer is in progress reports later. -/
theorem Gear.SendDue.cancel {x : Gear} (h : x.SendDue) {u : CopyIn} (hu : x.sendUnit = some u) :
    Gear.Send { x with sendUnit := some { u with cancelled := true } } := by
  obtain ⟨h1, h2⟩ := h.unit u hu
  refine ⟨fun y hy => ?_, ?_, ?_⟩
  · cases hy
    exact ⟨h1, h2, fun hc => by cases hc⟩
  · show x.locked = true ↔ _
    rw [h.unlocked]
    refine ⟨fun hx => (by cases hx), fun ⟨y, hy, hc⟩ => ?_⟩
    cases hy
    cases hc
  · exact ⟨fun _ => ⟨_, rfl, rfl⟩, fun _ => h.due⟩

theorem Gear.FetchDue.cancel {x : Gear} (h : x.FetchDue) {u : CopyOut} (hu : x.fetchUnit = some u) :
    Gear.Fetch { x with fetchUnit := some { u with cancelled := true } } := by
  obtain ⟨h1, h2⟩ := h.unit u hu
  refine ⟨fun y hy => ?_, ?_, ?_⟩
  · cases hy
    exact ⟨h1, h2, fun hc => by cases hc⟩
  · refine ⟨fun hx => absurd hx h.unread, fun ⟨y, hy, hc⟩ => ?_⟩
    cases hy
    cases hc
  · exact ⟨fun _ => ⟨_, rfl, rfl⟩, fun _ => h.due⟩

/-! ## The stops -/

/-- In the entry event: all is well but for the units of port p. -/
structure State.Stopping (s : State) (p : Port) : Prop where
  asks : Asks s.arbiter s.gears
  law : s.arbiter.Law
  others : ∀ q, q ≠ p → (s.gears q).Good
  rest : (s.gears p).Rest

theorem State.Stopping.working {s : State} {p : Port} (h : s.Stopping p) (hs : (s.gears p).Send) (hf : (s.gears p).Fetch) :
    s.Working := by
  refine ⟨⟨h.asks, fun q => ?_⟩, h.law⟩
  by_cases e : q = p
  · rw [e]
    exact ⟨h.rest, hs, hf⟩
  · exact h.others q e

/-- One more change of the port. -/
theorem State.Stopping.next {s t : State} {p : Port} {x : Gear} (h : s.Stopping p) (hg : t.gears = Function.update s.gears p x)
    (hx : x.Rest) (ha : Asks t.arbiter (Function.update s.gears p x)) (hl : t.arbiter.Law) : t.Stopping p := by
  refine ⟨by rw [hg]; exact ha, hl, fun q hq => ?_, ?_⟩
  · rw [hg, Function.update_of_ne hq]
    exact h.others q hq
  · rw [hg, Function.update_self]
    exact hx

theorem Arbiter.law_drop {a : Arbiter} (h : a.Law) (q : Requester) : (a.drop q).Law := by
  refine ⟨fun hn k => ?_, Arbiter.single_drop h.2 q⟩
  have hk := h.1 hn k
  show (a.waiting.set q false)[k] = false
  by_cases e : q = k
  · subst e
    simp
  · have hv : q.val ≠ k.val := fun x => e (Fin.ext x)
    simpa [hv] using hk

theorem Asks.dropSend {a : Arbiter} {g : Port → Gear} (h : Asks a g) {p : Port} {x : Gear}
    (hq : a.inProgress ≠ some (sendRequester p)) (hs : x.sendUnit = none) (hf : x.fetchUnit = (g p).fetchUnit) :
    Asks (a.drop (sendRequester p)) (Function.update g p x) := by
  refine h.changeSend hf (Arbiter.single_drop h.single _) (fun q hne => ?_) ?_ (fun u hu => ?_) fun q _ hx => hx
  · rw [Arbiter.wants_drop _ _ _ hq]
    exact and_iff_right hne
  · rw [Arbiter.wants_drop _ _ _ hq, hs]
    simp
  · rw [hs] at hu
    cases hu

theorem Asks.dropFetch {a : Arbiter} {g : Port → Gear} (h : Asks a g) {p : Port} {x : Gear}
    (hq : a.inProgress ≠ some (fetchRequester p)) (hf : x.fetchUnit = none) (hs : x.sendUnit = (g p).sendUnit) :
    Asks (a.drop (fetchRequester p)) (Function.update g p x) := by
  refine h.changeFetch hs (Arbiter.single_drop h.single _) (fun q hne => ?_) ?_ (fun u hu => ?_) fun q _ hx => hx
  · rw [Arbiter.wants_drop _ _ _ hq]
    exact and_iff_right hne
  · rw [Arbiter.wants_drop _ _ _ hq, hf]
    simp
  · rw [hf] at hu
    cases hu

section
variable {s : State} {p : Port} (h : s.Stopping p)
include h

/-- The Send Unit takes the reset (R72). -/
theorem State.Stopping.stopSend (hd : (s.gears p).SendDue) (hf : (s.gears p).FetchDue) :
    (s.stopSendUnit p).Stopping p ∧ ((s.stopSendUnit p).gears p).Send ∧ ((s.stopSendUnit p).gears p).FetchDue := by
  have at_p {t : State} {x : Gear} (hg : t.gears = Function.update s.gears p x) (hx : x.Rest)
      (ha : Asks t.arbiter (Function.update s.gears p x)) (hl : t.arbiter.Law) (h1 : x.Send) (h2 : x.FetchDue) :
      t.Stopping p ∧ (t.gears p).Send ∧ (t.gears p).FetchDue := by
    refine ⟨h.next hg hx ha hl, ?_⟩
    rw [hg, Function.update_self]
    exact ⟨h1, h2⟩
  unfold State.stopSendUnit
  cases hu : (s.port p).sendUnit with
  | none =>
    have heq : s.gears p = { s.gears p with sendUnit := none } := by rw [← hu]; rfl
    refine at_p (gears_report s p .sendStopped) (h.rest.report _) (h.asks.tune rfl rfl) h.law ?_ (hf.report (by simp))
    rw [heq]
    exact Gear.send_stopped hd.unlocked
  | some u =>
    simp only []
    split
    · next hp =>
      refine at_p (gears_modPort ..) ⟨h.rest.due, h.rest.buffers⟩ ?_ h.law (hd.cancel (u := u) hu) (hf.congr rfl rfl rfl)
      refine h.asks.changeSend rfl h.asks.single (fun _ _ => Iff.rfl) ?_ (fun _ _ _ => hp) fun _ _ hx => hx
      refine (h.asks.send p).trans ?_
      rw [show (s.gears p).sendUnit = _ from hu]
      exact Iff.rfl
    · next hp =>
      refine at_p (cancelCopyIn_gears ..) (Gear.Rest.report (x := { s.gears p with sendUnit := none }) ⟨h.rest.due, h.rest.buffers⟩ _)
        ?_ ?_ (Gear.send_stopped hd.unlocked) (Gear.FetchDue.report (x := { s.gears p with sendUnit := none }) (hf.congr rfl rfl rfl) (by simp))
      · rw [cancelCopyIn_arbiter]
        exact h.asks.dropSend hp rfl rfl
      · rw [cancelCopyIn_arbiter]
        exact Arbiter.law_drop h.law _

/-- The Fetch Unit takes the reset (R86). -/
theorem State.Stopping.stopFetch (hs : (s.gears p).Send) (hf : (s.gears p).FetchDue) : (s.stopFetchUnit p).Working := by
  have at_p {t : State} {x : Gear} (hg : t.gears = Function.update s.gears p x) (hx : x.Rest)
      (ha : Asks t.arbiter (Function.update s.gears p x)) (hl : t.arbiter.Law) (h1 : x.Send) (h2 : x.Fetch) : t.Working := by
    refine (h.next hg hx ha hl).working ?_ ?_
    · rw [hg, Function.update_self]
      exact h1
    · rw [hg, Function.update_self]
      exact h2
  unfold State.stopFetchUnit
  cases hu : (s.port p).fetchUnit with
  | none =>
    have heq : s.gears p = { s.gears p with fetchUnit := none } := by rw [← hu]; rfl
    refine at_p (gears_report s p .fetchStopped) (h.rest.report _) (h.asks.tune rfl rfl) h.law (hs.report (by simp)) ?_
    rw [heq]
    exact Gear.fetch_stopped hf.unread
  | some u =>
    simp only []
    split
    · next hp =>
      refine at_p (gears_modPort ..) ⟨h.rest.due, h.rest.buffers⟩ ?_ h.law (hs.congr rfl rfl rfl) (hf.cancel (u := u) hu)
      refine h.asks.changeFetch rfl h.asks.single (fun _ _ => Iff.rfl) ?_ (fun _ _ _ => hp) fun _ _ hx => hx
      refine (h.asks.fetch p).trans ?_
      rw [show (s.gears p).fetchUnit = _ from hu]
      exact Iff.rfl
    · next hp =>
      refine at_p (cancelFetch_gears ..) (Gear.Rest.report (x := { s.gears p with fetchUnit := none }) ⟨h.rest.due, h.rest.buffers⟩ _)
        ?_ ?_ (Gear.Send.report (x := { s.gears p with fetchUnit := none }) (hs.congr rfl rfl rfl) (by simp)) (Gear.fetch_stopped hf.unread)
      · rw [cancelFetch_arbiter]
        exact h.asks.dropFetch hp rfl rfl
      · rw [cancelFetch_arbiter]
        exact Arbiter.law_drop h.law _

end

/-! ## The shares -/

theorem gear_of_core (x y : PortRec) (h : x.core = y.core) : x.gear = y.gear := by
  simp only [PortRec.core, Prod.mk.injEq] at h
  unfold PortRec.gear
  simp [h]

theorem shareOf_gears (s : State) (p : Port) (b : ShareBlock) : (s.shareOf p b).gears = s.gears := by
  cases b with
  | memoryManager => exact gears_of_cores (memoryManagerShare_cores s p)
  | endpointTable =>
    funext q
    exact endpointTableShare_part PortRec.gear gear_of_core (fun _ _ => rfl) s p q
  | channelController => exact gears_of_cores (channelControllerShare_cores s p)
  | groupController => exact gears_of_cores (groupControllerShare_cores s p)
  | receiptUnit => exact gears_modPort_same _ _ _ rfl
  | attention => exact gears_modPort_same _ _ _ rfl

theorem working_takeShare {s : State} (h : s.Working) (p : Port) (b : ShareBlock) : (s.takeShare p b).Working := by
  cases ha : s.awaits p (.share b) with
  | false => rwa [takeShare_not_due ha]
  | true =>
    rw [takeShare_due ha]
    have hs : (s.shareOf p b).Working := h.congr (shareOf_gears s p b) (shareOf_arbiter s p b)
    obtain ⟨⟨hasks, hgood⟩, hlaw⟩ := hs
    obtain ⟨h1, h2, h3⟩ := hgood p
    refine ⟨?_, hlaw⟩
    rw [gears_report]
    exact Works.tune ⟨hasks, hgood⟩ ⟨h1.report _, h2.report (by simp), h3.report (by simp)⟩ rfl rfl

theorem working_takeShares (p : Port) : ∀ (l : List ShareBlock) {s : State}, s.Working → (l.foldl (State.takeShare p) s).Working
  | [], _, h => h
  | b :: l, _, h => working_takeShares p l (working_takeShare h p b)

/-! ## The entry into RESETTING -/

/-- The gear of the port that enters RESETTING, its buffers and outcomes reset. -/
def Gear.entering (x : Gear) (d : Bool) : Gear :=
  { state := .resetting d allReports, locked := false, sendUnit := x.sendUnit, sendOutcome := SendOutcome.reset,
    readBuffer := ReadBuffer.reset, fetchUnit := x.fetchUnit, fetchOutcome := FetchOutcome.reset }

def Gear.cleared (x : Gear) : Gear :=
  { x with
    locked := false
    sendOutcome := SendOutcome.reset
    readBuffer := ReadBuffer.reset
    fetchOutcome := FetchOutcome.reset }

theorem Gear.rest_entering (x : Gear) (d : Bool) : (x.entering d).Rest :=
  ⟨⟨fun h => (by cases h), fun h => (by cases h)⟩, fun _ => ⟨rfl, rfl, rfl⟩⟩

theorem Gear.Good.sendDue {x : Gear} (h : x.Good) (d : Bool) : (x.entering d).SendDue :=
  ⟨fun u hu => ⟨(h.send.unit u hu).1, (h.send.unit u hu).2.1⟩, rfl, rfl⟩

theorem Gear.Good.fetchDue {x : Gear} (h : x.Good) (d : Bool) : (x.entering d).FetchDue :=
  ⟨fun u hu => ⟨(h.fetch.unit u hu).1, (h.fetch.unit u hu).2.1⟩, fun hx => (by cases hx), rfl⟩

theorem working_entered {s : State} (h : s.Working) (p : Port) (d : Bool) : (s.entered p d).Working := by
  obtain ⟨⟨hasks, hgood⟩, hlaw⟩ := h
  have start (t : State) (hg : t.gears = Function.update s.gears p ((s.gears p).entering d)) (ha : t.arbiter = s.arbiter) :
      ((t.stopSendUnit p).stopFetchUnit p).Working := by
    have hp : t.gears p = (s.gears p).entering d := by rw [hg, Function.update_self]
    have hstop : t.Stopping p := by
      refine ⟨?_, ha ▸ hlaw, fun q hq => ?_, ?_⟩
      · rw [hg, ha]
        exact hasks.tune rfl rfl
      · rw [hg, Function.update_of_ne hq]
        exact hgood q
      · rw [hp]
        exact Gear.rest_entering ..
    obtain ⟨h1, h2, h3⟩ := hstop.stopSend (by rw [hp]; exact (hgood p).sendDue d) (by rw [hp]; exact (hgood p).fetchDue d)
    exact h1.stopFetch h2 h3
  let s1 := s.modPort p fun x => { x with state := .resetting d allReports }
  have clear (t : State) (ht : t.gears = s1.gears) :
      (t.modPort p PortRec.clearBuffers).gears = Function.update s.gears p ((s.gears p).entering d) := by
    rw [gears_modPort, show (PortRec.clearBuffers (t.port p)).gear = (t.gears p).cleared from rfl, ht]
    show Function.update s1.gears p (s1.gears p).cleared = _
    rw [show s1.gears = _ from gears_modPort .., Function.update_self, Function.update_idem]
    rfl
  unfold State.entered
  simp only []
  refine start _ (clear _ ?_) ?_
  · split
    · exact gears_of_cores (tellPeers_cores ..)
    · rfl
  · show State.arbiter (if _ then _ else _) = _
    split
    · exact tellPeers_arbiter ..
    · rfl

theorem working_enterReset {s : State} (h : s.Working) (p : Port) (d : Bool) (l : List ShareBlock) :
    (s.enterReset p d l).Working := by
  rw [enterReset_eq]
  exact (working_takeShares p l (working_entered h p d)).congr (gears_of_cores (reevaluateAll_cores _)) (reevaluateAll_arbiter _)

end Sys2Proof.Machine
end

section
/-! The laws of the links, the records and the transfer units through the commands. -/

namespace Sys2Proof.Machine

/-- The view keeps its laws, and the transfer units work with the arbiter. -/
structure State.Running (s : State) : Prop where
  law : s.view.Law
  working : s.Working

/-- Nothing changes at the host registers, the buffers and the units. -/
theorem State.Running.of_cores {s t : State} (h : s.Running) (hl : t.view.Law) (hc : t.cores = s.cores)
    (ha : t.arbiter = s.arbiter) : t.Running :=
  ⟨hl, h.working.congr (gears_of_cores hc) ha⟩

/-- Nothing changes that the laws speak of. -/
theorem State.Running.congr {s t : State} (h : s.Running) (hv : t.view = s.view) (hg : t.gears = s.gears)
    (ha : t.arbiter = s.arbiter) : t.Running :=
  ⟨h.law.of_eq hv, h.working.congr hg ha⟩

/-- A change of one port at its host registers, conditions, receipts or account. -/
theorem State.Running.modPort {s : State} (h : s.Running) (p : Port) (f : PortRec → PortRec)
    (hf : (f (s.port p)).gear = (s.port p).gear) : (s.modPort p f).Running := by
  refine h.congr (view_modPort _ _ _ ?_ ?_ ?_) (gears_modPort_same _ _ _ hf) rfl
  · exact congrArg Gear.state hf
  · exact congrArg (fun x => x.sendUnit.map CopyIn.span) hf
  · exact congrArg (fun x => x.fetchUnit.map CopyOut.span) hf

theorem State.Running.setResult {s : State} (h : s.Running) (p : Port) (code : ResultCode) (w : Word) :
    (s.setResult p code w).Running :=
  h.modPort p _ rfl

theorem State.Running.answer {s t : State} (h : s.Running) {p : Port} {refusal : Option ResultCode} {acc : State × Word}
    (hx : answer s p refusal acc = .next t) (ha : refusal = none → acc.1.Running) : t.Running := by
  rcases answer_cases hx with rfl | ⟨code, rfl⟩ | ⟨-, hr, rfl⟩
  · exact h
  · exact h.setResult ..
  · exact (ha hr).setResult ..

/-! ## What the checks say of a role -/

theorem Role.eq_idle {r : Role} (h : r.isIdle = true) : r = .idle :=
  of_decide_eq_true h

theorem Role.listening?_eq_some {r : Role} {f : Filter} (h : r.listening? = some f) : r = .listening f := by
  cases r <;> cases h
  rfl

theorem Role.offered?_eq_some {r : Role} {c : ChanId} {a : EpId} (h : r.offered? = some (c, a)) :
    ∃ f o, r = .offered c a f o := by
  cases r <;> cases h
  exact ⟨_, _, rfl⟩

theorem Channel.eq_free {x : Channel} (h : x.isFree = true) : x = .free := by
  cases x with
  | free => rfl
  | _ => cases h

theorem Group.eq_free {x : Group} (h : x.isFree = true) : x = .free := by
  cases x with
  | free => rfl
  | _ => cases h

theorem Group.active?_eq_some {x : Group} {y : ActiveGroup} (h : x.active? = some y) : x = .active y := by
  cases x <;> cases h
  rfl

theorem freeChannel?_eq_some {s : State} {c : ChanId} (h : s.freeChannel? = some c) : s.channel c = .free :=
  Channel.eq_free (List.find?_some (p := fun c => (s.channel c).isFree) h)

theorem freeGroup?_eq_some {s : State} {g : GroupId} (h : s.freeGroup? = some g) : s.group g = .free :=
  Group.eq_free (List.find?_some (p := fun g => (s.group g).isFree) h)

/-! ## Links -/

section
variable {s : State} (h : s.Running) {p : Port} {w : Word}
include h

theorem running_listen (hr : listenRefusal s p w = none) :
    (s.setRole (endpointOf p w) (.listening (filterOfWord (s.arg p 0)))).Running := by
  have hc := checks_pass hr
  simp only [List.all_cons, Bool.and_eq_true, Bool.not_eq_true', Bool.not_eq_false', Bool.or_eq_true] at hc
  obtain ⟨ho, -, -, hrole, -⟩ := hc
  refine h.of_cores (law_listen h.law (by rw [portOf_endpointOf]; exact ho) ?_) (setRole_cores ..) (setRole_arbiter ..)
  rcases hrole with hi | hl
  · exact .inl (Role.eq_idle hi)
  · obtain ⟨f, hf⟩ := Option.isSome_iff_exists.1 hl
    exact .inr ⟨f, Role.listening?_eq_some hf⟩

theorem running_acceptOpen (hr : openRefusal s p w = none) : (acceptOpen s p w).1.Running := by
  have hc := checks_pass hr
  simp only [List.all_cons, Bool.and_eq_true, Bool.not_eq_true', Bool.not_eq_false', Bool.or_eq_false_iff,
    decide_eq_false_iff_not] at hc
  obtain ⟨ho, -, ⟨-, hne⟩, -, -, -, hidle, hpeer, hl, -, -⟩ := hc
  unfold acceptOpen
  cases hf : s.freeChannel? with
  | none => exact h
  | some c =>
    obtain ⟨f, hf'⟩ := Option.isSome_iff_exists.1 (by simpa using hl : (s.role (globalEndpointOf (s.arg p 0))).listening?.isSome)
    exact h.of_cores (law_placeRequestOn h.law _ (freeChannel?_eq_some hf) (Role.eq_idle hidle)
      (Role.listening?_eq_some hf') (Ne.symm hne) (by rw [portOf_endpointOf]; exact ho) hpeer) (placeRequestOn_cores ..)
      (placeRequestOn_arbiter ..)

/-- The live request of an OFFERED endpoint (R43). -/
theorem live_request {e : EpId} (hl : s.noLiveRequest e = false) :
    ∃ c a f o, s.role e = .offered c a f o ∧ s.online (portOf a) = true ∧ ∃ d, s.channel c = .requested a e o d := by
  unfold State.noLiveRequest at hl
  cases ho : (s.role e).offered? with
  | none => rw [ho] at hl; cases hl
  | some ca =>
    obtain ⟨c, a⟩ := ca
    rw [ho] at hl
    obtain ⟨f, o, hrole⟩ := Role.offered?_eq_some ho
    have hb := h.law.named.backed e
    rw [show s.view.role e = .offered c a f o from hrole, view_face] at hb
    exact ⟨c, a, f, o, hrole, by simpa using hl, Channel.face_eq_request.1 hb⟩

theorem running_acceptAccept (hr : acceptRefusal s p w = none) : (acceptAccept s p w).1.Running := by
  have hc := checks_pass hr
  simp only [List.all_cons, Bool.and_eq_true, Bool.not_eq_true', Bool.not_eq_false'] at hc
  obtain ⟨ho, -, -, -, -, hl, -⟩ := hc
  obtain ⟨c, a, f, o, hrole, hoa, d, hch⟩ := live_request h hl
  have heq : (acceptAccept s p w).1 = s.openAgreed c
      (settledTerms a (endpointOf p w) o (s.arg p 0).toNat (s.arg p 1).toNat (optionsOfWord (s.arg p 2))) := by
    unfold acceptAccept
    rw [hrole]
    simp only [Role.offered?]
    rw [hch]
  rw [heq]
  exact h.of_cores (law_openAgreed h.law hch hoa (by rw [portOf_endpointOf]; exact ho)) (openAgreed_cores ..)
    (openAgreed_arbiter ..)

theorem running_reject (hr : rejectRefusal s p w = none) : (s.rejectAt (endpointOf p w) (s.arg p 0)).Running := by
  have hc := checks_pass hr
  simp only [List.all_cons, Bool.and_eq_true, Bool.not_eq_true', Bool.not_eq_false'] at hc
  obtain ⟨ho, -, hl, -⟩ := hc
  obtain ⟨c, a, f, o, hrole, -⟩ := live_request h hl
  exact h.of_cores (law_rejectAt h.law _ hrole (by rw [portOf_endpointOf]; exact ho)) (rejectAt_cores ..) (rejectAt_arbiter ..)

theorem running_close (hr : closeRefusal s p w = none) (abort : Bool) : (s.closeAtRole (endpointOf p w) abort).Running := by
  have hc := checks_pass hr
  simp only [List.all_cons, Bool.and_eq_true, Bool.not_eq_true', Bool.not_eq_false'] at hc
  exact h.of_cores (law_closeAtRole h.law (by rw [portOf_endpointOf]; exact hc.1) abort) (closeAtRole_cores ..)
    (closeAtRole_arbiter ..)

theorem running_acceptCreate (hr : createRefusal s p w = none) : (acceptCreate s p w).1.Running := by
  have hc := checks_pass hr
  simp only [List.all_cons, Bool.and_eq_true, Bool.not_eq_true', Bool.not_eq_false'] at hc
  obtain ⟨ho, -, -, -, hidle, -, -⟩ := hc
  unfold acceptCreate
  cases hf : s.freeGroup? with
  | none => exact h
  | some g =>
    exact h.of_cores (law_create h.law _ _ (freeGroup?_eq_some hf) (Role.eq_idle hidle) (by rw [portOf_endpointOf]; exact ho))
      ((setRole_cores ..).trans (setGroup_cores ..)) ((setRole_arbiter ..).trans (setGroup_arbiter ..))

theorem running_policy (e : EpId) (x : GroupPolicy) : (s.setPolicy e x).Running :=
  h.of_cores (h.law.of_eq (view_setPolicy ..)) (setPolicy_cores ..) (setPolicy_arbiter ..)

theorem running_acceptJoin (hr : joinRefusal s p w = none) : (acceptJoin s p w).1.Running := by
  have hc := checks_pass hr
  simp only [List.all_cons, Bool.and_eq_true, Bool.not_eq_true', Bool.not_eq_false', Bool.or_eq_false_iff,
    decide_eq_false_iff_not] at hc
  obtain ⟨ho, -, -, ⟨hn, -⟩, hidle, -⟩ := hc
  unfold acceptJoin
  simp only []
  cases hg : (s.group (groupOfWord (s.arg p 0))).active? with
  | none => exact h
  | some x =>
    have hl := law_join h.law (Group.active?_eq_some hg) (Role.eq_idle hidle) (by rw [portOf_endpointOf]; exact ho)
      (n := (s.arg p 1).toNat) (by omega)
    exact h.of_cores (hl.of_eq (view_setEndpointCond ..))
      ((setEndpointCond_cores ..).trans ((setRole_cores ..).trans (setGroup_cores ..)))
      ((setEndpointCond_arbiter ..).trans ((setRole_arbiter ..).trans (setGroup_arbiter ..)))

/-! ## Messages -/

theorem running_acceptSend (hr : sendRefusal s p w = none) : (acceptSend s p w).1.Running := by
  obtain ⟨c, l, ha⟩ := sendRefusal_none hr
  exact ⟨law_acceptSend h.law ha, working_acceptSend h.working ha⟩

theorem running_acceptPublish (hl : s.LinkLaw) (hr : publishRefusal s p w = none) : (acceptPublish s p w).1.Running := by
  obtain ⟨g, x, ha⟩ := publishRefusal_none hr
  exact ⟨law_acceptPublish h.law hl ha, working_acceptPublish h.working ha⟩

theorem running_acceptFetch (hlen : s.LengthLaw) (hr : fetchRefusal s p w = none) : (acceptFetch s p w).1.Running := by
  have hc := checks_pass hr
  simp only [List.all_cons, Bool.and_eq_true, Bool.not_eq_true', Bool.not_eq_false'] at hc
  obtain ⟨ho, hu, -⟩ := hc
  have hu : (s.port p).fetchUnit = none := by simpa using hu
  exact ⟨law_acceptFetch h.law hlen hu, working_acceptFetch h.working hlen w ho hu⟩

/-! ## Attention -/

theorem running_ack : (acceptAck s p w).1.Running :=
  h.of_cores (h.law.of_eq ((view_reevaluate ..).trans (view_removeConds ..))) ((reevaluate_cores ..).trans (removeConds_cores ..))
    ((reevaluate_arbiter ..).trans (removeConds_arbiter ..))

theorem running_nudge (q : Port) : (s.nudgeFrom q p).Running :=
  h.of_cores (h.law.of_eq ((view_setPortCond ..).trans (view_modPort _ _ _ rfl rfl rfl))) (nudgeFrom_cores ..)
    (nudgeFrom_arbiter ..)

end

end Sys2Proof.Machine
end

section
/-! The laws of the links, the records and the transfer units through the management commands, the register accesses,
the expiries and the resets. -/

namespace Sys2Proof.Machine

/-! ## The state of a port -/

/-- A change of state that makes no report due or taken. -/
theorem Gear.Good.setState {x : Gear} (h : x.Good) {st : PortState} (hne : st ≠ .resetting false [] ∧ st ≠ .resetting true [])
    (hdue : ∀ r, st.due r = x.state.due r) (hon : x.state = .online → st = .online)
    (hbuf : st ≠ .online → x.state ≠ .online) : Gear.Good { x with state := st } := by
  refine ⟨⟨hne, fun hx => h.rest.buffers (hbuf hx)⟩, ⟨fun u hu => ?_, h.send.locked, ?_⟩, ⟨fun u hu => ?_, h.fetch.reading, ?_⟩⟩
  · obtain ⟨h1, h2, h3⟩ := h.send.unit u hu
    exact ⟨h1, h2, fun hc => hon (h3 hc)⟩
  · show st.due _ = true ↔ _
    rw [hdue]
    exact h.send.stopped
  · obtain ⟨h1, h2, h3⟩ := h.fetch.unit u hu
    exact ⟨h1, h2, fun hc => hon (h3 hc)⟩
  · show st.due _ = true ↔ _
    rw [hdue]
    exact h.fetch.stopped

theorem State.Working.setGear {s : State} (h : s.Working) {p : Port} {f : PortRec → PortRec}
    (hx : (f (s.port p)).gear.Good) (h1 : (f (s.port p)).sendUnit = (s.port p).sendUnit)
    (h2 : (f (s.port p)).fetchUnit = (s.port p).fetchUnit) : (s.modPort p f).Working := by
  refine ⟨?_, h.2⟩
  rw [gears_modPort]
  exact h.1.tune hx h1 h2

section
variable {s : State} (h : s.Running) {p : Port}
include h

theorem running_goOnline (hst : (s.port p).state = .offline) :
    ((s.modPort p fun x => { x with state := .online }).tellPeers p).Running := by
  have hon : (s.modPort p fun x => { x with state := .online }).Running := by
    refine ⟨law_goOnline h.law (by rw [hst]; rfl), h.working.setGear ?_ rfl rfl⟩
    refine (h.working.1.good p).setState (st := .online) ⟨by simp, by simp⟩ (fun r => ?_) (fun _ => rfl) fun hx => absurd rfl hx
    rw [show (s.gears p).state = .offline from hst]
    rfl
  exact hon.of_cores (hon.law.of_eq (view_tellPeers ..)) (tellPeers_cores ..) (tellPeers_arbiter ..)

theorem running_enable (hst : (s.port p).state = .disabled) : (s.modPort p fun x => { x with state := .offline }).Running := by
  refine ⟨h.law.of_eq (view_enable hst), h.working.setGear ?_ rfl rfl⟩
  have hg : (s.gears p).state = .disabled := hst
  refine (h.working.1.good p).setState (st := .offline) ⟨by simp, by simp⟩ (fun r => ?_) (fun hx => ?_) fun _ => ?_
  · rw [hg]
    rfl
  · rw [hg] at hx
    cases hx
  · rw [hg]
    simp

theorem running_pendDisable : (s.modPort p fun x => { x with state := x.state.pendDisable }).Running := by
  refine ⟨h.law.of_eq (view_pendDisable s p), h.working.setGear ?_ rfl rfl⟩
  have hgood := h.working.1.good p
  refine hgood.setState (st := (s.gears p).state.pendDisable) ?_ (fun r => ?_) (fun hx => ?_) fun hx => ?_
  · have hne := hgood.rest.due
    cases hg : (s.gears p).state with
    | resetting d l =>
      rw [hg] at hne
      have hl : l ≠ [] := by
        rintro rfl
        cases d
        · exact hne.1 rfl
        · exact hne.2 rfl
      simpa [PortState.pendDisable] using hl
    | disabled => simp [PortState.pendDisable]
    | offline => simp [PortState.pendDisable]
    | online => simp [PortState.pendDisable]
  · cases (s.gears p).state <;> rfl
  · rw [hx]
    rfl
  · intro e
    rw [e] at hx
    exact hx rfl

theorem running_enterReset (d : Bool) (l : List ShareBlock) (hst : (s.port p).state.isResetting = false) :
    (s.enterReset p d l).Running :=
  ⟨law_enterReset h.law d l hst, working_enterReset h.working p d l⟩

theorem running_disableTarget (l : List ShareBlock) : (s.disableTarget p l).Running := by
  unfold State.disableTarget
  split
  · exact running_pendDisable h
  · next hst => exact running_enterReset h true l (by simpa using hst)

theorem running_takeShare (b : ShareBlock) : (s.takeShare p b).Running :=
  ⟨law_takeShare h.law p b, working_takeShare h.working p b⟩

theorem running_reevaluateAll : s.reevaluateAll.Running :=
  h.of_cores (h.law.of_eq (view_reevaluateAll _)) (reevaluateAll_cores _) (reevaluateAll_arbiter _)

/-! ## Register accesses -/

theorem running_pointer {f : ReadBuffer → ReadBuffer} (hst : (f (s.port p).readBuffer).state = (s.port p).readBuffer.state)
    (hr : (s.port p).readBuffer = ReadBuffer.reset → f (s.port p).readBuffer = ReadBuffer.reset)
    (g : HostInterface → HostInterface) :
    (s.modPort p fun x => { x with host := g x.host, readBuffer := f x.readBuffer }).Running := by
  refine ⟨h.law.of_eq (view_modPort _ _ _ rfl rfl rfl), h.working.setGear ?_ rfl rfl⟩
  obtain ⟨⟨h1, h2⟩, h3, h4⟩ := h.working.1.good p
  refine ⟨⟨h1, fun hx => ?_⟩, h3.congr rfl rfl rfl, ⟨h4.unit, ?_, h4.stopped⟩⟩
  · obtain ⟨g1, g2, g3⟩ := h2 hx
    exact ⟨hr g1, g2, g3⟩
  · show (f (s.port p).readBuffer).state = _ ↔ _
    rw [hst]
    exact h4.reading

theorem running_stageData {t : State} {w : Word} (hx : exec (.stageData p w) s = .next t) : t.Running := by
  rcases taken_cases hx with rfl | ⟨-, rfl⟩
  · exact h
  · split
    · exact h
    · exact h.modPort p _ rfl

theorem running_stagePtr {t : State} {w : Word} (hx : exec (.stagePtr p w) s = .next t) : t.Running := by
  rcases taken_cases hx with rfl | ⟨-, rfl⟩
  · exact h
  · split
    · exact h
    · exact h.modPort p _ rfl

/-- The pointer of a FULL read buffer may advance (R76). -/
theorem running_advance {m : Bool} (hm : m = true → (s.port p).readBuffer.state = .full) (g : HostInterface → HostInterface) :
    (s.modPort p fun x =>
      { x with
        host := g x.host
        readBuffer :=
          { x.readBuffer with pointer := if m then x.readBuffer.pointer + 1 else x.readBuffer.pointer } }).Running := by
  refine running_pointer h (f := fun b => { b with pointer := if m then b.pointer + 1 else b.pointer }) rfl (fun hb => ?_) g
  cases m with
  | false => exact hb
  | true =>
    have hs := hm rfl
    rw [hb] at hs
    cases hs

theorem running_rbData {t : State} (hx : exec (.rbData p) s = .next t) : t.Running := by
  injection hx with hx
  subst hx
  refine running_advance h (m := !s.chipReset && !(s.port p).state.hidesWindow && decide ((s.port p).readBuffer.state = .full) &&
    decide ((s.port p).readBuffer.pointer < 128)) (fun hm => ?_) fun x => { x with readData := windowRead s p 0x2A#7 }
  simp only [Bool.and_eq_true, decide_eq_true_eq] at hm
  exact hm.1.2

theorem running_rbPtr {t : State} {w : Word} (hx : exec (.rbPtr p w) s = .next t) : t.Running := by
  rcases taken_cases hx with rfl | ⟨-, rfl⟩
  · exact h
  · split
    · exact h
    · next hf =>
      refine running_pointer h (f := fun b => { b with pointer := w.toNat }) rfl (fun hb => ?_) id
      refine absurd (.inr (.inl ?_)) hf
      rw [hb]
      decide

theorem running_viewSel {t : State} {w : Word} (hx : exec (.viewSel p w) s = .next t) : t.Running := by
  rcases taken_cases hx with rfl | ⟨-, rfl⟩
  · exact h
  · split
    · exact h
    · exact h.modPort p _ rfl

theorem running_resetInputAssertion {t : State} {l : List ShareBlock} (hx : exec (.resetInputAssertion p l) s = .next t) :
    t.Running := by
  have pin (r : Bool) : (s.modPort p fun x => { x with resetPin := true, resetInput := r }).Running := h.modPort p _ rfl
  have hst (r : Bool) : ((s.modPort p fun x => { x with resetPin := true, resetInput := r }).port p).state = (s.port p).state := by
    rw [port_modPort_self]
  have hx' : execResetInputAssertion p l s = .next t := hx
  unfold execResetInputAssertion at hx'
  split at hx'
  · injection hx' with hx'
    subst hx'
    exact h.modPort p _ rfl
  · injection hx' with hx'
    subst hx'
    split
    · next ho => exact running_enterReset (pin true) false l (by rw [hst, ho]; rfl)
    · next ho => exact running_enterReset (pin true) false l (by rw [hst, ho]; rfl)
    · exact pin true
    · exact pin true

/-! ## Expiries -/

theorem running_openTimeout {t : State} {c : ChanId} (hx : exec (.openTimeoutExpiry c) s = .next t) : t.Running := by
  rcases taken_cases hx with rfl | ⟨-, rfl⟩
  · exact h
  · split
    · next hc =>
      split
      · exact h.of_cores (law_timeOutRequest h.law hc) (timeOutRequest_cores ..) (timeOutRequest_arbiter ..)
      · exact h
    all_goals exact h

theorem running_drainExpiry {t : State} {c : ChanId} (hx : exec (.drainExpiry c) s = .next t) : t.Running := by
  rcases taken_cases hx with rfl | ⟨-, rfl⟩
  · exact h
  · split
    · split
      · exact h.of_cores (law_teardown h.law c _ _) (teardown_cores ..) (teardown_arbiter ..)
      · exact h
    all_goals exact h

theorem running_lifetimeExpiry {t : State} {r : RecId} (hx : exec (.lifetimeExpiry r) s = .next t) : t.Running := by
  rcases taken_cases hx with rfl | ⟨-, rfl⟩
  · exact h
  · split
    · next m d hr =>
      split
      · exact h.of_cores (law_expire h.law hr) (expire_cores ..) (expire_arbiter ..)
      · exact h
    all_goals exact h

theorem running_holdoffExpiry {t : State} (hx : exec (.holdoffExpiry p) s = .next t) : t.Running := by
  rcases taken_cases hx with rfl | ⟨-, rfl⟩
  · exact h
  · split
    · exact h
    · split
      · exact h.modPort p _ rfl
      · exact h

theorem running_share {t : State} (b : ShareBlock) (hx : taken s (s.takeShare p b) = .next t) : t.Running := by
  rcases taken_cases hx with rfl | ⟨-, rfl⟩
  · exact h
  · exact running_takeShare h b

end

/-! ## Every command and every event -/

theorem not_resetting_of_reach {s : State} {p : Port} (h : s.outOfReach p = false) : (s.port p).state.isResetting = false := by
  unfold State.outOfReach at h
  cases hst : (s.port p).state <;> rw [hst] at h
  · rfl
  · rfl
  · rfl
  · cases h

theorem running_of_coherent {s : State} (h : s.Coherent) : s.Running :=
  ⟨(sound_of_coherent h).view_law, working_of_sound (sound_of_coherent h)⟩

theorem running_afterChipReset (pins : Vector Bool 4) (l : List Instr) : (State.afterChipReset pins l).Running :=
  running_of_coherent (coherent_afterChipReset pins l)

section
variable {s t : State} (h : s.Running) {i : Instr}
include h

theorem running_command (hl : s.LinkLaw) (hlen : s.LengthLaw) {p : Port} (hi : i.strobe? = some p) (hx : exec i s = .next t) :
    t.Running := by
  cases i with
  | listen q w => exact h.answer hx (running_listen h)
  | openChannel q w => exact h.answer hx (running_acceptOpen h)
  | accept q w => exact h.answer hx (running_acceptAccept h)
  | reject q w => exact h.answer hx (running_reject h)
  | close q w => exact h.answer hx fun hr => running_close h hr _
  | send q w => exact h.answer hx (running_acceptSend h)
  | fetch q w => exact h.answer hx (running_acceptFetch h hlen)
  | create q w => exact h.answer hx (running_acceptCreate h)
  | policy q w => exact h.answer hx fun _ => running_policy h _ _
  | join q w => exact h.answer hx (running_acceptJoin h)
  | publish q w => exact h.answer hx (running_acceptPublish h hl)
  | ack q w => exact h.answer hx fun _ => running_ack h
  | popReceipt q w =>
    refine h.answer hx fun _ => ?_
    dsimp only
    exact h.modPort q _ rfl
  | nudge q w => exact h.answer hx fun _ => running_nudge h q
  | notifySet q w =>
    refine h.answer hx fun _ => ?_
    dsimp only
    exact h.modPort q _ rfl
  | mask q w =>
    refine h.answer hx fun _ => ?_
    dsimp only
    exact h.modPort q _ rfl
  | online q w => exact h.answer hx fun hr => running_goOnline h (onlineRefusal_none hr)
  | offline q w l =>
    refine h.answer hx fun hr => running_enterReset h false l (not_resetting_of_reach ?_)
    have hc := checks_pass hr
    simp only [List.all_cons, Bool.and_eq_true, Bool.not_eq_true'] at hc
    exact hc.1
  | enablePort q w =>
    refine h.answer hx fun hr => running_enable h ?_
    have hc := checks_pass hr
    simp only [managementChecks, List.cons_append, List.nil_append, List.all_cons, Bool.and_eq_true, Bool.not_eq_true',
      Bool.not_eq_false', State.isDisabled, decide_eq_true_eq] at hc
    exact hc.2.2.2.1
  | disablePort q w l => exact h.answer hx fun _ => running_disableTarget h l
  | resetPort q w l =>
    refine h.answer hx fun hr => running_enterReset h false l (not_resetting_of_reach ?_)
    have hc := checks_pass hr
    simp only [managementChecks, List.cons_append, List.nil_append, List.all_cons, Bool.and_eq_true, Bool.not_eq_true'] at hc
    exact hc.2.2.2.1
  | setQuota q w =>
    refine h.answer hx fun _ => ?_
    dsimp only
    exact h.modPort (portOfWord w) _ rfl
  | setTiming q w => exact h.answer hx fun _ => h.congr rfl rfl rfl
  | _ => cases hi

theorem running_event (hl : s.LinkLaw) (hi : i.strobe? = none) (hx : exec i s = .next t) : t.Running := by
  cases i with
  | stageData p w => exact running_stageData h hx
  | stagePtr p w => exact running_stagePtr h hx
  | rbData p => exact running_rbData h hx
  | rbPtr p w => exact running_rbPtr h hx
  | viewSel p w => exact running_viewSel h hx
  | timeLo p =>
    injection hx with hx
    subst hx
    exact h.modPort p _ rfl
  | argWrite p n w =>
    rcases taken_cases hx with rfl | ⟨-, rfl⟩
    · exact h
    · exact h.modPort p _ rfl
  | ignoredWrite p a w => rcases taken_cases hx with rfl | ⟨-, rfl⟩ <;> exact h
  | resetInputAssertion p l => exact running_resetInputAssertion h hx
  | resetInputRelease p =>
    injection hx with hx
    subst hx
    exact h.modPort p _ rfl
  | chipResetAssertion =>
    injection hx with hx
    subst hx
    exact h.congr rfl rfl rfl
  | chipResetRelease =>
    injection hx with hx
    subst hx
    exact running_afterChipReset ..
  | memoryFault b l =>
    rcases taken_cases hx with rfl | ⟨-, rfl⟩
    · exact h
    · exact h.congr rfl rfl rfl
  | blockTransferEnd =>
    rcases taken_cases hx with rfl | ⟨-, rfl⟩
    · exact h
    · exact ⟨law_blockTransferEnd h.law hl h.working, working_blockTransferEnd h.working h.law⟩
  | openTimeoutExpiry c => exact running_openTimeout h hx
  | drainExpiry c => exact running_drainExpiry h hx
  | lifetimeExpiry r => exact running_lifetimeExpiry h hx
  | holdoffExpiry p => exact running_holdoffExpiry h hx
  | memoryManagerResetShare p => exact running_share h _ hx
  | endpointTableResetShare p => exact running_share h _ hx
  | channelControllerResetShare p =>
    rcases taken_cases hx with rfl | ⟨-, rfl⟩
    · exact h
    · split
      · exact running_reevaluateAll (running_takeShare h _)
      · exact h
  | groupControllerResetShare p => exact running_share h _ hx
  | receiptUnitResetShare p => exact running_share h _ hx
  | attentionResetShare p => exact running_share h _ hx
  | _ => cases hi

end

theorem running_tick {s : State} (h : s.Running) : s.tick.Running := by
  unfold State.tick
  split
  · exact h
  · split
    · exact h.congr rfl rfl rfl
    · exact h.congr rfl rfl rfl

theorem running_step {s t : State} (h : s.Running) (hl : s.LinkLaw) (hlen : s.LengthLaw) (hx : step s = .next t) :
    t.Running := by
  rcases step_cases hx with ⟨-, rfl⟩ | ⟨i, rest, -, hx⟩
  · exact running_tick h
  · have hs : State.Running { s with pending := rest } := h.congr rfl rfl rfl
    cases hi : i.strobe? with
    | some p => exact running_command hs hl hlen hi hx
    | none => exact running_event hs hl hi hx

/-- Settles O6: the laws of Coherent follow from stronger ones on a view of the state, on its transfer units with the
arbiter, and on its ports out of service; each is kept by every step. -/
theorem coherenceLawKept : Obligations.CoherenceLawKept := by
  intro s t hs hx
  have hsound := sound_of_coherent hs
  have hl := linkLaw_of_coherent hs
  have hlen := lengthLaw_of_coherent hs
  have ht := running_step (running_of_coherent hs) hl hlen hx
  exact coherent_of_parts ht.law ht.working (quiet_step (quiet_of_hushed hsound.hushed) hx) (linkLaw_step hl hx)
    (lengthLaw_step hlen hx)

end Sys2Proof.Machine
end

section
/-! The side of the state that holds the messages, and the frame of the commands that start, end or move none. -/

namespace Sys2Proof.Machine

/-! ## The message side of the state -/

/-- The buffers, the transfer units and the outcomes of a port. -/
structure TransferSide where
  staging : Staging
  readBuffer : ReadBuffer
  sendUnit : Option CopyIn
  fetchUnit : Option CopyOut
  sendOutcome : SendOutcome
  fetchOutcome : FetchOutcome

def PortRec.transferSide (x : PortRec) : TransferSide where
  staging := x.staging
  readBuffer := x.readBuffer
  sendUnit := x.sendUnit
  fetchUnit := x.fetchUnit
  sendOutcome := x.sendOutcome
  fetchOutcome := x.fetchOutcome

/-- Where messages are held and moved, with the clock and the configuration. -/
structure MessageSide where
  records : Vector MsgRecord 64
  blockPlaces : Vector BlockPlace 128
  arbiter : Arbiter
  store : List Host.Cell × Vector Bool 128
  fixed : DeviceConfig × Time × Nat × Bool × List Instr
  transfers : Port → TransferSide

def State.messageSide (s : State) : MessageSide where
  records := s.records
  blockPlaces := s.blockPlaces
  arbiter := s.arbiter
  store := s.store
  fixed := s.fixed
  transfers q := (s.port q).transferSide

/-- The same message side, in the words of the statements. -/
theorem frame_of_messageSide {s t : State} (h : t.messageSide = s.messageSide) :
    s.SamePool t ∧ s.SameMemory t ∧ s.SameClock t ∧ s.SameTransfers t := by
  refine ⟨⟨congrArg (·.records) h, congrArg (·.blockPlaces) h, congrArg (·.arbiter) h⟩,
    sameMemory_of_store (congrArg (·.store) h), sameClock_of_fixed (congrArg (·.fixed) h), fun q => ?_⟩
  have hq : (t.port q).transferSide = (s.port q).transferSide := congrFun (congrArg (·.transfers) h) q
  exact ⟨congrArg (·.staging) hq, congrArg (·.readBuffer) hq, congrArg (·.sendUnit) hq, congrArg (·.fetchUnit) hq,
    congrArg (·.sendOutcome) hq, congrArg (·.fetchOutcome) hq⟩

/-! ## The operations that leave it alone -/

theorem messageSide_modPort (s : State) (p : Port) (f : PortRec → PortRec)
    (h : (f (s.port p)).transferSide = (s.port p).transferSide) : (s.modPort p f).messageSide = s.messageSide := by
  have hq : (fun q => ((s.modPort p f).port q).transferSide) = fun q => (s.port q).transferSide :=
    funext (modPort_part PortRec.transferSide s p f h)
  exact congrArg (MessageSide.mk s.records s.blockPlaces s.arbiter s.store s.fixed) hq

theorem messageSide_setCond (s : State) (p : Port) (it : Item) (c : Cond) :
    (s.setCond p it c).messageSide = s.messageSide := by
  unfold State.setCond
  split
  · exact messageSide_modPort s p _ rfl
  · rfl

theorem messageSide_setEndpointCond (s : State) (e : EpId) (c : Cond) :
    (s.setEndpointCond e c).messageSide = s.messageSide :=
  messageSide_setCond ..

theorem messageSide_tellPeers (s : State) (p : Port) : (s.tellPeers p).messageSide = s.messageSide :=
  foldl_keeps _ State.messageSide (fun t q => messageSide_setCond t q portItem .peerState) _ s

theorem messageSide_failCaller (s : State) (a : EpId) (o : OpenOutcome) :
    (s.failCaller a o).messageSide = s.messageSide := by
  unfold State.failCaller
  dsimp only
  split
  · exact (messageSide_setEndpointCond ..).trans rfl
  · rfl

theorem messageSide_rejectAt (s : State) (e : EpId) (w : Word) : (s.rejectAt e w).messageSide = s.messageSide := by
  unfold State.rejectAt
  split
  · rfl
  · exact (messageSide_failCaller ..).trans rfl

theorem messageSide_setPolicy (s : State) (e : EpId) (x : GroupPolicy) :
    (s.setPolicy e x).messageSide = s.messageSide := by
  unfold State.setPolicy
  split
  · rfl
  · unfold State.modActive
    split <;> rfl

theorem messageSide_nudgeFrom (s : State) (q p : Port) : (s.nudgeFrom q p).messageSide = s.messageSide :=
  (messageSide_setCond ..).trans (messageSide_modPort s p _ rfl)

/-! ## The effects of the commands -/

theorem messageSide_acceptOpen (s : State) (p : Port) (w : Word) :
    (acceptOpen s p w).1.messageSide = s.messageSide := by
  unfold acceptOpen
  split
  · rfl
  · exact (messageSide_setEndpointCond ..).trans rfl

theorem messageSide_acceptAccept (s : State) (p : Port) (w : Word) :
    (acceptAccept s p w).1.messageSide = s.messageSide := by
  unfold acceptAccept
  split
  · rfl
  · split
    · exact (messageSide_setEndpointCond ..).trans rfl
    all_goals rfl

theorem messageSide_acceptCreate (s : State) (p : Port) (w : Word) :
    (acceptCreate s p w).1.messageSide = s.messageSide := by
  unfold acceptCreate
  split <;> rfl

theorem messageSide_acceptJoin (s : State) (p : Port) (w : Word) :
    (acceptJoin s p w).1.messageSide = s.messageSide := by
  unfold acceptJoin
  dsimp only
  split
  · rfl
  · exact (messageSide_setEndpointCond ..).trans rfl

theorem messageSide_acceptAck (s : State) (p : Port) (w : Word) :
    (acceptAck s p w).1.messageSide = s.messageSide :=
  (messageSide_modPort _ p _ rfl).trans (messageSide_modPort s p _ rfl)

/-- An answer writes RESULT and RESULT_VALUE beside the command's effect. -/
theorem messageSide_answer {s t : State} {p : Port} {refusal : Option ResultCode} {acc : State × Word}
    (h : answer s p refusal acc = .next t) (ha : acc.1.messageSide = s.messageSide) :
    t.messageSide = s.messageSide := by
  rcases answer_cases h with rfl | ⟨code, rfl⟩ | ⟨-, -, rfl⟩
  · rfl
  · exact messageSide_modPort s p _ rfl
  · exact (messageSide_modPort acc.1 p _ rfl).trans ha

/-- Settles O16: the effect of each of the fifteen commands leaves the message side alone, and so does its answer. -/
theorem establishmentFrame : Obligations.EstablishmentFrame := by
  intro p w s t i hi h
  refine frame_of_messageSide ?_
  cases i with
  | listen q x => exact messageSide_answer h rfl
  | openChannel q x => exact messageSide_answer h (messageSide_acceptOpen ..)
  | accept q x => exact messageSide_answer h (messageSide_acceptAccept ..)
  | reject q x => exact messageSide_answer h (messageSide_rejectAt ..)
  | create q x => exact messageSide_answer h (messageSide_acceptCreate ..)
  | policy q x => exact messageSide_answer h (messageSide_setPolicy ..)
  | join q x => exact messageSide_answer h (messageSide_acceptJoin ..)
  | ack q x => exact messageSide_answer h (messageSide_acceptAck ..)
  | popReceipt q x => exact messageSide_answer h (messageSide_modPort s q _ rfl)
  | nudge q x => exact messageSide_answer h (messageSide_nudgeFrom ..)
  | notifySet q x => exact messageSide_answer h (messageSide_modPort s q _ rfl)
  | mask q x => exact messageSide_answer h (messageSide_modPort s q _ rfl)
  | online q x => exact messageSide_answer h ((messageSide_tellPeers ..).trans (messageSide_modPort s q _ rfl))
  | enablePort q x => exact messageSide_answer h (messageSide_modPort s _ _ rfl)
  | setQuota q x => exact messageSide_answer h (messageSide_modPort s _ _ rfl)
  | _ => simp at hi

end Sys2Proof.Machine
end

section
/-! LISTEN, and CLOSE on an endpoint that is not yet an end of a channel. -/

namespace Sys2Proof.Machine

/-! ## LISTEN -/

/-- Settles O19: the checks of LISTEN are those of the model's list, and its effect sets the filter. -/
theorem listenSetsFilter : Obligations.ListenSetsFilter := by
  intro p w s hrun
  refine resultsInOrder_intro _ hrun (show exec (.listen p w) s = answer s p (firstFailing _) _ from rfl) ?_ fun _ => rfl
  simp

/-! ## CLOSE before a connection -/

/-- Two changes of one endpoint are one. -/
theorem modEndpoint_modEndpoint_eq {s : State} {e : EpId} {f g h : Endpoint → Endpoint}
    (hgf : g (f (s.endpoint e)) = h (s.endpoint e)) : (s.modEndpoint e f).modEndpoint e g = s.modEndpoint e h := by
  have he : g (f s.endpoints[e.val]) = h s.endpoints[e.val] := hgf
  simp [State.modEndpoint, he]

theorem failCaller_online {s : State} {a : EpId} (o : OpenOutcome) (h : s.online (portOf a) = true) :
    s.failCaller a o =
      ((s.setRole a .idle).modEndpoint a fun x => { x with openOutcome := o }).setEndpointCond a .openFailed :=
  if_pos h

/-- A withdrawn callee listens again with the filter it had. -/
theorem withdrawCallee_online {s : State} {b e : EpId} {c : ChanId} {f : Filter} {r : Offer} (v : WithdrawOutcome)
    (h : s.online (portOf b) = true) (hr : s.role b = .offered c e f r) :
    s.withdrawCallee b v =
      (((s.setRole b (.listening f)).modEndpoint b fun x => { x with withdrawOutcome := v }).setEndpointCond b
        .withdrawn).removeConds (portOf b) (itemOf (localOf b)) Cond.request.only := by
  have hback : (s.endpoint b).role.backToListening = .listening f := by
    rw [show (s.endpoint b).role = _ from hr]
    rfl
  unfold State.withdrawCallee
  rw [if_pos h, State.setRole, modEndpoint_modEndpoint_eq]
  rw [← hback]

theorem closeAtRole_listening {s : State} {e : EpId} {f : Filter} (h : s.role e = .listening f) (abort : Bool) :
    s.closeAtRole e abort = s.setRole e .idle := by
  rw [State.closeAtRole, h]

theorem closeAtRole_offered {s : State} {e a : EpId} {c : ChanId} {f : Filter} {o : Offer}
    (h : s.role e = .offered c a f o) (abort : Bool) :
    s.closeAtRole e abort = ((s.setChannel c .free).setRole e .idle).failCaller a (.rejected 0#16) := by
  rw [State.closeAtRole, h]
  rfl

theorem closeAtRole_calling_online {s : State} {e b : EpId} {c : ChanId} (h : s.role e = .calling c b)
    (hb : s.online (portOf b) = true) (abort : Bool) :
    s.closeAtRole e abort =
      (((s.setChannel c .free).setRole e .idle).withdrawCallee b .callerClosed).reevaluate (portOf b) := by
  rw [State.closeAtRole, h]
  exact if_pos hb

theorem closeAtRole_calling_offline {s : State} {e b : EpId} {c : ChanId} (h : s.role e = .calling c b)
    (hb : s.online (portOf b) = false) (abort : Bool) :
    s.closeAtRole e abort = ((s.setChannel c .free).setRole e .idle).setRole b .idle := by
  have hcalling : s.closeAtRole e abort = ((s.setChannel c .free).setRole e .idle).withdrawCallee b .callerClosed := by
    rw [State.closeAtRole, h]
    exact if_neg (by simp [hb])
  exact hcalling.trans (withdrawCallee_offline _ hb)

/-- Settles O23: the checks of CLOSE are those of the model's list, and its effect goes by the endpoint's role. -/
theorem closeBeforeConnection : Obligations.CloseBeforeConnection := by
  refine ⟨fun p w s hrun => ?_, fun s a b o v c e f r => ⟨failCaller_online o, failCaller_offline o,
    withdrawCallee_online v, withdrawCallee_offline v⟩⟩
  refine resultsInOrder_intro _ hrun (show exec (.close p w) s = answer s p (firstFailing _) _ from rfl) (by simp)
    fun _ => ?_
  have answered {u v : State} (h : u = v) : u.setResult p .ok 0#16 = v.setResult p .ok 0#16 := h ▸ rfl
  exact ⟨fun f hr => answered (closeAtRole_listening hr _), fun c a f o hr => answered (closeAtRole_offered hr _),
    fun c b hr hb => answered (closeAtRole_calling_online hr hb _),
    fun c b hr hb => answered (closeAtRole_calling_offline hr hb _)⟩

end Sys2Proof.Machine
end

section
/-! OPEN, ACCEPT and REJECT, and the three deadlines: of a request, of a drain and of a holdoff. -/

namespace Sys2Proof.Machine

theorem namesOutside_iff (w members : Word) : namesOutside w members = true ↔ w &&& ~~~members ≠ 0#16 :=
  bne_iff_ne

theorem maxWindow_lt_iff (n : Nat) : Config.maxWindow < n ↔ 8 < n :=
  Iff.rfl

theorem maxMessage_lt_iff (n : Nat) : Config.maxMessage < n ↔ 256 < n :=
  Iff.rfl

/-- A change of an endpoint goes by what it makes of that endpoint alone. -/
theorem modEndpoint_eq_of_endpoint {s : State} {e : EpId} {f g : Endpoint → Endpoint}
    (h : f (s.endpoint e) = g (s.endpoint e)) : s.modEndpoint e f = s.modEndpoint e g := by
  have he : f s.endpoints[e.val] = g s.endpoints[e.val] := h
  simp [State.modEndpoint, he]

/-- The role alone is rewritten, to a value that depends on the role it was. -/
theorem modEndpoint_role_eq_setRole {s : State} {e : EpId} {r r' : Role} {g : Role → Role} (h : s.role e = r)
    (hg : g r = r') : (s.modEndpoint e fun x => { x with role := g x.role }) = s.setRole e r' := by
  refine modEndpoint_eq_of_endpoint ?_
  exact congrArg (fun r => { s.endpoint e with role := r }) ((congrArg g h).trans hg)

/-! ## OPEN -/

/-- A request placed at a LISTENING target makes it OFFERED. -/
theorem placeRequestOn_listening {s : State} {a b : EpId} {f : Filter} (c : ChanId) (o : Offer)
    (hb : s.role b = .listening f) (hne : b ≠ a) :
    s.placeRequestOn c a b o =
      (((s.setChannel c (.requested a b o (afterMs s.now s.config.openTimeout))).setRole a (.calling c b)).setRole b
        (.offered c a f o)).setEndpointCond b .request := by
  have hkept : ((s.setChannel c (.requested a b o (afterMs s.now s.config.openTimeout))).setRole a
      (.calling c b)).role b = .listening f :=
    (role_congr (endpoint_modEndpoint_ne _ _ hne)).trans hb
  exact congrArg (·.setEndpointCond b .request)
    (modEndpoint_role_eq_setRole (g := fun r => r.takeOffer c a o) hkept rfl)

/-- Settles O20: the checks of OPEN are those of the model's list; past them the target is LISTENING, another endpoint
than the caller, and the search for a FREE channel finds the lowest. -/
theorem openPlacesRequest : Obligations.OpenPlacesRequest := by
  intro p w s hrun
  refine resultsInOrder_intro _ hrun (show exec (.openChannel p w) s = answer s p (firstFailing _) _ from rfl) ?_
    fun hpass => ?_
  · simp [namesOutside_iff, filteredOut_iff, State.freeChannel?_eq_none_iff, maxWindow_lt_iff, maxMessage_lt_iff]
  · simp only [List.forall_mem_cons, Bool.or_eq_false_iff, decide_eq_false_iff_not, Option.isNone_eq_false_iff,
      Option.isSome_iff_exists] at hpass
    obtain ⟨-, -, ⟨-, hne⟩, -, -, -, -, -, ⟨f, hf⟩, -, ⟨c, hc⟩, -⟩ := hpass
    obtain ⟨hfree, hlowest⟩ := s.freeChannel?_eq_some c hc
    have hlisten := Role.listening?_eq_some hf
    refine ⟨c, f, hfree, hlowest, hlisten, ?_⟩
    rw [acceptOpen, hc]
    exact congrArg (·.setResult p .ok (BitVec.ofNat 16 c.val)) (placeRequestOn_listening c (s.offerArgs p) hlisten hne)

/-! ## ACCEPT and REJECT -/

theorem acceptAccept_requested {s : State} {p : Port} {w : Word} {c : ChanId} {a a' b' : EpId} {f : Filter}
    {o o' : Offer} {d : Time} (hrole : s.role (endpointOf p w) = .offered c a f o)
    (hc : s.channel c = .requested a' b' o' d) :
    acceptAccept s p w =
      (s.openAgreed c (settledTerms a' b' o' (s.arg p 0).toNat (s.arg p 1).toNat (optionsOfWord (s.arg p 2))),
        BitVec.ofNat 16 c.val) := by
  rw [acceptAccept, hrole]
  simp only [Role.offered?]
  rw [hc]

/-- Settles O21: the checks of ACCEPT are those of the model's list, and its effect opens the channel on the settled
terms. -/
theorem acceptOpensChannel : Obligations.AcceptOpensChannel := by
  intro p w s hrun
  refine resultsInOrder_intro _ hrun (show exec (.accept p w) s = answer s p (firstFailing _) _ from rfl) ?_
    fun _ c a f o o' d hrole hc => ?_
  · simp [namesOutside_iff, State.noLiveRequest_iff, maxWindow_lt_iff, maxMessage_lt_iff]
  · rw [acceptAccept_requested hrole hc]
    rfl

/-- A rejected request frees its channel; the callee listens again with the filter it had. -/
theorem rejectAt_offered {s : State} {e a : EpId} {c : ChanId} {f : Filter} {o : Offer} (h : s.role e = .offered c a f o)
    (code : Word) :
    s.rejectAt e code = ((s.setChannel c .free).setRole e (.listening f)).failCaller a (.rejected code) := by
  rw [State.rejectAt, h]
  exact congrArg (·.failCaller a (.rejected code)) (modEndpoint_role_eq_setRole (s := s.setChannel c .free) h rfl)

/-- Settles O22: the checks of REJECT are those of the model's list; past them the caller's port is ONLINE, so the
caller's end of the failed request is written. -/
theorem rejectFreesChannel : Obligations.RejectFreesChannel := by
  intro p w s hrun
  refine resultsInOrder_intro _ hrun (show exec (.reject p w) s = answer s p (firstFailing _) _ from rfl) ?_
    fun hpass c a f o hrole => ?_
  · simp [State.noLiveRequest_iff]
  · simp only [List.forall_mem_cons, State.noLiveRequest, hrole, Role.offered?, Bool.not_eq_false'] at hpass
    obtain ⟨-, -, hcaller, -⟩ := hpass
    refine congrArg (·.setResult p .ok 0#16) ((rejectAt_offered hrole _).trans ?_)
    exact failCaller_online _ hcaller

/-! ## The open timeout -/

/-- A failed request leaves every port in the state it was. -/
theorem online_failCaller_setChannel (s : State) (c : ChanId) (x : Channel) (a : EpId) (o : OpenOutcome) (q : Port) :
    ((s.setChannel c x).failCaller a o).online q = s.online q :=
  (failCaller_onlyTells ..).online q

theorem timeOutRequest_online {s : State} {b : EpId} (h : s.online (portOf b) = true) (c : ChanId) (a : EpId) :
    s.timeOutRequest c a b =
      (((s.setChannel c .free).failCaller a .timeout).withdrawCallee b .timeout).reevaluate (portOf b) :=
  if_pos h

theorem timeOutRequest_offline {s : State} {b : EpId} (h : s.online (portOf b) = false) (c : ChanId) (a : EpId) :
    s.timeOutRequest c a b = ((s.setChannel c .free).failCaller a .timeout).setRole b .idle := by
  have hwithdraw : s.timeOutRequest c a b = ((s.setChannel c .free).failCaller a .timeout).withdrawCallee b .timeout :=
    if_neg (by simp [h])
  exact hwithdraw.trans (withdrawCallee_offline _ ((online_failCaller_setChannel ..).trans h))

section
variable {s : State} {c : ChanId} (hrun : s.chipReset = false)
include hrun

theorem exec_openTimeoutExpiry_reached {a b : EpId} {o : Offer} {d : Time} (hc : s.channel c = .requested a b o d)
    (hd : reached s.now d = true) : exec (.openTimeoutExpiry c) s = .next (s.timeOutRequest c a b) := by
  refine (taken_running hrun).trans (congrArg Host.Outcome.next ?_)
  rw [hc]
  exact if_pos hd

theorem exec_openTimeoutExpiry_not_reached
    (h : ∀ a b o d, s.channel c = .requested a b o d → reached s.now d = false) :
    exec (.openTimeoutExpiry c) s = .next s := by
  refine (taken_running hrun).trans (congrArg Host.Outcome.next ?_)
  split
  · next a b o d hc => exact if_neg (by simp [h a b o d hc])
  all_goals rfl

/-! ## The drain expiry -/

theorem exec_drainExpiry_reached {l : LiveChannel} {cl : Closers} {d : Time} (hc : s.channel c = .draining l cl (some d))
    (hd : reached s.now d = true) :
    exec (.drainExpiry c) s = .next (s.teardownLive c l cl .drainExpired .drainExpired) := by
  refine (taken_running hrun).trans (congrArg Host.Outcome.next ?_)
  rw [← teardown_draining hc, hc]
  exact if_pos hd

theorem exec_drainExpiry_not_reached
    (h : ∀ l cl d, s.channel c = .draining l cl (some d) → reached s.now d = false) :
    exec (.drainExpiry c) s = .next s := by
  refine (taken_running hrun).trans (congrArg Host.Outcome.next ?_)
  split
  · next l cl d hc => exact if_neg (by simp [h l cl d hc])
  all_goals rfl

/-! ## The holdoff expiry -/

theorem exec_holdoffExpiry_reached {p : Port} {d : Time} (hg : (s.port p).notification.state = .gathering)
    (hn : (s.port p).notification.deadline = some d) (hd : reached s.now d = true) :
    exec (.holdoffExpiry p) s = .next (s.modPort p fun x => { x with notification := x.notification.raise }) := by
  refine (taken_running hrun).trans (congrArg Host.Outcome.next ?_)
  rw [hn]
  exact if_pos ⟨hg, hd⟩

theorem exec_holdoffExpiry_not_reached {p : Port}
    (h : (s.port p).notification.state ≠ .gathering ∨
      ∀ d, (s.port p).notification.deadline = some d → reached s.now d = false) :
    exec (.holdoffExpiry p) s = .next s := by
  refine (taken_running hrun).trans (congrArg Host.Outcome.next ?_)
  split
  · rfl
  · next d hn =>
    refine if_neg fun ⟨hg, hd⟩ => ?_
    rcases h with hq | hlater
    · exact hq hg
    · exact absurd hd (by simp [hlater d hn])

end

/-- Settles O57: each of the three expiries acts when the count has reached a deadline that exists, and else changes
nothing. -/
theorem deadlinesExpire : Obligations.DeadlinesExpire := by
  refine ⟨fun s c hrun => ⟨fun a b o d hc hd hb => ?_, fun a b o d hc hd hb => ?_,
      exec_openTimeoutExpiry_not_reached hrun, fun l cl d => exec_drainExpiry_reached hrun,
      exec_drainExpiry_not_reached hrun⟩,
    fun s p hrun => ⟨fun d => exec_holdoffExpiry_reached hrun, exec_holdoffExpiry_not_reached hrun⟩⟩
  · rw [exec_openTimeoutExpiry_reached hrun hc hd, timeOutRequest_online hb]
  · rw [exec_openTimeoutExpiry_reached hrun hc hd, timeOutRequest_offline hb]

end Sys2Proof.Machine
end

section
/-! The effective lifetime of a message, and the staging buffer that its payload is written to. -/

namespace Sys2Proof.Machine

/-! ## The effective lifetime -/

/-- With EXPIRE agreed and a cap, a lifetime that was asked for is cut to the cap (R62). -/
theorem effectiveLifetime_capped {cap asked : Nat} (hcap : cap ≠ 0) (hasked : asked ≠ 0) :
    effectiveLifetime true cap asked = min asked cap := by
  simp [effectiveLifetime, hcap, hasked]

/-- Settles O55: without EXPIRE there is no lifetime, without a cap it is the one asked for, and a cap stands in for no
request and bounds every other. -/
theorem effectiveLifetime_by_option_and_cap : Obligations.EffectiveLifetime := by
  refine ⟨fun cap asked => rfl, fun asked => rfl, fun cap hcap => ?_, fun cap asked hcap hasked hle => ?_,
    fun cap asked hcap hlt => ?_⟩
  · simp [effectiveLifetime, hcap]
  · rw [effectiveLifetime_capped hcap hasked, Nat.min_eq_left hle]
  · rw [effectiveLifetime_capped hcap (Nat.ne_zero_of_lt hlt), Nat.min_eq_right hlt.le]

/-! ## The staging buffer -/

/-- Settles O46: each write has one guard, which is the statement's own split, and the reads are those of the map. -/
theorem stagingRegisters : Obligations.StagingRegisters := by
  intro p w s hrun x out
  refine ⟨fun hin hfree hptr => ?_, fun hignored => ?_, fun hin hfree hw => ?_, fun hignored => ?_,
    windowRead_mid hrun p (by decide) (by decide), windowRead_mid hrun p (by decide) (by decide)⟩
  · exact (taken_running hrun).trans (congrArg _ (if_neg (by simp [x, shown_of_not_out hin, hfree, hptr])))
  · exact (taken_running hrun).trans (congrArg _ (if_pos (hignored.imp_left hidden_of_out)))
  · exact (taken_running hrun).trans (congrArg _ (if_neg (by simp [x, shown_of_not_out hin, hfree, hw])))
  · exact (taken_running hrun).trans (congrArg _ (if_pos (hignored.imp_left hidden_of_out)))

end Sys2Proof.Machine
end

section
/-! SEND: its checks, and the acceptance that begins a copy-in. -/

namespace Sys2Proof.Machine

/-! ## Checks that stand in several lists -/

theorem firstFailing_append (l l' : List (Bool × ResultCode)) :
    firstFailing (l ++ l') = (firstFailing l).or (firstFailing l') := by
  induction l with
  | nil => rfl
  | cons x rest ih =>
    obtain ⟨fails, code⟩ := x
    cases fails
    · exact ih
    · rfl

theorem answer_append (s : State) (p : Port) (l l' : List (Bool × ResultCode)) (acc : State × Word) :
    answer s p ((firstFailing l).or (firstFailing l')) acc = answer s p (firstFailing (l ++ l')) acc := by
  rw [firstFailing_append]

/-- A command whose first checks are this list gives their results in order, whatever it answers past them. -/
theorem resultsInOrder_of_first {c : Instr} {p : Port} {s : State} {A : State → Prop} :
    ∀ l : List (Bool × ResultCode),
      (∀ code, firstFailing l = some code → exec c s = .next (s.setResult p code 0#16)) →
      (firstFailing l = none → ∃ t, exec c s = .next t ∧ A t) →
      ResultsInOrder c p s A (l.map fun x => (x.1 = true, x.2))
  | [], _, hpass => hpass rfl
  | (true, code) :: _, hfail, _ => ⟨fun _ => hfail code rfl, fun hn => absurd rfl hn⟩
  | (false, _) :: rest, hfail, hpass =>
    ⟨fun hf => by simp at hf, fun _ => resultsInOrder_of_first rest hfail hpass⟩

/-! ## The checks of SEND -/

section
variable {s : State} {p : Port} {w : Word} {c : ChanId} {x : EpId} {q : List RecId} {n : Nat} {l : LiveChannel}

theorem sendRefusal_host {code : ResultCode} (h : sendHostRefusal s p w = some code) : sendRefusal s p w = some code := by
  rw [sendRefusal, h]

theorem openChannelOf_connected {e : EpId} (hrole : s.role e = .connected c x q n) (hc : s.channel c = .opened l) :
    s.openChannelOf e = some (c, l) := by
  simp only [State.openChannelOf, hrole, hc]

/-- Past the checks before the channel's, those of the channel and of the allocation decide. -/
theorem sendRefusal_opened (hhost : sendHostRefusal s p w = none) (ho : s.openChannelOf (endpointOf p w) = some (c, l)) :
    sendRefusal s p w =
      (sendChannelRefusal s p (endpointOf p w) l).or (s.allocationRefusal p (blocksFor (s.arg p 0).toNat)) := by
  rw [sendRefusal, hhost, ho]
  dsimp only
  cases sendChannelRefusal s p (endpointOf p w) l <;> rfl

/-- A CONNECTED endpoint passes the checks before the channel's when the port and the arguments do. -/
theorem sendHostRefusal_connected (honline : s.online p = true) (hunit : (s.port p).sendUnit = none) (hw : w.toNat ≤ 7)
    (hlen : (s.arg p 0).toNat ≤ 256) (hflags : s.arg p 3 &&& ~~~1#16 = 0#16)
    (hrole : s.role (endpointOf p w) = .connected c x q n) : sendHostRefusal s p w = none := by
  have hflags' : namesOutside (s.arg p 3) 1#16 = false := by
    rw [← Bool.not_eq_true, namesOutside_iff]
    exact not_not_intro hflags
  have hlen' : ¬Config.maxMessage < (s.arg p 0).toNat := by
    rw [maxMessage_lt_iff]
    omega
  refine firstFailing_eq_none.2 ?_
  simp [honline, hunit, hw, hlen', hflags', hrole, Role.isClosing, Role.isConnected]

theorem notAgreed_iff (s : State) (p : Port) (o : Options) :
    notAgreed s p o = true ↔ (s.arg p 3).getLsbD 0 = true ∧ o.rcpt = false ∨ s.arg p 4 ≠ 0#16 ∧ o.expire = false := by
  have h4 : (s.arg p 4).toNat ≠ 0 ↔ s.arg p 4 ≠ 0#16 := by
    rw [ne_eq, ne_eq, BitVec.toNat_eq]
    rfl
  simp [notAgreed, h4]

theorem receiptSpaceFull_iff (s : State) (p : Port) :
    s.receiptSpaceFull p = true ↔ 16 ≤ (s.port p).receipts.queue.length + (s.port p).receipts.reserved :=
  decide_eq_true_iff

end

/-! ## What an acceptance does -/

theorem modPort_modPort (s : State) (p : Port) (f g : PortRec → PortRec) :
    (s.modPort p f).modPort p g = s.modPort p fun x => g (f x) := by
  simp [State.modPort]

/-- A change of a port goes by what it makes of that port alone. -/
theorem modPort_eq_of_port {s : State} {p : Port} {f g : PortRec → PortRec} (h : f (s.port p) = g (s.port p)) :
    s.modPort p f = s.modPort p g := by
  have hp : f s.ports[p.val] = g s.ports[p.val] := h
  simp [State.modPort, hp]

/-- The acceptance as the statements tell it is an allocation with its reservation (R8, R95). -/
theorem takeIn_eq_accepted (s : State) (r : RecId) {m : Message} {p : Port} (h : portOf m.origin = p) :
    s.takeIn p r m = s.accepted p r m := by
  subst h
  unfold State.takeIn State.accepted State.allocate State.modAccount State.reserveReceipt
  dsimp only
  cases m.receiptRequested with
  | false => exact (if_neg Bool.false_ne_true).trans (modPort_eq_of_port rfl)
  | true => exact (if_pos rfl).trans (modPort_modPort ..)

/-- The message of an accepted SEND at endpoint e of port p, on channel c that carries l (R63). -/
def State.sentMessage (s : State) (p : Port) (e : EpId) (c : ChanId) (l : LiveChannel) : Message :=
  s.newMessage p e (.channel c (l.sendingFrom e)) (l.direction (l.sendingFrom e)).nextSequence

section
variable {s : State} {p : Port} {c : ChanId} {l : LiveChannel}

/-- On an OPEN channel the credit and the sequence number are those of the channel as it was (R63). -/
theorem acceptChannelMessage_opened (r : RecId) (e : EpId) (hc : s.channel c = .opened l) :
    s.acceptChannelMessage p r e c l =
      (s.takeIn p r (s.sentMessage p e c l)).setChannel c (.opened (l.modDirection (l.sendingFrom e) Direction.spend)) := by
  rw [acceptChannelMessage_eq, State.modLive, channel_congr (takeIn_channels ..), hc]
  rfl

theorem beginTransfer_setChannel_opened (s : State) (c : ChanId) (l : LiveChannel) :
    (s.setChannel c (.opened l)).beginTransfer c = s.setChannel c (.opened { l with transfers := l.transfers + 1 }) := by
  rw [State.beginTransfer, State.modLive, channel_setChannel_self, setChannel_setChannel]
  rfl

theorem acceptSend_opened {w : Word} {r : RecId} (ho : s.openChannelOf (endpointOf p w) = some (c, l))
    (hr : s.freeRecord? = some r) :
    acceptSend s p w =
      ((s.acceptChannelMessage p r (endpointOf p w) c l).beginChannelCopy p r c (s.arg p 0).toNat
          (effectiveLifetime l.options.expire s.config.maxLifetime (s.arg p 4).toNat),
        (l.direction (l.sendingFrom (endpointOf p w))).nextSequence) := by
  unfold acceptSend
  dsimp only
  rw [ho, hr]

/-- The acceptance of a message of one block or more. -/
theorem acceptSend_copyInBegun {w : Word} {r : RecId} (ho : s.openChannelOf (endpointOf p w) = some (c, l))
    (hr : s.freeRecord? = some r) (hlen : 0 < (s.arg p 0).toNat) :
    acceptSend s p w =
      (((s.accepted p r (s.sentMessage p (endpointOf p w) c l)).setChannel c
          (.opened
            { l.modDirection (l.sendingFrom (endpointOf p w)) Direction.spend with
              transfers := l.transfers + 1 })).copyInBegun p
          { record := r, kind := .channel, next := 0, remaining := blocksFor (s.arg p 0).toNat,
            lifetime := effectiveLifetime l.options.expire s.config.maxLifetime (s.arg p 4).toNat, cancelled := false },
        (l.direction (l.sendingFrom (endpointOf p w))).nextSequence) := by
  have hblocks : blocksFor (s.arg p 0).toNat ≠ 0 := by
    unfold blocksFor
    omega
  obtain ⟨htransfers, -, -⟩ := l.modDirection_frame (l.sendingFrom (endpointOf p w)) Direction.spend
  rw [acceptSend_opened ho hr, acceptChannelMessage_opened r _ (openChannelOf_eq_some ho).2, State.beginChannelCopy,
    if_neg hblocks, beginTransfer_setChannel_opened, htransfers,
    takeIn_eq_accepted s r (m := s.sentMessage p (endpointOf p w) c l) (portOf_endpointOf p w)]
  rfl

end

/-- Settles O27: the results are those of the model's two lists, one after the other; past them the search for a FREE
record finds one, and enough blocks are free. -/
theorem sendBeginsCopyIn : Obligations.SendBeginsCopyIn := by
  refine ⟨fun p w s hrun => ?_, ?_⟩
  · have hchecks := resultsInOrder_of_first (c := .send p w) (p := p) (s := s) (A := fun _ => True) _
      (show ∀ code, firstFailing _ = some code → _ from fun code (h : sendHostRefusal s p w = some code) =>
        (congrArg (answer s p · (acceptSend s p w)) (sendRefusal_host h)).trans (answer_some hrun))
      fun _ => ⟨_, rfl, trivial⟩
    simpa [namesOutside_iff, maxMessage_lt_iff, Option.isSome_iff_ne_none] using hchecks
  · intro p w s c x q n l e len d hrun honline hunit hw hlen hflags hrole hc
    have hhost := sendHostRefusal_connected honline hunit hw hlen hflags hrole
    have ho := openChannelOf_connected hrole hc
    refine resultsInOrder_intro _ hrun
      ((congrArg (answer s p · (acceptSend s p w)) (sendRefusal_opened hhost ho)).trans (answer_append ..)) ?_
      fun hpass hpos => ?_
    · have hblocks : (len + 31) / 32 = blocksFor len := rfl
      have hfree : ((List.finRange 128).filter fun b => s.blockPlaces[b] = .free) = s.freeBlocks := rfl
      rw [hblocks, hfree]
      simp [notAgreed_iff, receiptSpaceFull_iff, State.freeRecord?_eq_none_iff, e, len, d]
    · simp only [List.cons_append, List.nil_append, List.forall_mem_cons, decide_eq_false_iff_not, not_lt,
        Option.isNone_eq_false_iff, Option.isSome_iff_exists] at hpass
      obtain ⟨-, -, -, -, -, -, ⟨r, hr⟩, hblocks, -⟩ := hpass
      obtain ⟨hcount, hnodup, hfree⟩ := s.take_freeBlocks _ hblocks
      refine ⟨r, _, (s.freeRecord?_eq_some r hr).1, hcount, hnodup, hfree, ?_⟩
      rw [acceptSend_copyInBegun ho hr hpos]
      rfl

end Sys2Proof.Machine
end

section
/-! SEND of a message of length 0, which completes in the event of its acceptance. -/

namespace Sys2Proof.Machine

/-! ## Past the checks -/

section
variable {s : State} {p : Port} {l : LiveChannel}

theorem sendChannelRefusal_eq_none {e : EpId} (hlen : (s.arg p 0).toNat ≤ l.maxLength)
    (hreceipt : (s.arg p 3).getLsbD 0 = true →
      l.options.rcpt = true ∧ (s.port p).receipts.queue.length + (s.port p).receipts.reserved < 16)
    (hlife : s.arg p 4 ≠ 0#16 → l.options.expire = true) (hcredit : (l.direction (l.sendingFrom e)).credits ≠ 0) :
    sendChannelRefusal s p e l = none := by
  have hagreed : notAgreed s p l.options = false := by
    rw [← Bool.not_eq_true, notAgreed_iff]
    rintro (⟨hasked, hno⟩ | ⟨hasked, hno⟩)
    · simp [hreceipt hasked] at hno
    · simp [hlife hasked] at hno
  have hspace : ((s.arg p 3).getLsbD 0 && s.receiptSpaceFull p) = false := by
    rw [← Bool.not_eq_true, Bool.and_eq_true, receiptSpaceFull_iff]
    rintro ⟨hasked, hfull⟩
    exact absurd (hreceipt hasked).2 (by omega)
  refine firstFailing_eq_none.2 ?_
  simp only [List.forall_mem_cons, hagreed, hspace, hcredit, Nat.not_lt.2 hlen]
  simp

/-- An allocation of no block passes with a FREE record and room in the quotas (R8). -/
theorem allocationRefusal_zero (hrecords : (s.port p).account.chargedRecords + 1 ≤ (s.port p).account.recordQuota)
    (hblocks : (s.port p).account.chargedBlocks ≤ (s.port p).account.blockQuota) {r : RecId}
    (hr : s.freeRecord? = some r) : s.allocationRefusal p 0 = none := by
  refine firstFailing_eq_none.2 ?_
  simp only [List.forall_mem_cons, hr, decide_eq_false_iff_not, Nat.not_lt]
  exact ⟨hrecords, hblocks, rfl, Nat.zero_le _, List.forall_mem_nil _⟩

end

/-! ## Parts of the state read one by one -/

theorem ext_blockPlaces {s t : State} (h : ∀ b : BlockId, t.blockPlaces[b] = s.blockPlaces[b]) :
    t.blockPlaces = s.blockPlaces :=
  Vector.ext fun i hi => h ⟨i, hi⟩

theorem ext_records {s t : State} (h : ∀ r, t.record r = s.record r) : t.records = s.records :=
  Vector.ext fun i hi => h ⟨i, hi⟩

/-! ## An acceptance and its completion up to the outcome -/

/-- What an acceptance on channel c and its completion leave alone before the outcome is written, when no block is
moved. -/
structure State.Spares (s t : State) (c : ChanId) : Prop where
  cores : t.cores = s.cores
  blockPlaces : t.blockPlaces = s.blockPlaces
  groups : t.groups = s.groups
  store : t.store = s.store
  fixed : t.fixed = s.fixed
  channels : ∀ k, k ≠ c → t.channel k = s.channel k

theorem State.Spares.trans {s t u : State} {c : ChanId} (h : s.Spares t c) (h' : t.Spares u c) : s.Spares u c where
  cores := h'.cores.trans h.cores
  blockPlaces := h'.blockPlaces.trans h.blockPlaces
  groups := h'.groups.trans h.groups
  store := h'.store.trans h.store
  fixed := h'.fixed.trans h.fixed
  channels k hk := (h'.channels k hk).trans (h.channels k hk)

theorem takeIn_spares (s : State) (p : Port) (r : RecId) {m : Message} (hm : m.blocks = []) (c : ChanId) :
    s.Spares (s.takeIn p r m) c where
  cores := takeIn_cores ..
  blockPlaces := ext_blockPlaces fun b => by rw [takeIn_place, hm, if_neg List.not_mem_nil]
  groups := takeIn_groups ..
  store := takeIn_store ..
  fixed := takeIn_fixed ..
  channels k _ := channel_congr (takeIn_channels ..) k

theorem setChannel_spares (s : State) (c : ChanId) (x : Channel) : s.Spares (s.setChannel c x) c :=
  ⟨rfl, rfl, rfl, rfl, rfl, fun _ hk => channel_setChannel_ne _ _ hk⟩

/-- A delivery, up to the outcome, of a message that was not counted as a transfer (R66, R69). -/
def State.arrived (s : State) (r : RecId) (e : EpId) (life : Nat) : State :=
  (s.append e r).makeLive r 1 life

theorem arrived_spares (s : State) (r : RecId) (e : EpId) (life : Nat) (c : ChanId) : s.Spares (s.arrived r e life) c where
  cores := by simp [State.arrived]
  blockPlaces := by simp [State.arrived]
  groups := by simp [State.arrived]
  store := by simp [State.arrived]
  fixed := by simp [State.arrived]
  channels k _ := channel_congr (by simp [State.arrived]) k

theorem claim_spares (s : State) {r : RecId} {m : Message} (hr : s.record r = .filling m) (h1 : m.count = 1)
    (hm : m.blocks = []) (cause : Cause) (c : ChanId) : s.Spares (s.claim r 1 none cause) c where
  cores := claim_cores ..
  blockPlaces := ext_blockPlaces fun b => by
    rw [claim_copyIn cause (by rw [hr]; rfl) h1, release_places, if_neg (by simp [hm])]
  groups := claim_groups ..
  store := claim_store ..
  fixed := claim_fixed ..
  channels k _ := channel_congr (claim_channels ..) k

/-- The end of a message that was not counted, on an OPEN channel: its credit returns (R68, R69). -/
theorem endMessageTransfer_uncounted {s : State} {c : ChanId} {l : LiveChannel} (h : s.channel c = .opened l) (d : Dirn) :
    s.endMessageTransfer c d false = s.setChannel c (.opened (l.modDirection d Direction.refund)) := by
  have hreturned : s.returnCredit c d = s.setChannel c (.opened (l.modDirection d Direction.refund)) := by
    rw [State.returnCredit, State.modLive, h]
    rfl
  show (s.returnCredit c d).drainTest c = _
  rw [hreturned, State.drainTest, channel_setChannel_self]

theorem completeCopyIn_uncounted_deliver {s : State} {r : RecId} {m : Message} {c : ChanId} {d : Dirn} {l : LiveChannel}
    (p : Port) (life : Nat) (hr : s.record r = .filling m) (hl : m.link = .channel c d) (hc : s.channel c = .opened l)
    (ho : s.online (portOf (l.receiver d)) = true) :
    s.completeCopyIn p r life false = (s.arrived r (l.receiver d) life).copyInDone p m .delivered 1 := by
  simp only [State.completeCopyIn, hr, message?_filling, hl, State.completeChannelCopy, hc, Channel.live?, ho, if_true]
  rfl

theorem completeCopyIn_uncounted_discard {s : State} {r : RecId} {m : Message} {c : ChanId} {d : Dirn} {l : LiveChannel}
    (p : Port) (life : Nat) (hr : s.record r = .filling m) (hl : m.link = .channel c d) (hc : s.channel c = .opened l)
    (ho : s.online (portOf (l.receiver d)) = false) :
    s.completeCopyIn p r life false =
      ((s.claim r 1 none .discarded).setChannel c (.opened (l.modDirection d Direction.refund))).copyInDone p m .discarded
        0 := by
  rw [← endMessageTransfer_uncounted ((channel_congr (claim_channels ..) c).trans hc)]
  simp only [State.completeCopyIn, hr, message?_filling, hl, State.completeChannelCopy, hc, Channel.live?, ho]
  rfl

/-! ## The state that an acceptance hands to its completion -/

/-- Record r taken in and its direction's credit spent, before anything is copied (R63). -/
def State.sent (s : State) (p : Port) (r : RecId) (m : Message) (c : ChanId) (l : LiveChannel) (d : Dirn) : State :=
  (s.takeIn p r m).setChannel c (.opened (l.modDirection d Direction.spend))

/-- Record r released again and the credit back, before the outcome is written (R68). -/
def State.unsent (s : State) (p : Port) (r : RecId) (m : Message) (c : ChanId) (l : LiveChannel) (d : Dirn) : State :=
  ((s.sent p r m c l d).claim r 1 none .discarded).setChannel c
    (.opened ((l.modDirection d Direction.spend).modDirection d Direction.refund))

theorem modDirection_receiver (l : LiveChannel) (d k : Dirn) (f : Direction → Direction) :
    (l.modDirection d f).receiver k = l.receiver k := by
  cases d <;> cases k <;> rfl

/-- A direction is changed by what it is alone. -/
theorem modDirection_const (l : LiveChannel) (d : Dirn) (f : Direction → Direction) :
    l.modDirection d f = l.modDirection d fun _ => f (l.direction d) := by
  cases d <;> rfl

/-- A credit spent and returned leaves the sequence number consumed (R63, R68). -/
theorem modDirection_spend_refund {l : LiveChannel} {d : Dirn} (h : (l.direction d).credits ≠ 0) :
    (l.modDirection d Direction.spend).modDirection d Direction.refund =
      l.modDirection d fun _ => { l.direction d with nextSequence := (l.direction d).nextSequence + 1#16 } := by
  have hback : (l.direction d).spend.refund =
      { l.direction d with nextSequence := (l.direction d).nextSequence + 1#16 } := by
    simp only [Direction.spend, Direction.refund, Nat.sub_add_cancel (Nat.pos_of_ne_zero h), Nat.add_sub_cancel]
  rw [← hback]
  cases d <;> rfl

section
variable {s : State} {p : Port} {r : RecId} {m : Message} {c : ChanId} {l : LiveChannel} {d : Dirn}

theorem sent_spares (hm : m.blocks = []) : s.Spares (s.sent p r m c l d) c :=
  (takeIn_spares s p r hm c).trans (setChannel_spares ..)

theorem sent_record (k : RecId) : (s.sent p r m c l d).record k = if k = r then .filling m else s.record k :=
  takeIn_record ..

theorem sent_record_self : (s.sent p r m c l d).record r = .filling m :=
  (sent_record r).trans (if_pos rfl)

theorem sent_channel : (s.sent p r m c l d).channel c = .opened (l.modDirection d Direction.spend) :=
  channel_setChannel_self ..

theorem sent_online (q : Port) : (s.sent p r m c l d).online q = s.online q :=
  online_of_cores ((setChannel_cores ..).trans (takeIn_cores ..)) q

theorem sent_endpoints : (s.sent p r m c l d).endpoints = s.endpoints :=
  takeIn_endpoints ..

theorem sent_port (ho : portOf m.origin = p) : (s.sent p r m c l d).port p = (s.port p).takeIn m :=
  (takeIn_port ho r p).trans (if_pos rfl)

end

/-! ## What holds after either completion -/

section
variable {s x : State} {p : Port} {m : Message} {c : ChanId} {e : SendEnd} {n : Nat} {v : Word}

/-- An answered command shows what its completion left of the port, but for RESULT and RESULT_VALUE. -/
theorem setResult_port (s : State) (p : Port) (code : ResultCode) (v : Word) :
    (s.setResult p code v).port p =
      { s.port p with host := { (s.port p).host with result := code, resultValue := v } } :=
  port_modPort_self ..

theorem copyInDone_answered (hx : s.Spares x c) (ho : s.online p = true) :
    let t := (x.copyInDone p m e n).setResult p .ok v
    (t.port p).host.result = .ok ∧ (t.port p).host.resultValue = v ∧ (t.port p).sendUnit = none ∧
      (t.port p).staging = { (s.port p).staging with locked := false, pointer := 0 } ∧ t.blockPlaces = s.blockPlaces ∧
      t.groups = s.groups ∧ s.SameMemory t ∧ s.SameClock t ∧ (∀ k, k ≠ c → t.channel k = s.channel k) ∧
      t.HasCond p portItem .sendDone := by
  intro t
  have hport : t.port p = _ := setResult_port ..
  rw [hport]
  refine ⟨rfl, rfl, copyInDone_sendUnit .., ?_, ?_, ?_, sameMemory_of_store ?_, sameClock_of_fixed ?_, fun k hk => ?_, ?_⟩
  · exact (copyInDone_staging ..).trans (by rw [staging_of_cores hx.cores])
  · exact (copyInDone_blockPlaces ..).trans hx.blockPlaces
  · exact (copyInDone_groups ..).trans hx.groups
  · exact (copyInDone_store ..).trans hx.store
  · exact (modPort_fixed ..).trans ((writeSendOutcome_fixed ..).trans hx.fixed)
  · exact (channel_congr (copyInDone_channels ..) k).trans (hx.channels k hk)
  · exact hasCond_setResult _ _ _ _ (copyInDone_sendDone m e n ((online_of_cores hx.cores p).trans ho))

theorem copyInDone_answered_channel (k : ChanId) :
    ((x.copyInDone p m e n).setResult p .ok v).channel k = x.channel k :=
  channel_congr (copyInDone_channels ..) k

theorem copyInDone_answered_record (k : RecId) :
    ((x.copyInDone p m e n).setResult p .ok v).record k = x.record k :=
  record_congr (copyInDone_records ..) k

theorem copyInDone_answered_role (k : EpId) :
    ((x.copyInDone p m e n).setResult p .ok v).role k = x.role k :=
  role_congr (endpoint_congr (copyInDone_endpoints ..) k)

theorem copyInDone_answered_outcome :
    (((x.copyInDone p m e n).setResult p .ok v).port p).sendOutcome = m.sendOutcome e n := by
  rw [setResult_port]
  exact copyInDone_outcome ..

theorem copyInDone_answered_receipts :
    (((x.copyInDone p m e n).setResult p .ok v).port p).receipts = (x.port p).receipts := by
  rw [setResult_port]
  exact (copyInDone_keepsReceipts ..).receipts p

theorem copyInDone_answered_account :
    (((x.copyInDone p m e n).setResult p .ok v).port p).account = (x.port p).account := by
  rw [setResult_port]
  show (((x.writeSendOutcome p m e n).sendUnitDone p).port p).account = _
  rw [State.sendUnitDone, port_modPort_self]
  show ((x.writeSendOutcome p m e n).port p).account = _
  unfold State.writeSendOutcome State.setPortCond State.setCond
  split
  · rw [port_modPort_self, port_modPort_self]
  · rw [port_modPort_self]

end

/-! ## The two completions -/

section
variable {s : State} {p : Port} {r : RecId} {m : Message} {c : ChanId} {l : LiveChannel} {d : Dirn}

theorem sent_completes_online (hl : m.link = .channel c d) (life : Nat)
    (ho : s.online (portOf (l.receiver d)) = true) :
    (s.sent p r m c l d).completeCopyIn p r life false =
      ((s.sent p r m c l d).arrived r (l.receiver d) life).copyInDone p m .delivered 1 := by
  have hreceiver := modDirection_receiver l d d Direction.spend
  rw [completeCopyIn_uncounted_deliver p life sent_record_self hl sent_channel, hreceiver]
  rw [hreceiver, sent_online, ho]

theorem sent_completes_offline (hl : m.link = .channel c d) (life : Nat)
    (ho : s.online (portOf (l.receiver d)) = false) :
    (s.sent p r m c l d).completeCopyIn p r life false = (s.unsent p r m c l d).copyInDone p m .discarded 0 := by
  have hreceiver := modDirection_receiver l d d Direction.spend
  rw [completeCopyIn_uncounted_discard p life sent_record_self hl sent_channel]
  · rfl
  · rw [hreceiver, sent_online, ho]

/-! ## What a delivery leaves -/

theorem sent_deadlineFor (life : Nat) : (s.sent p r m c l d).deadlineFor life = s.deadlineFor life := by
  have hnow : (s.sent p r m c l d).now = s.now := now_of_fixed (takeIn_fixed ..)
  unfold State.deadlineFor
  rw [hnow]

theorem sent_arrived_record (e : EpId) (life : Nat) (h1 : m.count = 1) :
    ((s.sent p r m c l d).arrived r e life).record r = .live m (s.deadlineFor life) :=
  (delivered_record_self c e life sent_record_self h1).trans (by rw [sent_deadlineFor])

theorem sent_arrived_role (e : EpId) (life : Nat) :
    ((s.sent p r m c l d).arrived r e life).role e = (s.role e).withQueue ((s.role e).queue ++ [r]) := by
  have hrole : (s.sent p r m c l d).role e = s.role e := role_congr (endpoint_congr sent_endpoints e)
  have h := congrArg Endpoint.role ((delivered_endpoint (s.sent p r m c l d) r c e life e).trans (if_pos rfl))
  rw [hrole] at h
  exact h

theorem sent_arrived_channel (e : EpId) (life : Nat) :
    ((s.sent p r m c l d).arrived r e life).channel c = .opened (l.modDirection d Direction.spend) :=
  (channel_congr (s := s.sent p r m c l d) (by simp [State.arrived]) c).trans sent_channel

theorem sent_arrived_arrival (life : Nat) {e : EpId} (ho : s.online (portOf e) = true) :
    ((s.sent p r m c l d).arrived r e life).HasCond (portOf e) (itemOf (localOf e)) .arrival :=
  hasCond_of_ports (makeLive_ports ..) (append_hasCond r ((sent_online _).trans ho))

theorem sent_arrived_receipts (e : EpId) (life : Nat) (hp : portOf m.origin = p) :
    (((s.sent p r m c l d).arrived r e life).port p).receipts =
      { (s.port p).receipts with
        reserved := (s.port p).receipts.reserved + if m.receiptRequested then 1 else 0 } := by
  have hkept := ((makeLive_keepsReceipts _ r 1 life).after (append_keepsReceipts (s.sent p r m c l d) e r)).receipts p
  rw [State.arrived, hkept, sent_port hp, PortRec.takeIn]
  cases m.receiptRequested <;> rfl

/-! ## What a discard leaves: all but the sequence number is as before -/

theorem unsent_spares (hm : m.blocks = []) (h1 : m.count = 1) : s.Spares (s.unsent p r m c l d) c :=
  (sent_spares hm).trans ((claim_spares _ sent_record_self h1 hm .discarded c).trans (setChannel_spares ..))

theorem unsent_channel (hcredit : (l.direction d).credits ≠ 0) :
    (s.unsent p r m c l d).channel c =
      .opened (l.modDirection d fun _ => { l.direction d with nextSequence := (l.direction d).nextSequence + 1#16 }) := by
  rw [← modDirection_spend_refund hcredit]
  exact channel_setChannel_self ..

theorem unsent_records (hr : s.record r = .free) (h1 : m.count = 1) : (s.unsent p r m c l d).records = s.records := by
  refine ext_records fun k => ?_
  show ((s.sent p r m c l d).claim r 1 none .discarded).record k = s.record k
  by_cases hk : k = r
  · rw [hk, claim_record_released _ (congrArg MsgRecord.message? sent_record_self) h1.le, hr]
  · rw [claim_record_ne _ _ _ _ hk, sent_record, if_neg hk]

theorem unsent_endpoints : (s.unsent p r m c l d).endpoints = s.endpoints :=
  (claim_endpoints ..).trans sent_endpoints

theorem unsent_account (hm : m.blocks = []) (h1 : m.count = 1) (hp : portOf m.origin = p) :
    ((s.unsent p r m c l d).port p).account = (s.port p).account := by
  show (((s.sent p r m c l d).claim r 1 none .discarded).port p).account = _
  rw [claim_copyIn _ (congrArg MsgRecord.message? sent_record_self) h1, release_account, if_pos hp.symm, sent_port hp]
  simp [PortRec.takeIn, hm]

/-- The receipt of a discard is posted out of the reservation that the acceptance made (R68, R95, R96). -/
theorem unsent_receipts (h1 : m.count = 1) (hp : portOf m.origin = p) (ho : s.online p = true) :
    ((s.unsent p r m c l d).port p).receipts =
      if m.receiptRequested then
        { (s.port p).receipts with queue := (s.port p).receipts.queue ++ [receiptOf m .discarded] }
      else (s.port p).receipts := by
  have hclaim := claim_copyIn_handedOff (s := s.sent p r m c l d) .discarded
    (congrArg MsgRecord.message? sent_record_self) h1 p
  show (((s.sent p r m c l d).claim r 1 none .discarded).port p).receipts = _
  rw [hclaim.1, sent_online, ho, sent_port hp, Message.receiptAt]
  cases hreq : m.receiptRequested <;> simp [PortRec.takeIn, ReceiptUnit.after, hreq, hp]

end

/-! ## The statement -/

/-- The message of a SEND of length 0. -/
theorem sentMessage_zero {s : State} {p : Port} (hlen : s.arg p 0 = 0#16) (e : EpId) (c : ChanId) (l : LiveChannel) :
    s.sentMessage p e c l =
      { origin := e, link := .channel c (l.sendingFrom e), sequence := (l.direction (l.sendingFrom e)).nextSequence,
        tag := s.arg p 2 ++ s.arg p 1, length := 0, blocks := [], badMarks := [],
        receiptRequested := (s.arg p 3).getLsbD 0, count := 1, damaged := false,
        tallies := { fetched := 0, expired := 0, discarded := 0, skipped := 0 } } := by
  rw [State.sentMessage, State.newMessage, hlen]
  rfl

/-- The acceptance of a message of length 0. -/
theorem acceptSend_zero {s : State} {p : Port} {w : Word} {r : RecId} {c : ChanId} {l : LiveChannel}
    (ho : s.openChannelOf (endpointOf p w) = some (c, l)) (hr : s.freeRecord? = some r) (hlen : s.arg p 0 = 0#16) :
    acceptSend s p w =
      ((s.sent p r (s.sentMessage p (endpointOf p w) c l) c l (l.sendingFrom (endpointOf p w))).completeCopyIn p r
          (effectiveLifetime l.options.expire s.config.maxLifetime (s.arg p 4).toNat) false,
        (l.direction (l.sendingFrom (endpointOf p w))).nextSequence) := by
  rw [acceptSend_opened ho hr, acceptChannelMessage_opened r _ (openChannelOf_eq_some ho).2, State.beginChannelCopy, hlen]
  rfl

/-- What an accepted SEND of length 0 answers: the completion of the state that its acceptance leaves (R69). -/
theorem exec_send_zero {s : State} {p : Port} {w : Word} {r : RecId} {c : ChanId} {l : LiveChannel}
    (hrun : s.chipReset = false) (hpass : sendRefusal s p w = none)
    (ho : s.openChannelOf (endpointOf p w) = some (c, l)) (hr : s.freeRecord? = some r) (hlen : s.arg p 0 = 0#16) :
    exec (.send p w) s =
      .next
        (((s.sent p r (s.sentMessage p (endpointOf p w) c l) c l (l.sendingFrom (endpointOf p w))).completeCopyIn p r
          (effectiveLifetime l.options.expire s.config.maxLifetime (s.arg p 4).toNat) false).setResult p .ok
          (l.direction (l.sendingFrom (endpointOf p w))).nextSequence) := by
  have hanswer : exec (.send p w) s = answer s p (sendRefusal s p w) (acceptSend s p w) := rfl
  rw [hanswer, hpass, answer_none hrun, acceptSend_zero ho hr hlen]

/-- Settles O28: no check fails, nothing is copied, and the completion goes by the receiving port's state. -/
theorem sendOfLengthZeroCompletes : Obligations.SendOfLengthZeroCompletes := by
  intro p w s c x q n l e d y hrun honline hunit hw hlen hflags hrole hc hreceipt hlife hcredit hrecords hblocks hfree
  obtain ⟨r, hr⟩ : ∃ r, s.freeRecord? = some r := by
    rw [← Option.ne_none_iff_exists', ne_eq, State.freeRecord?_eq_none_iff]
    exact fun hnone => hfree.elim fun r hr => hnone r hr
  have hrfree := (s.freeRecord?_eq_some r hr).1
  have hlen' : (s.arg p 0).toNat = 0 := by rw [hlen]; rfl
  have ho := openChannelOf_connected hrole hc
  have hpass : sendRefusal s p w = none := by
    rw [sendRefusal_opened (sendHostRefusal_connected honline hunit hw (by omega) hflags hrole) ho,
      sendChannelRefusal_eq_none (by omega) hreceipt hlife hcredit, hlen']
    exact allocationRefusal_zero hrecords hblocks hr
  have hm := sentMessage_zero hlen e c l
  have hp : portOf (s.sentMessage p e c l).origin = p := portOf_endpointOf p w
  have hl : (s.sentMessage p e c l).link = .channel c d := rfl
  have h1 : (s.sentMessage p e c l).count = 1 := rfl
  have hb : (s.sentMessage p e c l).blocks = [] := by rw [hm]
  refine ⟨_, exec_send_zero hrun hpass ho hr hlen, ?_⟩
  dsimp only
  generalize s.sentMessage p e c l = m at hm hp hl h1 hb ⊢
  cases hrecv : s.online (portOf (l.receiver d)) with
  | true =>
    rw [sent_completes_online hl _ hrecv]
    obtain ⟨hresult, hvalue, hunit, hstaging, hplaces, hgroups, hmemory, hclock, hchannels, hdone⟩ :=
      copyInDone_answered ((sent_spares hb).trans (arrived_spares ..)) honline
    refine ⟨hresult, hvalue, hunit, hstaging, hplaces, hgroups, hmemory, hclock, hchannels, hdone,
      fun _ => ⟨?_, ?_, ?_, ?_, r, hrfree, ?_, ?_⟩, fun h => nomatch h⟩
    · rw [copyInDone_answered_channel, sent_arrived_channel, modDirection_const]
      rfl
    · rw [copyInDone_answered_outcome, hm]
      rfl
    · exact hasCond_setResult _ _ _ _ (copyInDone_hasCond m _ _ (sent_arrived_arrival _ hrecv))
    · rw [copyInDone_answered_receipts, sent_arrived_receipts _ _ hp, hm]
    · rw [copyInDone_answered_record, sent_arrived_record _ _ h1, hm]
    · rw [copyInDone_answered_role, sent_arrived_role]
  | false =>
    rw [sent_completes_offline hl _ hrecv]
    obtain ⟨hresult, hvalue, hunit, hstaging, hplaces, hgroups, hmemory, hclock, hchannels, hdone⟩ :=
      copyInDone_answered (unsent_spares hb h1) honline
    refine ⟨hresult, hvalue, hunit, hstaging, hplaces, hgroups, hmemory, hclock, hchannels, hdone, fun h => (nomatch h),
      fun _ => ⟨?_, ?_, ?_, ?_, ?_, ?_⟩⟩
    · rw [copyInDone_answered_channel, unsent_channel hcredit]
    · rw [copyInDone_answered_outcome, hm]
      rfl
    · rw [setResult_records, copyInDone_records, unsent_records hrfree h1]
    · rw [setResult_endpoints, copyInDone_endpoints, unsent_endpoints]
    · rw [copyInDone_answered_account, unsent_account hb h1 hp]
    · rw [copyInDone_answered_receipts, unsent_receipts h1 hp honline, hm]
      rfl

end Sys2Proof.Machine
end
